-- ==== Sys2Proof/Word.lean ====
section
/-! DEFINITION. The words of the ZD-418: bytes of frames and rows, 16-bit frame and row checks, and the
lamp word. Everything the manual treats as a number (a count, a time, a temperature) is a `Nat` or an `Int`. -/

namespace Sys2Proof

/-- One byte of a frame, of a stored row or of page memory. -/
abbrev Byte := BitVec 8

/-- A CRC-16 check (R146, R158, R170). -/
abbrev Check := BitVec 16

end Sys2Proof
end

