-- ==== Sys2Proof/Syntax.lean ====
section
/-! DEFINITION. The commands of the ZD-418: one constructor of `Instr` per row of spec/opcode_table.json, with the
operands the chapters give it. A master port request carries its port, the TAG its partner chose and its argument
bytes as R167 lays them out; an event carries what the outside world decides about it (which gate, which level,
which count). -/

namespace Sys2Proof

/-- The three master ports (00_scope 5.4). -/
inductive Port where
  | centre | service | site
  deriving DecidableEq, Repr

/-- A direction of travel: S towards higher segments, N towards lower ones (00_scope 5.3). -/
inductive Dir where
  | S | N
  deriving DecidableEq, Repr

/-- A detection loop zone (R93), in the order of its table. -/
inductive Zone where
  | short | trip | normal | opened
  deriving DecidableEq, Repr

/-- Why a received master port frame was discarded (R158). A gap is ended by a byte, which is then judged in HUNT. -/
inductive DiscardCause where
  | gap (ending : Byte) | check | length | character | overrun
  deriving DecidableEq, Repr

/-- The error status of a field line character (R147). -/
structure CharStatus where
  parity  : Bool
  framing : Bool
  overrun : Bool
  deriving DecidableEq, Repr

/-- Why a field line reply is invalid (R147). `status` carries the error statuses of its characters in order. -/
inductive InvalidCause where
  | badCheck | foreign | badLength | gap
  | status (chars : List CharStatus)
  deriving DecidableEq, Repr

/-- The data of a CONFIRM or STATUS reply as the sign sends it (R169). -/
structure SignReply where
  generation : BitVec 16
  check      : Check
  door       : Byte
  lampFaults : BitVec 16
  deriving DecidableEq, Repr

/-- The commands: one constructor per row of spec/opcode_table.json. -/
inductive Instr where
  -- requests of the master ports (R167): port, TAG, argument bytes
  | orderPost (p : Port) (tag : Byte) (args : List Byte)
  | orderLift (p : Port) (tag : Byte) (args : List Byte)
  | orderRead (p : Port) (tag : Byte) (args : List Byte)
  | orderList (p : Port) (tag : Byte) (args : List Byte)
  | aspectRead (p : Port) (tag : Byte) (args : List Byte)
  | stationRead (p : Port) (tag : Byte) (args : List Byte)
  | channelRead (p : Port) (tag : Byte) (args : List Byte)
  | trimSet (p : Port) (tag : Byte) (args : List Byte)
  | pathRead (p : Port) (tag : Byte) (args : List Byte)
  | pathHold (p : Port) (tag : Byte) (args : List Byte)
  | pathEndHold (p : Port) (tag : Byte) (args : List Byte)
  | pathClear (p : Port) (tag : Byte) (args : List Byte)
  | gateRead (p : Port) (tag : Byte) (args : List Byte)
  | gateInhibit (p : Port) (tag : Byte) (args : List Byte)
  | gateReset (p : Port) (tag : Byte) (args : List Byte)
  | signRead (p : Port) (tag : Byte) (args : List Byte)
  | signPageRead (p : Port) (tag : Byte) (args : List Byte)
  | timeSet (p : Port) (tag : Byte) (args : List Byte)
  | timeRead (p : Port) (tag : Byte) (args : List Byte)
  | imageRead (p : Port) (tag : Byte) (args : List Byte)
  | imageWrite (p : Port) (tag : Byte) (args : List Byte)
  | restart (p : Port) (tag : Byte) (args : List Byte)
  | portStatus (p : Port) (tag : Byte) (args : List Byte)
  -- master port line events
  | frameDiscard (p : Port) (cause : DiscardCause)
  | strayByte (p : Port) (b : Byte)
  | xoff (p : Port)
  | xon (p : Port)
  | portBreak (p : Port)
  | replyPlace (p : Port)
  | noticeSend (p : Port)
  | portFrameSent (p : Port)
  -- the corridor clock and the aspect resolver
  | clockTick
  | passBegin
  | passCompletion
  -- measurement, condition and wind
  | scanTimerExpiry
  | comparatorTrip (count : Fin 65535)
  | countOverflow
  | improvementTimerExpiry (station : Fin 6)
  | anemometerEdge (input : Fin 3) (count : Fin 65536) (highUs : Nat)
  | anemometerCalm (input : Fin 3)
  | windSample
  -- avalanche paths
  | acceptedZone (loop : Fin 12) (zone : Zone)
  | confirmTimerExpiry (path : Fin 12)
  -- snow gates
  | openLimitAccepted (gate : Fin 8) (level : Bool)
  | closedLimitAccepted (gate : Fin 8) (level : Bool)
  | obstructionAccepted (gate : Fin 8) (level : Bool)
  | signWaitExpiry (gate : Fin 8)
  | countdownEnd (gate : Fin 8)
  | travelTimerExpiry (gate : Fin 8)
  | retryDelayExpiry (gate : Fin 8)
  | deadTimeEnd (gate : Fin 8)
  | dutyPeriodEnd (gate : Fin 8)
  | lanternFrameBoundary
  -- sign composition
  | composerTake
  | compositionEnd
  | pageMemoryAccessEnd
  -- field lines
  | pollTimerExpiry (sign : Fin 24)
  | pageTransfer (line : Fin 2)
  | lampTransfer (line : Fin 2)
  | brightnessJob (line : Fin 2)
  | poll (line : Fin 2)
  | pageBlock (line : Fin 2)
  | fieldFrameSent (line : Fin 2)
  | confirm (line : Fin 2) (reply : SignReply)
  | status (line : Fin 2) (reply : SignReply)
  | replyLimitExpiry (line : Fin 2)
  | invalidReply (line : Fin 2) (cause : InvalidCause)
  | strayCharacter (line : Fin 2) (chr : CharStatus)
  -- stored image and starts
  | rowWriteComplete
  | powerUp (kept : Bool)
  | resetPin
  | loopSample (perMille : Vector Nat 12)
  | mainPowerLoss
  | rxFifoOverrun (p : Port)
  | breakEnd (p : Port)
  deriving DecidableEq, Repr

end Sys2Proof
end

