-- ==== Sys2Proof/Decode.lean ====
section
/-! DEFINITION. The commands that the words of spec/opcode_table.json spell. No row of the table gives bits: a command
reaches the ZD-418 as a frame, a pin or a timer, never as a word (notes/assumptions/22.md). -/

namespace Sys2Proof

/-- No row of the table gives bits, so no word spells a command. -/
def decodeTableWord (_nbits _w : Nat) : Option Instr := none

end Sys2Proof
end

