-- ==== Sys2Proof/Config.lean ====
section
/-! DEFINITION. What the manual leaves to the device or does not state: free values, with no body, so that nothing
can be proved about them. (notes/assumptions/4.md and 5.md) -/

namespace Sys2Proof

/-- The factory font (R136): bit `k` of the 6 × 12 mask of character code `code`. The manual does not list the masks. -/
opaque Config.fontBit (code k : Nat) : Bool

/-- The factory pictograms (R137): bit `k` of the 48 × 48 mask of pictogram kind number `kind`. Not listed. -/
opaque Config.pictogramBit (kind k : Nat) : Bool

/-- The factory large digits (R137): bit `k` of the 12 × 24 mask of digit `d`. Not listed. -/
opaque Config.digitBit (d k : Nat) : Bool

/-- The byte `i` (0..31 data, 32 and 33 check, high byte first) that a row write cut off by a start or a loss of main
power leaves in its row (R174: the row "may then fail its check"); `n` numbers the cut-offs. -/
opaque Config.cutByte (n i : Nat) : Byte

end Sys2Proof
end

