-- ==== Sys2Proof/Machine/State.lean ====
section
/-! DEFINITION. The state of the ZD-418, block by block, as the chapters of spec/ give it; the reasons a step can stop;
and the state after reset. Views that the manual names but that are fixed by other fields (a smoothed value, a gust,
the attention output, a pool count) are computed where they are needed, so that each item is stored once. -/

namespace Sys2Proof.Machine

/-! ### Orders (chapter 2) -/

/-- A CLOSE reason, highest rank first (R45). -/
inductive Reason where
  | avalanche | snow | wind | accident | works | other
  deriving DecidableEq, Repr

/-- A set drawn from CHAINS, NO_HGV and NO_TRAILER. -/
structure Restrictions where
  chains    : Bool
  noHgv     : Bool
  noTrailer : Bool
  deriving DecidableEq, Repr

/-- The kind of an order with its value (section 2.1). -/
inductive Content where
  | close (reason : Reason)
  | restrict (set : Restrictions)
  | avwarn (level : Nat)
  | speed (kmh : Nat)
  | notice (id : Nat)
  deriving DecidableEq, Repr

/-- The kinds of section 2.1, in order. -/
inductive Kind where
  | close | restrict | avwarn | speed | notice
  deriving DecidableEq, Repr

def Content.kind : Content → Kind
  | .close _ => .close
  | .restrict _ => .restrict
  | .avwarn _ => .avwarn
  | .speed _ => .speed
  | .notice _ => .notice

/-- The directions of an order. -/
inductive Dirs where
  | S | N | both
  deriving DecidableEq, Repr

inductive Issuer where
  | ctr | avs | site | wx | trip
  deriving DecidableEq, Repr

/-- The states of section 2.6. -/
inductive OrderState where
  | scheduled | announced | active
  deriving DecidableEq, Repr

/-- One entry of the order table (section 2.1). -/
structure Order where
  number    : Nat
  issuer    : Issuer
  content   : Content
  first     : Nat
  last      : Nat
  dirs      : Dirs
  emergency : Bool
  start     : Option Nat
  finish    : Option Nat
  lead      : Nat
  path      : Option Nat
  station   : Option Nat
  state     : OrderState
  stamp     : Nat
  deriving DecidableEq, Repr

/-- Why an entry was retired (R37), in the order of its table. -/
inductive EndReason where
  | lifted (p : Port)
  | cancelled | expired | conditionCleared | pathCleared | holdEnded | purged
  deriving DecidableEq, Repr

/-- ORD: the order table, kept in ascending order of number, and the two counters (R17, R19, R20). Retained. -/
structure OrdUnit where
  table   : List Order
  counter : Nat
  stamps  : Nat
  deriving DecidableEq, Repr

/-! ### Stored image, map and clock (chapters 1 and 11) -/

/-- A stored row: 32 data bytes and its check (R170). -/
structure Row where
  data  : List Byte
  check : Check
  deriving DecidableEq, Repr

/-- Stored rows by number, in canonical form: numbers strictly rising, no entry equal to the erased row. -/
abbrev Rows := List (Nat × Row)

/-- What an unlisted row reads as: 32 zero bytes with a zero check, which does not match them
(DESIGN CHOICE, notes/assumptions/2.md). -/
def Row.erased : Row := ⟨List.replicate 32 0#8, 0#16⟩

/-- The record kinds of R1, in order. -/
inductive RecordKind where
  | header | segment | sign | gate | path | station
  deriving DecidableEq, Repr

/-- The map checks of R11, in order. -/
inductive CheckCode where
  | mc01 | mc02 | mc03 | mc04 | mc05 | mc06 | mc07 | mc08 | mc09 | mc10
  deriving DecidableEq, Repr

/-- One record failing one check. -/
structure MapFailure where
  code  : CheckCode
  kind  : RecordKind
  index : Nat
  deriving DecidableEq, Repr

/-- MAP: the map state and the map fault record (R1). The records themselves are the rows of `ImgUnit.loaded`. -/
structure MapUnit where
  valid : Bool
  first : Option MapFailure
  count : Nat
  deriving DecidableEq, Repr

/-- The causes of a start (R174). -/
inductive StartCause where
  | powerWarm | powerCold | pin | request
  deriving DecidableEq, Repr

/-- A request held by IMG (R172): the row and, for IMAGE_WRITE, the data. `port` is none once a break has discarded the
reply (R160). -/
structure ImgReq where
  port : Option Port
  tag  : Byte
  row  : Nat
  data : Option (List Byte)
  deriving DecidableEq, Repr

/-- IMG: the stored image, its content at the last start with the rows that failed there, the write in flight, the
requests waiting behind it and a waiting RESTART, with the port whose reply it still waits for once the write is complete
(R174); the corridor clock and TIME_UNSET, which are retained; and whether the retained check is good, that is, matches
the retained memory (section 11.3). -/
structure ImgUnit where
  rows       : Rows
  loaded     : Rows
  failed     : List Nat
  written    : List Nat
  writing    : Option ImgReq
  waiting    : List ImgReq
  restarting : Bool
  replyTo    : Option Port
  clock      : Nat
  timeUnset  : Bool
  retained   : Bool
  deriving DecidableEq, Repr

/-! ### Aspect resolution (chapter 3) -/

inductive Closed where
  | no | byOrder | byPropagation
  deriving DecidableEq, Repr

/-- A station class (section 5.1). -/
inductive SurfaceClass where
  | clear | near | freeze | unknown
  deriving DecidableEq, Repr

/-- The condition of an aspect record: a class, or NONE. -/
inductive Condition where
  | clear | near | freeze | unknown | none
  deriving DecidableEq, Repr

/-- One published aspect record (section 3.1). -/
structure Aspect where
  resolved  : Bool
  closed    : Closed
  reason    : Option Reason
  emergency : Bool
  level     : Nat
  restr     : Restrictions
  speed     : Option Nat
  notice    : Option (Nat × Nat)
  announced : Option Nat
  condition : Condition
  deriving DecidableEq, Repr

/-- The placeholder fields of an UNKNOWN record (R41). -/
def Aspect.unknown : Aspect :=
  ⟨false, .no, none, false, 0, ⟨false, false, false⟩, none, none, none, .unknown⟩

/-- What a pass copies of one order entry (section 3.2). -/
structure PassOrder where
  number    : Nat
  content   : Content
  first     : Nat
  last      : Nat
  dirs      : Dirs
  emergency : Bool
  start     : Option Nat
  state     : OrderState
  stamp     : Nat
  deriving DecidableEq, Repr

/-- What a pass copies of one segment record (section 3.2). -/
structure PassSegment where
  turn    : Bool
  station : Option Nat
  base    : Option Nat
  deriving DecidableEq, Repr

/-- The inputs of the pass in flight, as copied at its start (R42, R43). -/
structure PassCopy where
  orders   : List PassOrder
  segments : List PassSegment
  classes  : List SurfaceClass
  deriving DecidableEq, Repr

/-- RSV: the published table in record order (R41), its generation (retained), the dirty flag and the pass. The work copy
is a function of the pass copy, made at the completion. -/
structure RsvUnit where
  published  : Vector Aspect 32
  generation : Nat
  dirty      : Bool
  pass       : Option PassCopy
  deriving DecidableEq, Repr

/-! ### Measurement (chapter 4) -/

inductive Quality where
  | fresh | held | stale
  deriving DecidableEq, Repr

/-- The flags of a result (R69). -/
structure ResultFlags where
  overrange   : Bool
  clamped     : Bool
  trimDefault : Bool
  uncorrected : Bool
  deriving DecidableEq, Repr

/-- The trim of a channel (R63, R68). -/
structure Trim where
  gain   : Nat
  offset : Int
  sa     : Int
  sb     : Int
  sc     : Int
  sd     : Int
  deriving DecidableEq, Repr

/-- The default trim of R63. -/
def Trim.default : Trim := ⟨2048, 0, 0, 0, 0, 0⟩

/-- One entry of the runtime channel table. `defaulted` holds until a TRIM_SET replaces a defaulted trim (R63). -/
structure ChanCfg where
  enable    : Bool
  trim      : Trim
  defaulted : Bool
  deriving DecidableEq, Repr

/-- The published state of one channel. The smoothed value is the mean of `ring` (oldest first). Channel 0 uses
`lastCount` (the last Cref) alone. -/
structure Chan where
  lastCount : Option Nat
  lastN     : Option Nat
  result    : Option Int
  flags     : ResultFlags
  ring      : List Int
  quality   : Quality
  miss      : Nat
  deriving DecidableEq, Repr

/-- R77: a channel at a start. -/
def Chan.atStart : Chan := ⟨none, none, none, ⟨false, false, false, false⟩, [], .stale, 3⟩

/-- The scan in flight (R59): its copy of the channel table, the working set, Cref once captured, the channels still to
convert (the head is converting), the channels that received a result, and K with the UNCORRECTED mark. -/
structure Scan where
  copy        : Vector ChanCfg 16
  work        : Vector Chan 16
  cref        : Option Nat
  todo        : List (Fin 16)
  got         : List (Fin 16)
  k           : Nat
  uncorrected : Bool
  deriving DecidableEq, Repr

/-- An anemometer input (R72): the period timer in units of 100 µs as last known, whether an edge has started it since
the start or CALM, and the latest complete period. -/
structure Anemometer where
  timer  : Nat
  timing : Bool
  period : Option Nat
  deriving DecidableEq, Repr

/-- One wind sample (R73, R74). -/
structure WindSample where
  speed   : Nat
  clamped : Bool
  deriving DecidableEq, Repr

/-- MEA. `lastGood` says whether the last scan was good or REF_FAULT. `wind` holds each station's ring, oldest first. -/
structure MeaUnit where
  table       : Vector ChanCfg 16
  lastEnables : Vector Bool 16
  scan        : Option Scan
  scanTimer   : Nat
  chans       : Vector Chan 16
  scanNumber  : Nat
  lastGood    : Option Bool
  refFaults   : Nat
  k           : Nat
  anemometers : Vector Anemometer 3
  wind        : Vector (List WindSample) 6
  deriving DecidableEq, Repr

/-! ### Condition (chapter 5) -/

/-- The raw class of a result (R80). -/
inductive RawClass where
  | clear | near | freeze
  deriving DecidableEq, Repr

inductive WindState where
  | normal | strong | storm
  deriving DecidableEq, Repr

/-- CND, one station (section 5.1). `margin` is M of the last FRESH result (R84, R92). -/
structure Station where
  cls           : SurfaceClass
  raw           : Option RawClass
  margin        : Option Int
  counter       : Nat
  runBest       : Option RawClass
  timer         : Option Nat
  clearThrough  : Bool
  snow          : Bool
  wind          : WindState
  windCount     : Option Nat
  normalThrough : Bool
  surface       : Quality
  air           : Quality
  ready         : Bool
  supSpeed      : Bool
  supRestrict   : Bool
  supClose      : Bool
  deriving DecidableEq, Repr

/-- R78: a station at a start. -/
def Station.atStart : Station :=
  ⟨.unknown, none, none, 0, none, none, false, false, .normal, none, false, .stale, .stale, false, false, false, false⟩

/-! ### Avalanche paths (chapter 6) -/

inductive PathState where
  | quiet | tripped | latched | holdPending | hold
  deriving DecidableEq, Repr

/-- An unmet item of the confirmation test (R102), or the cause TRIPPED (R104). -/
inductive Unmet where
  | segment (s : Nat) (d : Dir)
  | gate (g : Nat)
  | sign (i : Nat)
  | tripped
  deriving DecidableEq, Repr

/-- AVP, one path. -/
structure Path where
  state     : PathState
  zone      : Option Zone
  candidate : Option Zone
  debounce  : Nat
  tripOrder : Option Nat
  holdOrder : Option Nat
  timer     : Option Nat
  released  : Bool
  trips     : Nat
  unmet     : Option Unmet
  deriving DecidableEq, Repr

/-- R111: a path at a start that nothing rebuilds. -/
def Path.atStart : Path := ⟨.quiet, none, none, 0, none, none, none, false, 0, none⟩

/-! ### Snow gates (chapter 7) -/

inductive GatePos where
  | opened | prewarn | closing | closed | opening | blocked | fault
  deriving DecidableEq, Repr

inductive FaultCause where
  | travelTimeout | retriesExhausted | limitConflict | displaced
  deriving DecidableEq, Repr

inductive Demand where
  | opened | closed
  deriving DecidableEq, Repr

inductive PrewarnPhase where
  | signWait | countdown | obstructed
  deriving DecidableEq, Repr

inductive CountKind where
  | normal | emergency
  deriving DecidableEq, Repr

/-- The condition of a gate's drive (R124). -/
inductive Drive where
  | off | dead | lower | raise
  deriving DecidableEq, Repr

inductive DriveLine where
  | lower | raise
  deriving DecidableEq, Repr

/-- The lantern patterns (R126). -/
inductive Lantern where
  | prewarn | moving | closed | fault | dark
  deriving DecidableEq, Repr

/-- GTC, one gate (section 7.1). BLOCKED is in its waiting phase while `retryTimer` runs (R119). `waitingLine` is the
request waiting in a dead time (R124). `periods` counts the 20 ms periods the running line has run (R125). -/
structure Gate where
  state       : GatePos
  cause       : Option FaultCause
  demand      : Option Demand
  emergency   : Bool
  demandGen   : Option Nat
  inhibit     : Bool
  retries     : Nat
  phase       : Option PrewarnPhase
  countKind   : Option CountKind
  remaining   : Nat
  signTimer   : Option Nat
  travel      : Option Nat
  retryTimer  : Option Nat
  drive       : Drive
  waitingLine : Option DriveLine
  periods     : Nat
  duty        : Nat
  lantern     : Lantern
  openLimit   : Bool
  closedLimit : Bool
  obstruction : Bool
  deriving DecidableEq, Repr

/-- A gate that no record uses: placeholder values, never reported (DESIGN CHOICE, notes/assumptions/3.md). -/
def Gate.unused : Gate :=
  ⟨.opened, none, none, false, none, false, 0, none, none, 0, none, none, none, .off, none, 0, 0, .dark,
    false, false, false⟩

/-- The levels at the three input pins of a gate group. -/
structure GatePins where
  openLimit   : Bool
  closedLimit : Bool
  obstruction : Bool
  deriving DecidableEq, Repr

/-! ### Signs and field lines (chapters 8 and 9) -/

/-- The form of a CLOSURE element (R131). -/
inductive ClosureForm where
  | roadClosed (reason : Option Reason)
  | closedAhead
  deriving DecidableEq, Repr

/-- The elements of R131, in priority order. The emergency field is content on LAMP signs alone. -/
inductive Element where
  | closure (form : ClosureForm) (emergency : Option Bool)
  | announce (minute : Nat)
  | avalanche (level : Nat)
  | restrict (set : Restrictions)
  | speed (kmh : Nat)
  | ice
  | notice (id : Nat)
  deriving DecidableEq, Repr

/-- The pages of a MATRIX content, or the words of a LAMP content. -/
inductive Face where
  | pages (count : Nat)
  | lamps (word flash : Byte)
  deriving DecidableEq, Repr

/-- A composed content (chapter 8). -/
structure Composed where
  list       : List Element
  generation : Nat
  face       : Face
  mark       : Bool
  check      : Check
  deriving DecidableEq, Repr

inductive Link where
  | unknown | pending | confirmed | mismatch | offline | fault
  deriving DecidableEq, Repr

/-- One sign: SCP's items and FLC's (the link state and the transfer flag are one item, reported as they change). -/
structure Sign where
  bufA       : Option Composed
  bufB       : Option Composed
  liveIsA    : Bool
  lastList   : Option (List Element)
  dropped    : Nat
  brightness : Nat
  light      : Option Int
  link       : Link
  transfer   : Bool
  composing  : Bool
  confirmed  : Bool
  noReply    : Nat
  mismatch   : Nat
  pollTimer  : Nat
  repGen     : Option Nat
  repCheck   : Option Check
  door       : Option Bool
  lampFaults : Option Nat
  degraded   : Bool
  deriving DecidableEq, Repr

/-- R130, R155: a sign at a start. -/
def Sign.atStart : Sign :=
  ⟨none, none, true, none, 0, 16, none, .unknown, false, false, false, 0, 0, 0, none, none, none, none, false⟩

/-- The pictogram kinds of R137, in order. -/
inductive PictKind where
  | reason (r : Reason)
  | closedAhead | avalanche | chains | noHgv | noTrailer | speed | ice
  deriving DecidableEq, Repr

inductive Glyph where
  | char (code : Nat)
  | digit (d : Nat)
  | pictogram (kind : PictKind)
  deriving DecidableEq, Repr

/-- One composer access (R143): clearing one page, or drawing one mask window (R135). -/
inductive DrawOp where
  | clear (page : Nat)
  | window (page x0 y0 x1 y1 : Nat) (glyph : Glyph) (colour : Nat)
  deriving DecidableEq, Repr

/-- The composition in flight (R142): the list it draws, its generation and the accesses still to make. -/
structure Composition where
  sign       : Fin 24
  list       : List Element
  generation : Nat
  todo       : List DrawOp
  deriving DecidableEq, Repr

/-- A SIGN_PAGE_READ waiting for page memory (R145). `owed` is cleared when a break discards its reply (R160). -/
structure PageReq where
  owed  : Bool
  tag   : Byte
  sign  : Fin 24
  draft : Bool
  page  : Nat
  block : Nat
  deriving DecidableEq, Repr

/-- Who holds page memory (R143). A port's reply is formed at the grant; it is none once a break has discarded it. -/
inductive Holder where
  | composer
  | line (l : Fin 2)
  | port (p : Port) (reply : Option (List Byte))
  deriving DecidableEq, Repr

/-- The page memory arbiter: the holder, the waiting requesters, and the lines and ports in the order in which they were
served, least recently first. The head of a port's list is its waiting request; only a read that a break cut off from its
port can have another one behind it (notes/assumptions/10.md). -/
structure Arbiter where
  holder       : Option Holder
  composerWait : Bool
  lineWait     : Vector Bool 2
  portWait     : Vector (List PageReq) 3
  lineOrder    : List (Fin 2)
  portOrder    : List Port
  deriving DecidableEq, Repr

/-- The arbiter at a start (R130). The first turns are a DESIGN CHOICE (notes/assumptions/10.md). -/
def Arbiter.atStart : Arbiter :=
  ⟨none, false, Vector.replicate 2 false, Vector.replicate 3 [], [0, 1], [.centre, .service, .site]⟩

/-- SCP: the compose queue, the composer, the arbiter and page memory. Page memory is the list of the bytes that are not
zero, at strictly rising addresses; byte `b` of page `p` of buffer `f` (A 0, B 1) of sign `i` is at address
`((2 * i + f) * 2 + p) * 1152 + b`. -/
structure ScpUnit where
  queue    : List (Fin 24)
  composer : Option Composition
  arbiter  : Arbiter
  memory   : List Host.Cell
  deriving DecidableEq, Repr

/-- The kinds of job on a service queue (R148). -/
inductive JobKind where
  | page (generation pages dwell : Nat)
  | lamp (generation : Nat)
  | bright
  deriving DecidableEq, Repr

structure Job where
  sign  : Fin 24
  kind  : JobKind
  level : Nat
  deriving DecidableEq, Repr

inductive LinePhase where
  | idle | transmit | replyWait
  deriving DecidableEq, Repr

inductive TransKind where
  | page (generation pages dwell : Nat)
  | lamp (generation : Nat)
  | bright
  | poll
  deriving DecidableEq, Repr

/-- The transaction in progress on a line. `sent` counts the PAGE_BLOCK frames sent, plus one once PAGE_END is sent;
`granted` says that the read it waits for has been granted (R150). -/
structure Trans where
  kind    : TransKind
  sign    : Fin 24
  level   : Nat
  sent    : Nat
  granted : Bool
  deriving DecidableEq, Repr

/-- The line counters (chapter 9), each saturating at 65535. -/
structure LineCounters where
  parity   : Nat
  framing  : Nat
  overrun  : Nat
  check    : Nat
  stray    : Nat
  foreign  : Nat
  noReply  : Nat
  deriving DecidableEq, Repr

/-- FLC, one field line. `wire` is the frame being transmitted; `badReply` says that an invalid reply has been received
and the line waits out the reply limit (R147). `rx` is the receive FIFO: FLC takes characters as they arrive, so it is
empty between two steps. -/
structure Line where
  phase    : LinePhase
  trans    : Option Trans
  wire     : Option (List Byte)
  badReply : Bool
  queue    : List Job
  pollPtr  : Option Nat
  rx       : List CharStatus
  counters : LineCounters
  deriving DecidableEq, Repr

/-- R155: a line at a start. -/
def Line.atStart : Line := ⟨.idle, none, none, false, [], none, [], ⟨0, 0, 0, 0, 0, 0, 0⟩⟩

/-! ### Events and master ports (chapter 10) -/

/-- The events of R167 with the fields their chapters give. -/
inductive Event where
  | restarted (cause : StartCause) (map : MapUnit) (trims policies notices pictograms : Nat) (generation : Nat)
      (timeUnset : Bool)
  | portReset (p : Port)
  | orderAdmitted (o : Order)
  | orderRenewed (o : Order)
  | orderState (number : Nat) (state : OrderState) (stamp : Nat)
  | orderEnded (number : Nat) (issuer : Issuer) (kind : Kind) (reason : EndReason)
  | aspectChanged (generation : Nat) (mask : BitVec 32)
  | stationQuality (k : Nat) (surface air : Quality)
  | stationClass (k : Nat) (old new : SurfaceClass) (margin : Option Int)
  | windState (k : Nat) (state : WindState) (gust mean : Nat)
  | loopZone (loop path : Nat) (zone : Zone) (state : PathState)
  | pathTripped (path : Nat) (order : Option Nat) (trips : Nat)
  | pathLineFault (path loop : Nat) (zone : Zone)
  | holdConfirmed (path : Nat) (order : Option Nat) (generation : Nat)
  | holdFailed (path : Nat) (order : Option Nat) (cause : Option Unmet)
  | holdBroken (path : Nat) (order : Option Nat) (item : Unmet)
  | pathReleased (path : Nat) (order : Option Nat) (trips : Nat)
  | gateState (g : Nat) (state : GatePos) (cause : Option FaultCause) (inhibit : Bool) (demand : Option Demand)
      (emergency : Bool) (retries : Nat)
  | gateFault (g : Nat) (cause : FaultCause)
  | gateSignsUnconfirmed (g : Nat) (signs : List Nat)
  | signDoor (i : Nat) (opened : Bool)
  | signDegraded (i : Nat) (count limit : Nat)
  deriving DecidableEq, Repr

/-- An event as recorded: with the corridor time and the state of TIME_UNSET at that moment (R163). -/
structure Notice where
  event : Event
  time  : Nat
  unset : Bool
  deriving DecidableEq, Repr

/-- The receive phase: HUNT, or IN_FRAME with the bytes gathered after the lead (R158). -/
inductive RxPhase where
  | hunt
  | inFrame (bytes : List Byte)
  deriving DecidableEq, Repr

inductive ServicePhase where
  | ready | serving | replyWait
  deriving DecidableEq, Repr

/-- The discard counters (chapter 10), each saturating at 65535. -/
structure DiscardCounters where
  gap       : Nat
  check     : Nat
  length    : Nat
  character : Nat
  overrun   : Nat
  stray     : Nat
  deriving DecidableEq, Repr

/-- PRT, one port. `passed` holds the bodies of the frames that passed the decoder and wait in the RX FIFO for the port to
be READY (R161); `overrunNext` says that the next character carries the overrun status (R157); `spacing` holds from a
break until the line marks (R160); `tx` holds the whole frames of the TX FIFO, the one in transmission first; `reply` is
the body of the formed reply that waits for room. -/
structure PortUnit where
  rx          : RxPhase
  passed      : List (List Byte)
  overrunNext : Bool
  spacing     : Bool
  tx          : List (List Byte)
  service     : ServicePhase
  reply       : Option (List Byte)
  xoff        : Bool
  notices     : List Notice
  lost        : Nat
  counters    : DiscardCounters
  deriving DecidableEq, Repr

/-- R166: a port at a start. Its line counts as marking again and no overrun status is pending (DESIGN CHOICE,
notes/assumptions/37.md). -/
def PortUnit.atStart : PortUnit := ⟨.hunt, [], false, false, [], .ready, none, false, [], 0, ⟨0, 0, 0, 0, 0, 0⟩⟩

/-! ### The machine -/

/-- The device. `powered` is the main supply; `cuts` numbers the row writes that were cut off (it selects the free value
of R174, the model's own field); `pending` is the queue of waiting commands, first in, first out. -/
structure State where
  powered : Bool
  img     : ImgUnit
  map     : MapUnit
  ord     : OrdUnit
  rsv     : RsvUnit
  mea     : MeaUnit
  cnd     : Vector Station 6
  avp     : Vector Path 12
  gtc     : Vector Gate 8
  pins    : Vector GatePins 8
  scp     : ScpUnit
  signs   : Vector Sign 24
  flc     : Vector Line 2
  prt     : Vector PortUnit 3
  cuts    : Nat
  pending : List Instr
  deriving DecidableEq, Repr

/-- The faults of the machine: none. Every error that the manual describes (a refused request, a gate in FAULT, a
discarded frame) is an effect on the state after which the device goes on. -/
inductive Fault where
  deriving DecidableEq, Repr

/-- The reasons the model refuses a command. -/
inductive Refusal where
  /-- Raised by `exec` alone, for a command that has no meaning yet. Safe: the model stops. No command is refused so. -/
  | notModelled (mnemonic : String)
  deriving DecidableEq, Repr

/-! ### Reset: right after a cold start from an erased stored image (notes/assumptions/1.md, 2.md, 3.md) -/

/-- MC01 on the header row (R11): no record is present. -/
def MapUnit.erased : MapUnit := ⟨false, some ⟨.mc01, .header, 0⟩, 1⟩

/-- The rows a start checks in an erased image, all of which fail: the header (row 0) and rows 67 to 457. -/
def failedErased : List Nat := 0 :: (List.range 391).map (· + 67)

/-- The channel table of a start whose header and trim rows failed (R16, R63). -/
def tableErased : Vector ChanCfg 16 := Vector.replicate 16 ⟨true, .default, true⟩

/-- MEA at a start with the given channel table and first scan list: the first scan has begun (R58, R77). -/
def MeaUnit.atStart (table : Vector ChanCfg 16) (todo : List (Fin 16)) : MeaUnit where
  table       := table
  lastEnables := Vector.ofFn (fun c : Fin 16 => table[c].enable)
  scan        := some ⟨table, Vector.replicate 16 .atStart, none, todo, [], 130, false⟩
  scanTimer   := 0
  chans       := Vector.replicate 16 .atStart
  scanNumber  := 0
  lastGood    := none
  refFaults   := 0
  k           := 130
  anemometers := Vector.replicate 3 ⟨0, false, none⟩
  wind        := Vector.replicate 6 []

/-- A port right after the reset: RESTARTED is its first and only notice (R166, R174). -/
def PortUnit.afterReset : PortUnit :=
  { PortUnit.atStart with notices := [⟨.restarted .powerCold .erased 15 4 255 117 0 true, 0, true⟩] }

/-- The machine right after reset: a cold start (R40, R55, R77, R78, R111, R129, R130, R155, R166, R174) from an erased
stored image, hence under MAP_INVALID. -/
def State.reset : State where
  powered := true
  img     := ⟨[], [], failedErased, [], none, [], false, none, 0, true, true⟩
  map     := .erased
  ord     := ⟨[], 0, 0⟩
  rsv     := ⟨Vector.replicate 32 .unknown, 0, true, none⟩
  mea     := .atStart tableErased (List.finRange 16)
  cnd     := Vector.replicate 6 .atStart
  avp     := Vector.replicate 12 .atStart
  gtc     := Vector.replicate 8 .unused
  pins    := Vector.replicate 8 ⟨false, false, false⟩
  scp     := ⟨[], none, .atStart, []⟩
  signs   := Vector.replicate 24 .atStart
  flc     := Vector.replicate 2 .atStart
  prt     := Vector.replicate 3 .afterReset
  cuts    := 0
  pending := []

end Sys2Proof.Machine
end

