-- ==== Sys2Proof/Machine/Layout.lean ====
section
/-! DEFINITION. Numbers and bytes: the rounding of 00_scope 5.2, the byte order and the absent values of R167, the CRC-16
of R146, the frames of R167 and R169, and reading fields of rows and argument lists (R171). -/

namespace Sys2Proof.Machine

/-! ### Arithmetic -/

/-- Quotient by a positive divisor to the nearest integer, halves away from zero (00_scope 5.2). -/
def roundDiv (a : Int) (b : Nat) : Int :=
  if 0 ≤ a then (2 * a + b) / (2 * b) else -((2 * (-a) + b) / (2 * b))

/-- `z` brought into `lo..hi`. -/
def clampInt (lo hi z : Int) : Int := if z < lo then lo else if hi < z then hi else z

/-- `n` brought into `lo..hi`. -/
def clampNat (lo hi n : Nat) : Nat := if n < lo then lo else if hi < n then hi else n

/-- Add to a counter that saturates at `top`. -/
def satAdd (top n k : Nat) : Nat := if top < n + k then top else n + k

/-- The mean of a list, rounded; none of an empty list (R70, R74). -/
def meanOf (l : List Int) : Option Int := if l.isEmpty then none else some (roundDiv l.sum l.length)

/-- `n` as an index below `k`, when it is one. -/
def finOf (k n : Nat) : Option (Fin k) := if h : n < k then some ⟨n, h⟩ else none

/-! ### Writing numbers (R167: high byte first, signed numbers in two's complement) -/

def byteOf (n : Nat) : Byte := BitVec.ofNat 8 n

def put8 (n : Nat) : List Byte := [byteOf n]

def put16 (n : Nat) : List Byte := [byteOf (n / 256), byteOf n]

def put32 (n : Nat) : List Byte := [byteOf (n / 16777216), byteOf (n / 65536), byteOf (n / 256), byteOf n]

def putFlag (b : Bool) : List Byte := [if b then 1#8 else 0#8]

def putInt16 (z : Int) : List Byte := put16 (z % 65536).toNat

def putInt8 (z : Int) : List Byte := put8 (z % 256).toNat

/-- Absent fields (R167): 1 byte as 0xFF. -/
def putOpt8 : Option Nat → List Byte
  | some n => put8 n
  | none => [0xFF#8]

/-- An absent unsigned field of 2 bytes: every bit set. -/
def putOpt16 : Option Nat → List Byte
  | some n => put16 n
  | none => [0xFF#8, 0xFF#8]

/-- An absent field of 4 bytes: every bit set. -/
def putOpt32 : Option Nat → List Byte
  | some n => put32 n
  | none => [0xFF#8, 0xFF#8, 0xFF#8, 0xFF#8]

/-- An absent signed field of 2 bytes: 0x8000. -/
def putOptInt16 : Option Int → List Byte
  | some z => putInt16 z
  | none => [0x80#8, 0x00#8]

/-- An absent order number: 0. -/
def putOrderNumber : Option Nat → List Byte
  | some n => put16 n
  | none => [0#8, 0#8]

def putOptFlag : Option Bool → List Byte
  | some b => putFlag b
  | none => [0xFF#8]

/-- A list of ids: a count byte, then the ids (R167). -/
def putIds (l : List Nat) : List Byte := put8 l.length ++ l.flatMap put8

/-! ### Reading fields (R171): unsigned and signed numbers at a byte offset -/

def get8 (l : List Byte) (i : Nat) : Nat := (l.getD i 0#8).toNat

def get16 (l : List Byte) (i : Nat) : Nat := get8 l i * 256 + get8 l (i + 1)

def get32 (l : List Byte) (i : Nat) : Nat := get16 l i * 65536 + get16 l (i + 2)

/-- `n` of `bits` bits read in two's complement. -/
def signedOf (bits n : Nat) : Int := if n < 2 ^ (bits - 1) then n else (n : Int) - 2 ^ bits

def getInt8 (l : List Byte) (i : Nat) : Int := signedOf 8 (get8 l i)

def getInt16 (l : List Byte) (i : Nat) : Int := signedOf 16 (get16 l i)

/-- A 1-byte field with none as 0xFF. -/
def getOpt8 (l : List Byte) (i : Nat) : Option Nat := if get8 l i = 255 then none else some (get8 l i)

/-- A list of ids in `n` bytes from offset `i`: the ids before the first 0xFF (R171). Of a list with a gap, which fails MC03,
the ids behind the gap are not read (DESIGN CHOICE, notes/assumptions/27.md). -/
def getIds (l : List Byte) (i n : Nat) : List Nat := (((l.drop i).take n).map BitVec.toNat).takeWhile (· ≠ 255)

/-- Bit `b` of byte `i`. -/
def getBit (l : List Byte) (i b : Nat) : Bool := (get8 l i).testBit b

/-! ### The check (R146): CRC-16, polynomial x¹⁶+x¹²+x⁵+1, initial value 0xFFFF, no reflection, no final inversion -/

/-- One bit of the CRC. -/
def crcShift (c : Check) : Check := if c.msb then (c <<< 1) ^^^ 0x1021#16 else c <<< 1

/-- One byte of the CRC, its high bit first. -/
def crcByte (c : Check) (b : Byte) : Check :=
  crcShift (crcShift (crcShift (crcShift (crcShift (crcShift (crcShift (crcShift
    (c ^^^ ((b.zeroExtend 16) <<< 8)))))))))

def crc16 (l : List Byte) : Check := l.foldl crcByte 0xFFFF#16

/-! ### Frames -/

def masterLead : Byte := 0xD2#8

def xoffByte : Byte := 0x13#8

def xonByte : Byte := 0x11#8

/-- LEN and body of a master port frame, over which its check runs (R158, R167). -/
def lenBody (body : List Byte) : List Byte := byteOf body.length :: body

/-- A master port frame (R167): lead, LEN, body, CRC-16 over LEN and body, high byte first. -/
def masterFrame (body : List Byte) : List Byte :=
  masterLead :: (lenBody body ++ put16 (crc16 (lenBody body)).toNat)

/-- A field line frame (R146, R169): lead 0xC3, drop address, kind, length, data, check over all but the lead. -/
def fieldFrame (address kind : Nat) (data : List Byte) : List Byte :=
  0xC3#8 :: (([byteOf address, byteOf kind, byteOf data.length] ++ data) ++
    put16 (crc16 ([byteOf address, byteOf kind, byteOf data.length] ++ data)).toNat)

end Sys2Proof.Machine
end

