-- ==== Sys2Proof/Machine/Image.lean ====
section
/-! DEFINITION. The stored image (chapter 11): reading and writing rows, the row checks of a start, and the records,
trims and policies that the rows loaded at the last start hold (R171). -/

namespace Sys2Proof.Machine

/-! ### Rows -/

/-- The row stored under `r`, when it is listed. -/
def Rows.find : Rows → Nat → Option Row
  | [], _ => none
  | (q, x) :: t, r => if q = r then some x else Rows.find t r

/-- Row `r` of the image; an unlisted row reads as erased. -/
def Rows.get (m : Rows) (r : Nat) : Row := (m.find r).getD .erased

/-- Write row `r`, keeping the canonical form. -/
def Rows.set : Rows → Nat → Row → Rows
  | [], r, x => if x = .erased then [] else [(r, x)]
  | (q, y) :: t, r, x =>
    if r < q then (if x = .erased then (q, y) :: t else (r, x) :: (q, y) :: t)
    else if r = q then (if x = .erased then t else (r, x) :: t)
    else (q, y) :: Rows.set t r x

/-- The canonical form: numbers strictly rising from `lo`, no entry equal to the erased row. -/
def Rows.wfFrom : Nat → Rows → Bool
  | _, [] => true
  | lo, (q, x) :: t => decide (lo ≤ q) && decide (x ≠ .erased) && Rows.wfFrom (q + 1) t

def Rows.wf (m : Rows) : Bool := m.wfFrom 0

/-- A row passes when the CRC-16 of its data equals its stored check (R170). -/
def Row.passes (x : Row) : Bool := decide (crc16 x.data = x.check)

/-- Row `r` passes its check. An erased row does not (`Row.erased_fails`). -/
def Rows.passes (m : Rows) (r : Nat) : Bool :=
  match m.find r with
  | none => false
  | some x => x.passes

/-! ### Record counts and the row checks of a start (R1, R170) -/

def rowOfSegment (i : Nat) : Nat := 1 + i
def rowOfSign (i : Nat) : Nat := 17 + i
def rowOfGate (i : Nat) : Nat := 41 + i
def rowOfPath (i : Nat) : Nat := 49 + i
def rowOfStation (i : Nat) : Nat := 61 + i
def rowOfTrim (c : Nat) : Nat := 66 + c
def liftRow : Nat := 82
def permissionRow : Nat := 83
def portLineRow : Nat := 84
def displayRow : Nat := 85
def rowOfNotice (id : Nat) : Nat := 85 + id
def rowOfPictogram (kind j : Nat) : Nat := 341 + 9 * kind + j

/-- The record counts that a header gives, each brought into its range (R1). -/
structure Counts where
  segments : Nat
  signs    : Nat
  gates    : Nat
  paths    : Nat
  stations : Nat
  deriving DecidableEq, Repr

def Counts.ofHeader (h : List Byte) : Counts :=
  ⟨clampNat 1 16 (get8 h 0), clampNat 0 24 (get8 h 1), clampNat 0 8 (get8 h 2), clampNat 0 12 (get8 h 3),
    clampNat 0 6 (get8 h 4)⟩

/-- The map rows of the present records. -/
def Counts.rows (c : Counts) : List Nat :=
  (List.range c.segments).map rowOfSegment ++ (List.range c.signs).map rowOfSign ++
    (List.range c.gates).map rowOfGate ++ (List.range c.paths).map rowOfPath ++
    (List.range c.stations).map rowOfStation

/-- The policy rows and trim rows hold values within their stated ranges (R171). -/
def trimInRange (d : List Byte) : Bool :=
  decide (get16 d 0 ≤ 16383) && decide (-4096 ≤ getInt16 d 2 ∧ getInt16 d 2 ≤ 4095)

def portLineInRange (d : List Byte) : Bool :=
  [0, 5, 10].all fun i => decide (1200 ≤ get32 d i ∧ get32 d i ≤ 115200) && decide (get8 d (i + 4) ≤ 1)

def displayInRange (d : List Byte) : Bool :=
  (List.range 7).all (fun i => decide (get8 d (23 + i) ≤ 3)) && decide (1 ≤ get8 d 30 ∧ get8 d 30 ≤ 10)

def policyInRange (r : Nat) (d : List Byte) : Bool :=
  if r = portLineRow then portLineInRange d
  else if r = displayRow then displayInRange d
  else if 67 ≤ r ∧ r ≤ 81 then trimInRange d
  else true

/-- The rows that fail at a start (R170, R171): the header, the present map rows when the header passed, and every trim,
policy, notice and pictogram row. Rows of absent records and free rows are not checked. -/
def Rows.failing (m : Rows) : List Nat :=
  ((0 :: (if m.passes 0 then (Counts.ofHeader (m.get 0).data).rows else [])) ++
    (List.range 391).map (· + 67)).filter
      (fun r => !(m.passes r && policyInRange r (m.get r).data))

/-- How many of the failed rows lie in `lo..hi` (the counts of RESTARTED, R170). -/
def countFailed (failed : List Nat) (lo hi : Nat) : Nat := (failed.filter (fun r => lo ≤ r && r ≤ hi)).length

/-! ### The rows loaded at the last start -/

namespace ImgUnit

/-- Row `r` passed at the last start. -/
def ok (m : ImgUnit) (r : Nat) : Bool := !m.failed.contains r

def row (m : ImgUnit) (r : Nat) : List Byte := (m.loaded.get r).data

/-- The header, when it passed MC01. -/
def header (m : ImgUnit) : Option (List Byte) := if m.ok 0 then some (m.row 0) else none

/-- The counts of present records; none are present when the header failed (R1). -/
def counts (m : ImgUnit) : Counts :=
  match m.header with
  | some h => .ofHeader h
  | none => ⟨0, 0, 0, 0, 0⟩

def nseg (m : ImgUnit) : Nat := m.counts.segments

end ImgUnit

/-! ### Records (R171) -/

structure SignRec where
  line   : Nat
  addr   : Nat
  matrix : Bool
  facing : Dir
  first  : Nat
  last   : Nat
  turned : Bool
  light  : Nat
  poll   : Nat
  lamps  : List Nat
  deriving DecidableEq, Repr

structure GateRec where
  seg        : Nat
  dir        : Dir
  approach   : List Nat
  prewarn    : Nat
  emergency  : Nat
  signWait   : Nat
  travel     : Nat
  retryLimit : Nat
  retryDelay : Nat
  startDuty  : Nat
  ramp       : Nat
  slots      : List Nat
  deriving DecidableEq, Repr

structure PathRec where
  first      : Nat
  last       : Nat
  input      : Option Nat
  debounce   : Nat
  failClosed : Bool
  confirm    : Nat
  barriers   : List Nat
  deriving DecidableEq, Repr

structure StationRec where
  wind        : Option Nat
  tf          : Int
  band        : Nat
  hyst        : Nat
  wc          : Nat
  hold        : Nat
  snow        : Int
  freezeSpeed : Option Nat
  nearSpeed   : Option Nat
  a           : Nat
  strong      : Nat
  storm       : Nat
  windHyst    : Nat
  windHold    : Nat
  deriving DecidableEq, Repr

/-- A direction code. A code outside its values fails MC03, and MC07 and MC10, which are evaluated all the same, read it as
S (DESIGN CHOICE, notes/assumptions/27.md). -/
def dirOf (n : Nat) : Dir := if n = 1 then .N else .S

/-- A segment record. A turn point code outside its values fails MC03, and MC10 reads it as no turn point (DESIGN CHOICE,
notes/assumptions/27.md). -/
def parseSegment (d : List Byte) : PassSegment := ⟨get8 d 0 == 1, getOpt8 d 1, getOpt8 d 2⟩

/-- A sign record. A class code above 1 fails MC03, and SIGN_PAGE_READ takes it as LAMP (DESIGN CHOICE,
notes/assumptions/33.md). -/
def parseSign (d : List Byte) : SignRec :=
  ⟨get8 d 0, get8 d 1, get8 d 2 == 0, dirOf (get8 d 3), get8 d 4, get8 d 5, get8 d 6 == 1, get8 d 7, get8 d 8,
    (List.range 8).map (fun j => get8 d (9 + j))⟩

def parseGate (d : List Byte) : GateRec :=
  ⟨get8 d 0, dirOf (get8 d 1), getIds d 2 3, get16 d 5, get16 d 7, get16 d 9, get8 d 11, get8 d 12, get8 d 13,
    get8 d 14, get8 d 15, (List.range 4).map (fun j => get8 d (16 + j))⟩

def parsePath (d : List Byte) : PathRec :=
  ⟨get8 d 0, get8 d 1, getOpt8 d 2, get8 d 3, get8 d 4 == 0, get16 d 5, getIds d 7 4⟩

def parseStation (d : List Byte) : StationRec :=
  ⟨getOpt8 d 0, getInt16 d 1, get8 d 3, get8 d 4, get8 d 5, get8 d 6, getInt16 d 7, getOpt8 d 9, getOpt8 d 10,
    get32 d 11, get16 d 15, get16 d 17, get16 d 19, get8 d 21⟩

/-- The index of a port's unit in `State.prt`. -/
def portIndex : Port → Fin 3
  | .centre => 0
  | .service => 1
  | .site => 2

/-- The default permission set of a port as request codes (R162). -/
def defaultPermissions : Port → List Nat
  | .centre => [1, 2, 3, 4, 5, 6, 7, 9, 0x0D, 0x0F, 0x10, 0x11, 0x12, 0x13, 0x14, 0x17]
  | .service => [1, 2, 3, 4, 5, 6, 7, 9, 0x0A, 0x0B, 0x0C, 0x0D, 0x10, 0x11, 0x13, 0x14, 0x17]
  | .site => [1, 2, 3, 4, 5, 6, 7, 8, 9, 0x0D, 0x0E, 0x0F, 0x10, 0x11, 0x13, 0x14, 0x15, 0x16, 0x17]

namespace ImgUnit

/-- The present records that passed MC01, as loaded. -/
def segment? (m : ImgUnit) (i : Nat) : Option PassSegment :=
  if i < m.counts.segments ∧ m.ok (rowOfSegment i) then some (parseSegment (m.row (rowOfSegment i))) else none

def sign? (m : ImgUnit) (i : Nat) : Option SignRec :=
  if i < m.counts.signs ∧ m.ok (rowOfSign i) then some (parseSign (m.row (rowOfSign i))) else none

def gate? (m : ImgUnit) (i : Nat) : Option GateRec :=
  if i < m.counts.gates ∧ m.ok (rowOfGate i) then some (parseGate (m.row (rowOfGate i))) else none

def path? (m : ImgUnit) (i : Nat) : Option PathRec :=
  if i < m.counts.paths ∧ m.ok (rowOfPath i) then some (parsePath (m.row (rowOfPath i))) else none

def station? (m : ImgUnit) (i : Nat) : Option StationRec :=
  if i < m.counts.stations ∧ m.ok (rowOfStation i) then some (parseStation (m.row (rowOfStation i))) else none

/-- Segment `i` has a turn point. A segment whose row failed MC01 has none for MC10 (DESIGN CHOICE,
notes/assumptions/27.md). -/
def turnAt (m : ImgUnit) (i : Nat) : Bool := ((m.segment? i).map PassSegment.turn).getD false

/-- The segments that name station `k`, ascending. A segment whose row failed MC01 names no station for MC05 (DESIGN
CHOICE, notes/assumptions/27.md). -/
def segmentsOf (m : ImgUnit) (k : Nat) : List Nat :=
  (List.range m.nseg).filter (fun i => ((m.segment? i).bind PassSegment.station) == some k)

/-- The span of station `k` as first and last segment, or empty (R5). Under MAP_INVALID an absent station, and one whose
segments form no single run, has the lowest and the highest segment that names it (DESIGN CHOICE,
notes/assumptions/34.md). -/
def span (m : ImgUnit) (k : Nat) : Option (Nat × Nat) :=
  match m.segmentsOf k with
  | [] => none
  | a :: t => some (a, (a :: t).getLast (List.cons_ne_nil a t))

/-- The nearest segment below `first` with a turn point, plus 1; 0 when there is none (R9: t + 1). -/
def reachLow (m : ImgUnit) : Nat → Nat
  | 0 => 0
  | n + 1 => if m.turnAt n then n + 1 else m.reachLow n

/-- The nearest segment above `last` with a turn point, or NSEG when there is none (R9: u). -/
def reachHigh (m : ImgUnit) (last : Nat) : Nat :=
  (((List.range m.nseg).filter (fun i => decide (last < i) && m.turnAt i)).head?).getD m.nseg

/-- The guard lies in the path's reach for its direction (R9). -/
def inReach (m : ImgUnit) (p : PathRec) (g : GateRec) : Bool :=
  match g.dir with
  | .S => decide (m.reachLow p.first ≤ g.seg ∧ g.seg ≤ p.last)
  | .N => decide (p.first ≤ g.seg ∧ g.seg < m.reachHigh p.last)

/-! ### Policies -/


/-- Port `p` may lift orders of issuer `i` (R31: lift matrix row, else its defaults). -/
def mayLift (m : ImgUnit) (p : Port) (i : Issuer) : Bool :=
  let bit := match p with
    | .centre => 0
    | .service => 1
    | .site => 2
  let pos := match i with
    | .ctr => 0
    | .avs => 1
    | .site => 2
    | .wx => 3
    | .trip => 4
  if m.ok liftRow then getBit (m.row liftRow) pos bit
  else match i, p with
    | .ctr, .centre | .avs, .service | .site, .site | .site, .centre | .wx, .centre | .trip, .service => true
    | _, _ => false

/-- The 24-bit permission number of a port: bit c − 1 set when request code c is permitted (R162, R171). -/
def permissions (m : ImgUnit) (p : Port) : Nat :=
  if m.ok permissionRow then
    get8 (m.row permissionRow) (3 * (portIndex p).val) * 65536 + get16 (m.row permissionRow) (3 * (portIndex p).val + 1)
  else (defaultPermissions p).foldl (fun n c => n + 2 ^ (c - 1)) 0

def permits (m : ImgUnit) (p : Port) (code : Nat) : Bool := (m.permissions p).testBit (code - 1)

/-- Baud rate and parity (EVEN: true) of a port (R157). -/
def lineSettings (m : ImgUnit) (p : Port) : Nat × Bool :=
  if m.ok portLineRow then
    (get32 (m.row portLineRow) (5 * (portIndex p).val), get8 (m.row portLineRow) (5 * (portIndex p).val + 4) == 1)
  else (9600, false)

/-- The 15 brightness thresholds (R138, R171: 12 bits each, packed from bit 7 of byte 0). -/
def thresholds (m : ImgUnit) : List Nat :=
  if m.ok displayRow then
    (List.range 15).map fun i =>
      if i % 2 = 0 then get8 (m.row displayRow) (3 * (i / 2)) * 16 + get8 (m.row displayRow) (3 * (i / 2) + 1) / 16
      else (get8 (m.row displayRow) (3 * (i / 2) + 1) % 16) * 256 + get8 (m.row displayRow) (3 * (i / 2) + 2)
  else [8, 16, 32, 48, 64, 96, 128, 192, 256, 384, 512, 768, 1024, 1536, 2048]

/-- The default colours of R135, in the order of its table: WHITE 1, AMBER 2, RED 3. -/
def defaultColours : List Nat := [3, 2, 2, 1, 1, 2, 1]

/-- The colour of the element kind at position `k` (CLOSURE 0 to NOTICE 6); an OFF entry takes the default (R135). -/
def colour (m : ImgUnit) (k : Nat) : Nat :=
  let c := if m.ok displayRow then get8 (m.row displayRow) (23 + k) else 0
  if c = 0 then defaultColours.getD k 1 else c

/-- The page dwell in seconds (R139). -/
def dwell (m : ImgUnit) : Nat := if m.ok displayRow then get8 (m.row displayRow) 30 else 4

/-! ### The library (R136, R137) -/

/-- The text of notice id `id` when it is held: its row passed and its first byte is not 0. -/
def noticeText (m : ImgUnit) (id : Nat) : Option (List Nat) :=
  if 1 ≤ id ∧ id ≤ 255 ∧ m.ok (rowOfNotice id) ∧ get8 (m.row (rowOfNotice id)) 0 ≠ 0 then
    some (((m.row (rowOfNotice id)).map BitVec.toNat).takeWhile (· ≠ 0))
  else none

/-- The 288 bytes of the site pictogram of kind number `k`. -/
def sitePictogram (m : ImgUnit) (k : Nat) : List Byte :=
  (List.range 9).flatMap (fun j => m.row (rowOfPictogram k j))

/-- The site pictogram is drawn: all nine rows passed and it is not marked empty. -/
def siteHeld (m : ImgUnit) (k : Nat) : Bool :=
  (List.range 9).all (fun j => m.ok (rowOfPictogram k j)) && !(m.sitePictogram k).all (· == 0#8)

/-! ### Trims, channels and line settings of the header -/

/-- The trim of channel `c` at the start, and whether it is the default (R63). -/
def trim (m : ImgUnit) (c : Nat) : Trim × Bool :=
  if 1 ≤ c ∧ m.ok (rowOfTrim c) then
    (⟨get16 (m.row (rowOfTrim c)) 0, getInt16 (m.row (rowOfTrim c)) 2, getInt8 (m.row (rowOfTrim c)) 4,
      getInt8 (m.row (rowOfTrim c)) 5, getInt8 (m.row (rowOfTrim c)) 6, getInt8 (m.row (rowOfTrim c)) 7⟩, false)
  else (.default, true)

/-- The start enable of channel `c` (R3, R56): channels 0 and 1 are always converted. -/
def startEnable (m : ImgUnit) (c : Nat) : Bool :=
  match m.header with
  | some h => decide (c ≤ 1) || (get16 h 6).testBit c
  | none => true

/-- The smoothing depth of channel `c` (R16: a depth that is not 1, 2, 4 or 8 is taken as 1). -/
def depth (m : ImgUnit) (c : Nat) : Nat :=
  match m.header with
  | some h => if get8 h (7 + c) = 2 ∨ get8 h (7 + c) = 4 ∨ get8 h (7 + c) = 8 then get8 h (7 + c) else 1
  | none => 1

/-- The scan period in seconds (R16: 10 s when the header or the field failed). -/
def scanPeriod (m : ImgUnit) : Nat :=
  match m.header with
  | some h => if 1 ≤ get8 h 5 ∧ get8 h 5 ≤ 60 then get8 h 5 else 10
  | none => 10

/-- The lamp-fault limit of a line (R15: 63 when the header or the field failed). -/
def lampFaultLimit (m : ImgUnit) (l : Fin 2) : Nat :=
  match m.header with
  | some h => if 1 ≤ get8 h (25 + 3 * l.val) ∧ get8 h (25 + 3 * l.val) ≤ 63 then get8 h (25 + 3 * l.val) else 63
  | none => 63

/-- The reply limit of a line in milliseconds (R15: 250 ms when the header or the field failed). -/
def replyLimit (m : ImgUnit) (l : Fin 2) : Nat :=
  match m.header with
  | some h => if 10 ≤ get8 h (24 + 3 * l.val) ∧ get8 h (24 + 3 * l.val) ≤ 250 then get8 h (24 + 3 * l.val) else 250
  | none => 250

/-- The baud rate of a line (R15: 9600 when the header or the field failed). -/
def lineBaud (m : ImgUnit) (l : Fin 2) : Nat :=
  match m.header with
  | some h => [9600, 19200, 38400, 57600, 115200].getD (get8 h (23 + 3 * l.val)) 9600
  | none => 9600

end ImgUnit

end Sys2Proof.Machine
end

