-- ==== Sys2Proof/Machine/MapChecks.lean ====
section
/-! DEFINITION. The map checks of R11 over the rows loaded at a start, the map state and fault record they give (R1), the
fit of retained orders (R12), and which records are in use under either map state (R14 to R16). -/

namespace Sys2Proof.Machine

/-! ### Field ranges (MC03) -/

/-- A posted speed field: none, or `lo..hi` in steps of 10. -/
def speedField (lo hi n : Nat) : Bool := n == 255 || (decide (lo ≤ n ∧ n ≤ hi) && n % 10 == 0)

/-- A list of ids holds its ids from its first entry: after the first 0xFF every entry is 0xFF (R171). -/
def idsPacked (d : List Byte) (i n : Nat) : Bool :=
  ((((d.drop i).take n).map BitVec.toNat).dropWhile (· ≠ 255)).all (· == 255)

/-- The fields of the header that MC03 tests. A count out of its range is a failure of MC02 alone, a repeated id in a list
one of MC08 alone, and a storm limit below the strong limit one of MC09 alone: none of them is a failure of MC03 as well
(DESIGN CHOICE, notes/assumptions/27.md). -/
def headerFields (h : List Byte) : Bool :=
  decide (1 ≤ get8 h 5 ∧ get8 h 5 ≤ 60) &&
    (List.range 15).all (fun j => [1, 2, 4, 8].contains (get8 h (8 + j))) &&
    [23, 26].all fun i => decide (get8 h i ≤ 4) && decide (10 ≤ get8 h (i + 1) ∧ get8 h (i + 1) ≤ 250) &&
      decide (1 ≤ get8 h (i + 2) ∧ get8 h (i + 2) ≤ 63)

def segmentFields (d : List Byte) : Bool :=
  decide (get8 d 0 ≤ 1) && (get8 d 1 == 255 || decide (get8 d 1 ≤ 5)) && speedField 20 130 (get8 d 2)

/-- The fields of a sign record that polling under MAP_INVALID needs (R15). -/
def signLineFields (d : List Byte) : Bool :=
  decide (get8 d 0 ≤ 1) && decide (1 ≤ get8 d 1 ∧ get8 d 1 ≤ 31) && decide (1 ≤ get8 d 8 ∧ get8 d 8 ≤ 60)

/-- The lamp map is checked on LAMP signs alone (R6), and the watched segments are references, as in `gateFields`. -/
def signFields (d : List Byte) : Bool :=
  signLineFields d && decide (get8 d 2 ≤ 1) && decide (get8 d 3 ≤ 1) && decide (get8 d 6 ≤ 1) &&
    (get8 d 7 == 14 || get8 d 7 == 15) &&
    (get8 d 2 != 1 || (List.range 8).all (fun j => decide (get8 d (9 + j) ≤ 7)))

/-- The fields of a gate record that MC03 tests. The guard segment and the sign ids are references: one above every possible
index is a failure of MC04 alone, as are a watched segment of a sign, and a segment or a gate id of a path (DESIGN CHOICE,
notes/assumptions/27.md). -/
def gateFields (d : List Byte) : Bool :=
  decide (get8 d 1 ≤ 1) && idsPacked d 2 3 && decide (10 ≤ get16 d 5 ∧ get16 d 5 ≤ 600) && decide (get16 d 7 ≤ 600) &&
    decide (10 ≤ get16 d 9 ∧ get16 d 9 ≤ 300) && decide (5 ≤ get8 d 11 ∧ get8 d 11 ≤ 120) && decide (get8 d 12 ≤ 3) &&
    decide (5 ≤ get8 d 13 ∧ get8 d 13 ≤ 120) && decide (20 ≤ get8 d 14 ∧ get8 d 14 ≤ 100) && decide (get8 d 15 ≤ 10) &&
    (List.range 4).all (fun j => decide (get8 d (16 + j) ≤ 8))

/-- The fields of a path record that MC03 tests; its segments and gate ids are references, as in `gateFields`. -/
def pathFields (d : List Byte) : Bool :=
  decide (get8 d 0 ≤ get8 d 1) && (get8 d 2 == 255 || decide (get8 d 2 ≤ 11)) && decide (1 ≤ get8 d 3) &&
    decide (get8 d 4 ≤ 1) && decide (30 ≤ get16 d 5 ∧ get16 d 5 ≤ 1800) && idsPacked d 7 4 && (getIds d 7 4 != [])

def stationFields (d : List Byte) : Bool :=
  (get8 d 0 == 255 || decide (get8 d 0 ≤ 2)) && decide (-100 ≤ getInt16 d 1 ∧ getInt16 d 1 ≤ 0) &&
    decide (5 ≤ get8 d 3 ∧ get8 d 3 ≤ 100) && decide (get8 d 4 ≤ 50) && decide (1 ≤ get8 d 5 ∧ get8 d 5 ≤ 8) &&
    decide (-100 ≤ getInt16 d 7 ∧ getInt16 d 7 ≤ 50) && speedField 20 120 (get8 d 9) && speedField 20 120 (get8 d 10) &&
    decide (1 ≤ get32 d 11 ∧ get32 d 11 ≤ 1000000) && decide (get16 d 15 ≤ 750) && decide (get16 d 17 ≤ 750) &&
    decide (get16 d 19 ≤ 750)

/-! ### The checks, record by record -/

def hasRepeat : List Nat → Bool
  | [] => false
  | a :: t => t.contains a || hasRepeat t

namespace ImgUnit

/-- A reference names an absent record; a record that failed MC01 is present and is not counted (R11). The count, NSEG
included, is the one in force, which R1 has brought into its range, also where the header's own count failed MC02 (DESIGN
CHOICE, notes/assumptions/27.md). -/
def absentRef (count n : Nat) : Bool := decide (count ≤ n)

def segmentRefs (m : ImgUnit) (r : PassSegment) : Bool := (r.station.map (absentRef m.counts.stations)).getD false

def signRefs (m : ImgUnit) (r : SignRec) : Bool := absentRef m.nseg r.first || absentRef m.nseg r.last

def gateRefs (m : ImgUnit) (r : GateRec) : Bool :=
  absentRef m.nseg r.seg || r.approach.any (absentRef m.counts.signs)

def pathRefs (m : ImgUnit) (r : PathRec) : Bool :=
  absentRef m.nseg r.first || absentRef m.nseg r.last || r.barriers.any (absentRef m.counts.gates)

/-- MC05: the segments naming station `k` do not form one contiguous run. -/
def spanBroken (m : ImgUnit) (k : Nat) : Bool :=
  match m.span k with
  | none => false
  | some (a, b) => b + 1 - a != (m.segmentsOf k).length

/-- The signs below `i` on the line of `r`. The values are those of the rows, also where a field failed MC03, and a sign whose
row failed MC01 is not among them (DESIGN CHOICE, notes/assumptions/27.md). -/
def lineMates (m : ImgUnit) (i : Nat) (r : SignRec) : List SignRec :=
  ((List.range i).filterMap m.sign?).filter (fun q => q.line == r.line)

/-- MC06: sign `i` shares a drop address with a lower sign of its line, or is beyond the sixteenth of its line. -/
def dropClash (m : ImgUnit) (i : Nat) (r : SignRec) : Bool :=
  (m.lineMates i r).any (fun q => q.addr == r.addr) || decide (16 ≤ (m.lineMates i r).length)

/-- MC07: the watch range does not run forward over 1 to 4 segments. -/
def watchBad (r : SignRec) : Bool :=
  match r.facing with
  | .S => !decide (r.first ≤ r.last ∧ r.last ≤ r.first + 3)
  | .N => !decide (r.last ≤ r.first ∧ r.first ≤ r.last + 3)

/-- MC08 on a path: a repeated barrier gate, or a detection input named by a lower path. Detection inputs are compared as
the rows hold them, also where one failed MC03, and a path whose row failed MC01 names none (DESIGN CHOICE,
notes/assumptions/27.md). -/
def pathListBad (m : ImgUnit) (i : Nat) (r : PathRec) : Bool :=
  hasRepeat r.barriers ||
    (r.input.isSome && ((List.range i).filterMap m.path?).any (fun q => q.input == r.input))

/-- MC10: a barrier gate whose guard lies outside the path's reach. A barrier gate without a trusted guard, absent (MC04) or
failed in MC01, counts no failure here (DESIGN CHOICE, notes/assumptions/27.md). -/
def reachBad (m : ImgUnit) (r : PathRec) : Bool :=
  r.barriers.any fun g => match m.gate? g with
    | some gr => !m.inReach r gr
    | none => false

/-- The indices below `n` whose record exists and fails `bad`, as failures of `code`. -/
def failuresOf {α : Type} (code : CheckCode) (kind : RecordKind) (n : Nat) (rec? : Nat → Option α)
    (bad : Nat → α → Bool) : List MapFailure :=
  ((List.range n).filter (fun i => ((rec? i).map (bad i)).getD false)).map (fun i => ⟨code, kind, i⟩)

/-- MC01 over the present rows of one kind. -/
def rowFailures (m : ImgUnit) (kind : RecordKind) (n : Nat) (rowOf : Nat → Nat) : List MapFailure :=
  ((List.range n).filter (fun i => !m.ok (rowOf i))).map (fun i => ⟨.mc01, kind, i⟩)

def raw? (m : ImgUnit) (n : Nat) (rowOf : Nat → Nat) (i : Nat) : Option (List Byte) :=
  if i < n ∧ m.ok (rowOf i) then some (m.row (rowOf i)) else none

/-- Every failed check in check-table order; within a check, kinds in the order of R1 and records ascending. -/
def failures (m : ImgUnit) : List MapFailure :=
  match m.header with
  | none => [⟨.mc01, .header, 0⟩]
  | some h =>
    let c := m.counts
    (m.rowFailures .segment c.segments rowOfSegment ++ m.rowFailures .sign c.signs rowOfSign ++
      m.rowFailures .gate c.gates rowOfGate ++ m.rowFailures .path c.paths rowOfPath ++
      m.rowFailures .station c.stations rowOfStation) ++
    (if get8 h 0 = c.segments ∧ get8 h 1 = c.signs ∧ get8 h 2 = c.gates ∧ get8 h 3 = c.paths ∧ get8 h 4 = c.stations
      then [] else [⟨.mc02, .header, 0⟩]) ++
    ((if headerFields h then [] else [⟨.mc03, .header, 0⟩]) ++
      failuresOf .mc03 .segment c.segments (m.raw? c.segments rowOfSegment) (fun _ d => !segmentFields d) ++
      failuresOf .mc03 .sign c.signs (m.raw? c.signs rowOfSign) (fun _ d => !signFields d) ++
      failuresOf .mc03 .gate c.gates (m.raw? c.gates rowOfGate) (fun _ d => !gateFields d) ++
      failuresOf .mc03 .path c.paths (m.raw? c.paths rowOfPath) (fun _ d => !pathFields d) ++
      failuresOf .mc03 .station c.stations (m.raw? c.stations rowOfStation) (fun _ d => !stationFields d)) ++
    (failuresOf .mc04 .segment c.segments m.segment? (fun _ r => m.segmentRefs r) ++
      failuresOf .mc04 .sign c.signs m.sign? (fun _ r => m.signRefs r) ++
      failuresOf .mc04 .gate c.gates m.gate? (fun _ r => m.gateRefs r) ++
      failuresOf .mc04 .path c.paths m.path? (fun _ r => m.pathRefs r)) ++
    failuresOf .mc05 .station c.stations m.station? (fun k _ => m.spanBroken k) ++
    failuresOf .mc06 .sign c.signs m.sign? m.dropClash ++
    failuresOf .mc07 .sign c.signs m.sign? (fun _ r => watchBad r) ++
    (failuresOf .mc08 .gate c.gates m.gate? (fun _ r => hasRepeat r.approach) ++
      failuresOf .mc08 .path c.paths m.path? m.pathListBad) ++
    failuresOf .mc09 .station c.stations m.station? (fun _ r => decide (r.storm < r.strong)) ++
    failuresOf .mc10 .path c.paths m.path? (fun _ r => m.reachBad r)

/-- The map state and fault record of a load (R1). -/
def mapUnit (m : ImgUnit) : MapUnit :=
  ⟨m.failures.isEmpty, m.failures.head?, if 255 < m.failures.length then 255 else m.failures.length⟩

end ImgUnit

/-! ### Records in use -/

namespace State

/-- The map state is MAP_VALID. -/
abbrev valid (s : State) : Bool := s.map.valid

/-- Station `k` whose record is in use (R74, R79): present under MAP_VALID; passed MC01 and MC03 under MAP_INVALID. -/
def station? (s : State) (k : Nat) : Option StationRec :=
  if s.valid || stationFields (s.img.row (rowOfStation k)) then s.img.station? k else none

/-- Path `k` in use (R93): present under MAP_VALID; passed MC01 under MAP_INVALID. -/
def path? (s : State) (k : Nat) : Option PathRec := s.img.path? k

/-- The loop of path `k` is supervised (R93, R16). -/
def supervised (s : State) (k : Nat) : Option Nat :=
  match s.img.path? k with
  | some r =>
    if s.valid || (pathFields (s.img.row (rowOfPath k)) && !s.img.pathListBad k r) then r.input else none
  | none => none

/-- Gate `g` in use under MAP_VALID (R112), or followed under MAP_INVALID (R14). -/
def gate? (s : State) (g : Nat) : Option GateRec := s.img.gate? g

/-- Sign `i` in use (R130): present under MAP_VALID. -/
def sign? (s : State) (i : Nat) : Option SignRec := if s.valid then s.img.sign? i else none

/-- A drop address that another sign record that passed MC01 names on the same line (R15, notes/assumptions/27.md). -/
def dropShared (s : State) (i : Nat) (r : SignRec) : Bool :=
  (List.range s.img.counts.signs).any fun j => j != i && match s.img.sign? j with
    | some q => q.line == r.line && q.addr == r.addr
    | none => false

/-- Sign `i` as FLC serves it: in use under MAP_VALID; the records that R15 names for polling under MAP_INVALID. -/
def linedSign? (s : State) (i : Nat) : Option SignRec :=
  match s.img.sign? i with
  | some r =>
    if s.valid || (signLineFields (s.img.row (rowOfSign i)) && !s.dropShared i r) then some r else none
  | none => none

/-- A retained order fits the map (R12). -/
def fits (s : State) (o : Order) : Bool :=
  decide (o.last < s.img.nseg) &&
    (match o.station with
      | none => true
      | some k => (s.img.station? k).isSome && s.img.span k == some (o.first, o.last) && o.dirs == .both) &&
    (match o.path with
      | none => true
      | some k => match s.img.path? k with
        | some r => r.first == o.first && r.last == o.last
        | none => false)

end State

end Sys2Proof.Machine
end

