-- ==== Sys2Proof/Machine/Ops.lean ====
section
/-! DEFINITION. The shared operations: reading and changing one unit of a bank, recording an event on all ports (R163),
answering a request (R161), marking RSV dirty (R44), and page memory. -/

namespace Sys2Proof.Machine

/-- A vector with its entry `i` replaced. -/
def setAt {α : Type} {n : Nat} (v : Vector α n) (i : Fin n) (x : α) : Vector α n := v.set i.val x i.isLt

/-! ### Reply codes (R167) -/

inductive ReplyCode where
  | ok | admitted | renewed | adjusted | holdPending | notFound | notPermitted | badRequest | badRange | badValue
  | noText | quota | tableFull | pathActive | pathState | gateStateBad | mapInvalid | timeUnset | alreadyEnded
  deriving DecidableEq, Repr

def ReplyCode.code : ReplyCode → Nat
  | .ok => 0
  | .admitted => 1
  | .renewed => 2
  | .adjusted => 3
  | .holdPending => 4
  | .notFound => 5
  | .notPermitted => 6
  | .badRequest => 7
  | .badRange => 8
  | .badValue => 9
  | .noText => 10
  | .quota => 11
  | .tableFull => 12
  | .pathActive => 13
  | .pathState => 14
  | .gateStateBad => 15
  | .mapInvalid => 16
  | .timeUnset => 17
  | .alreadyEnded => 18

/-- The body of a reply frame (R167): CODE of the request with bit 7 set, TAG of the request, reply code, data. -/
def replyBody (code : Nat) (tag : Byte) (rc : ReplyCode) (data : List Byte) : List Byte :=
  (byteOf code ||| 0x80#8) :: tag :: byteOf rc.code :: data

/-- Who asks: the port, the request code and the TAG of the frame. -/
structure Asker where
  port : Port
  code : Nat
  tag  : Byte
  deriving DecidableEq, Repr

/-! ### Notices (R163) -/

/-- A notice joins the tail of one port's queue; a queue that holds 32 discards its oldest and counts it lost. -/
def PortUnit.push (n : Notice) (q : PortUnit) : PortUnit :=
  if q.notices.length < 32 then { q with notices := q.notices ++ [n] }
  else { q with notices := q.notices.tail ++ [n], lost := satAdd 255 q.lost 1 }

/-- The attention output of a port (R164). -/
def PortUnit.attention (q : PortUnit) : Bool := !q.notices.isEmpty

namespace State

/-! ### Banks -/

def port (s : State) (p : Port) : PortUnit := s.prt[portIndex p]

def setPort (p : Port) (q : PortUnit) (s : State) : State := { s with prt := setAt s.prt (portIndex p) q }

def setStation (k : Fin 6) (x : Station) (s : State) : State := { s with cnd := setAt s.cnd k x }

def setPath (k : Fin 12) (x : Path) (s : State) : State := { s with avp := setAt s.avp k x }

def setGate (g : Fin 8) (x : Gate) (s : State) : State := { s with gtc := setAt s.gtc g x }

def setSign (i : Fin 24) (x : Sign) (s : State) : State := { s with signs := setAt s.signs i x }

def setLine (l : Fin 2) (x : Line) (s : State) : State := { s with flc := setAt s.flc l x }

def setArbiter (a : Arbiter) (s : State) : State := { s with scp := { s.scp with arbiter := a } }

/-! ### Events, replies and marks -/

/-- Record an event: it joins all three notice queues with the corridor time and the TIME_UNSET flag (R163). -/
def record (e : Event) (s : State) : State :=
  { s with prt := Vector.ofFn fun i : Fin 3 => (s.prt[i]).push ⟨e, s.img.clock, s.img.timeUnset⟩ }

/-- The owner has answered: the port forms the reply frame and waits to place it (R161). -/
def answerBody (p : Port) (body : List Byte) (s : State) : State :=
  s.setPort p { s.port p with service := .replyWait, reply := some body }

def answer (a : Asker) (rc : ReplyCode) (data : List Byte) (s : State) : State :=
  s.answerBody a.port (replyBody a.code a.tag rc data)

/-- Mark RSV dirty (R17, R44). -/
def markDirty (s : State) : State := { s with rsv := { s.rsv with dirty := true } }

end State

/-! ### Page memory -/

/-- The byte of page memory at an address; an unlisted address reads as 0. -/
def memRead : List Host.Cell → Nat → Byte
  | [], _ => 0#8
  | (a, b) :: t, x => if a = x then b else memRead t x

/-- The cells of `bytes` laid out from `base`, zero bytes left unlisted. -/
def cellsFrom : Nat → List Byte → List Host.Cell
  | _, [] => []
  | base, b :: t => if b = 0#8 then cellsFrom (base + 1) t else (base, b) :: cellsFrom (base + 1) t

/-- Write `bytes` from `base` on. -/
def memWrite (m : List Host.Cell) (base : Nat) (bytes : List Byte) : List Host.Cell :=
  m.filter (fun c => decide (c.1 < base)) ++ cellsFrom base bytes ++
    m.filter (fun c => decide (base + bytes.length ≤ c.1))

/-- The canonical form: addresses strictly rising from `lo`, no zero byte listed. -/
def memWfFrom : Nat → List Host.Cell → Bool
  | _, [] => true
  | lo, (a, b) :: t => decide (lo ≤ a) && decide (b ≠ 0#8) && memWfFrom (a + 1) t

/-- Page memory is in its one canonical form. -/
def memWf (m : List Host.Cell) : Bool := memWfFrom 0 m

/-- The bytes at `base .. base + n - 1`. -/
def memBytes (m : List Host.Cell) (base n : Nat) : List Byte := (List.range n).map (fun j => memRead m (base + j))

end Sys2Proof.Machine
end

