-- ==== Sys2Proof/Machine/Operands.lean ====
section
/-! DEFINITION. The requests of R167 with their codes and argument lengths, the operands of ORDER_POST, and the codes of
the named values in frames and rows. -/

namespace Sys2Proof.Machine

/-- The requests of R167, in the order of their codes. -/
inductive Request where
  | orderPost | orderLift | orderRead | orderList | aspectRead | stationRead | channelRead | trimSet | pathRead
  | pathHold | pathEndHold | pathClear | gateRead | gateInhibit | gateReset | signRead | signPageRead | timeSet
  | timeRead | imageRead | imageWrite | restart | portStatus
  deriving DecidableEq, Repr

/-- Code and argument length of a request (R167). -/
def Request.layout : Request → Nat × Nat
  | .orderPost => (0x01, 15)
  | .orderLift => (0x02, 2)
  | .orderRead => (0x03, 2)
  | .orderList => (0x04, 2)
  | .aspectRead => (0x05, 2)
  | .stationRead => (0x06, 1)
  | .channelRead => (0x07, 1)
  | .trimSet => (0x08, 10)
  | .pathRead => (0x09, 1)
  | .pathHold => (0x0A, 1)
  | .pathEndHold => (0x0B, 1)
  | .pathClear => (0x0C, 1)
  | .gateRead => (0x0D, 1)
  | .gateInhibit => (0x0E, 2)
  | .gateReset => (0x0F, 1)
  | .signRead => (0x10, 1)
  | .signPageRead => (0x11, 4)
  | .timeSet => (0x12, 4)
  | .timeRead => (0x13, 0)
  | .imageRead => (0x14, 2)
  | .imageWrite => (0x15, 34)
  | .restart => (0x16, 0)
  | .portStatus => (0x17, 0)

def Request.code (r : Request) : Nat := r.layout.1

def Request.argBytes (r : Request) : Nat := r.layout.2

def Request.all : List Request :=
  [.orderPost, .orderLift, .orderRead, .orderList, .aspectRead, .stationRead, .channelRead, .trimSet, .pathRead,
    .pathHold, .pathEndHold, .pathClear, .gateRead, .gateInhibit, .gateReset, .signRead, .signPageRead, .timeSet,
    .timeRead, .imageRead, .imageWrite, .restart, .portStatus]

/-- The request of a CODE, when it is one (R161 step 1). -/
def Request.ofCode (c : Nat) : Option Request := Request.all.find? (fun r => r.code == c)

/-- The body of a request frame (R167): CODE, TAG, arguments. -/
def Request.body (r : Request) (tag : Byte) (args : List Byte) : List Byte := byteOf r.code :: tag :: args

/-! ### Codes of named values: the position of the name in its list (R167, R168) -/

def Reason.num : Reason → Nat
  | .avalanche => 0
  | .snow => 1
  | .wind => 2
  | .accident => 3
  | .works => 4
  | .other => 5

def Reason.all : List Reason := [.avalanche, .snow, .wind, .accident, .works, .other]

def Kind.num : Kind → Nat
  | .close => 0
  | .restrict => 1
  | .avwarn => 2
  | .speed => 3
  | .notice => 4

def Dirs.num : Dirs → Nat
  | .S => 0
  | .N => 1
  | .both => 2

def dirsOf : Nat → Option Dirs
  | 0 => some .S
  | 1 => some .N
  | 2 => some .both
  | _ => none

def Issuer.num : Issuer → Nat
  | .ctr => 0
  | .avs => 1
  | .site => 2
  | .wx => 3
  | .trip => 4

def OrderState.num : OrderState → Nat
  | .scheduled => 0
  | .announced => 1
  | .active => 2

def Restrictions.num (r : Restrictions) : Nat := r.chains.toNat + 2 * r.noHgv.toNat + 4 * r.noTrailer.toNat

/-- The restriction set of a number 0..7 (R168: bit 0 CHAINS, bit 1 NO_HGV, bit 2 NO_TRAILER). -/
def restrictionsOf (n : Nat) : Restrictions := ⟨n.testBit 0, n.testBit 1, n.testBit 2⟩

def Restrictions.isEmpty (r : Restrictions) : Bool := !(r.chains || r.noHgv || r.noTrailer)

def Content.num : Content → Nat
  | .close r => r.num
  | .restrict s => s.num
  | .avwarn n => n
  | .speed n => n
  | .notice n => n

def Closed.num : Closed → Nat
  | .no => 0
  | .byOrder => 1
  | .byPropagation => 2

def Condition.num : Condition → Nat
  | .clear => 0
  | .near => 1
  | .freeze => 2
  | .unknown => 3
  | .none => 4

def SurfaceClass.num : SurfaceClass → Nat
  | .clear => 0
  | .near => 1
  | .freeze => 2
  | .unknown => 3

def RawClass.num : RawClass → Nat
  | .clear => 0
  | .near => 1
  | .freeze => 2

def WindState.num : WindState → Nat
  | .normal => 0
  | .strong => 1
  | .storm => 2

def Quality.num : Quality → Nat
  | .fresh => 0
  | .held => 1
  | .stale => 2

def PathState.num : PathState → Nat
  | .quiet => 0
  | .tripped => 1
  | .latched => 2
  | .holdPending => 3
  | .hold => 4

def GatePos.num : GatePos → Nat
  | .opened => 0
  | .prewarn => 1
  | .closing => 2
  | .closed => 3
  | .opening => 4
  | .blocked => 5
  | .fault => 6

def FaultCause.num : FaultCause → Nat
  | .travelTimeout => 0
  | .retriesExhausted => 1
  | .limitConflict => 2
  | .displaced => 3

def Demand.num : Demand → Nat
  | .opened => 0
  | .closed => 1

def PrewarnPhase.num : PrewarnPhase → Nat
  | .signWait => 0
  | .countdown => 1
  | .obstructed => 2

def CountKind.num : CountKind → Nat
  | .normal => 0
  | .emergency => 1

def Drive.num : Drive → Nat
  | .off => 0
  | .dead => 1
  | .lower => 2
  | .raise => 3

def Lantern.num : Lantern → Nat
  | .prewarn => 0
  | .moving => 1
  | .closed => 2
  | .fault => 3
  | .dark => 4

def Link.num : Link → Nat
  | .unknown => 0
  | .pending => 1
  | .confirmed => 2
  | .mismatch => 3
  | .offline => 4
  | .fault => 5

def LinePhase.num : LinePhase → Nat
  | .idle => 0
  | .transmit => 1
  | .replyWait => 2

def StartCause.num : StartCause → Nat
  | .powerWarm => 0
  | .powerCold => 1
  | .pin => 2
  | .request => 3

def RecordKind.num : RecordKind → Nat
  | .header => 0
  | .segment => 1
  | .sign => 2
  | .gate => 3
  | .path => 4
  | .station => 5

/-- A check code is sent as its number, MC01 as 1 (R167). -/
def CheckCode.num : CheckCode → Nat
  | .mc01 => 1
  | .mc02 => 2
  | .mc03 => 3
  | .mc04 => 4
  | .mc05 => 5
  | .mc06 => 6
  | .mc07 => 7
  | .mc08 => 8
  | .mc09 => 9
  | .mc10 => 10

/-- Pictogram kinds by number, in the kind order of R137. -/
def PictKind.num : PictKind → Nat
  | .reason r => r.num
  | .closedAhead => 6
  | .avalanche => 7
  | .chains => 8
  | .noHgv => 9
  | .noTrailer => 10
  | .speed => 11
  | .ice => 12

/-! ### ORDER_POST (R21, R167) -/

/-- The arguments of an ORDER_POST. The kind and directions are codes still to be judged (R21 step 3). -/
structure PostArgs where
  kind      : Nat
  first     : Nat
  last      : Nat
  dirs      : Nat
  value     : Nat
  emergency : Bool
  start     : Option Nat
  duration  : Option Nat
  lead      : Nat
  deriving DecidableEq, Repr

def parsePost (a : List Byte) : PostArgs :=
  ⟨get8 a 0, get8 a 1, get8 a 2, get8 a 3, get8 a 4, get8 a 5 != 0,
    if getBit a 6 0 then some (get32 a 7) else none,
    if getBit a 6 1 then some (get16 a 11) else none,
    get16 a 13⟩

/-- The content that a kind and a value byte name, when both are valid for ORDER_POST (R21 step 3). SPEED takes every
value and NOTICE is judged by step 4. -/
def contentOf (kind value : Nat) : Option Content :=
  match kind with
  | 0 => Reason.all[value]?.map .close
  | 1 => if 1 ≤ value ∧ value ≤ 7 then some (.restrict (restrictionsOf value)) else none
  | 2 => if value = 0 then none else some (.avwarn value)
  | 3 => some (.speed value)
  | 4 => some (.notice value)
  | _ => none

end Sys2Proof.Machine

namespace Sys2Proof

/-! ### Codes and issuers of the operand types -/

def Port.num : Port → Nat
  | .centre => 0
  | .service => 1
  | .site => 2

def Dir.num : Dir → Nat
  | .S => 0
  | .N => 1

def Zone.num : Zone → Nat
  | .short => 0
  | .trip => 1
  | .normal => 2
  | .opened => 3

/-- The issuer code of a port (00_scope 5.4). -/
def Port.issuer : Port → Machine.Issuer
  | .centre => .ctr
  | .service => .avs
  | .site => .site

end Sys2Proof
end

