-- ==== Sys2Proof/Machine/Aspect.lean ====
section
/-! DEFINITION. RSV (chapter 3): the start of a pass, the resolution of its copy into a work table (R45 to R51), the
comparison of R52, and ASPECT_READ. The hand-on of a publication (R53) is in Events.lean. -/

namespace Sys2Proof.Machine

/-! ### The copy (R42, R43) -/

/-- What a pass copies of an entry. -/
def Order.forPass (o : Order) : PassOrder :=
  { number := o.number, content := o.content, first := o.first, last := o.last, dirs := o.dirs
    emergency := o.emergency, start := o.start, state := o.state, stamp := o.stamp }

/-- The inputs of a pass as they stand. -/
def State.passCopy (s : State) : PassCopy where
  orders   := s.ord.table.map Order.forPass
  segments := (List.range s.img.nseg).map (fun i => (s.img.segment? i).getD ⟨false, none, none⟩)
  classes  := s.cnd.toList.map Station.cls

/-- PASS_BEGIN (R43): with the dirty flag set, no pass in flight and a valid map. -/
def State.passBegin (s : State) : State :=
  if s.rsv.dirty && s.rsv.pass.isNone && s.valid then
    { s with rsv := { s.rsv with dirty := false, pass := some s.passCopy } }
  else s

/-! ### Coverage (R42) -/

/-- The directions of an order include `d`. -/
def Dirs.has : Dirs → Dir → Bool
  | .both, _ => true
  | .S, .S => true
  | .N, .N => true
  | .S, .N | .N, .S => false

/-- The entry covers the record (s, d). -/
def PassOrder.covers (o : PassOrder) (seg : Nat) (d : Dir) : Bool :=
  decide (o.first ≤ seg ∧ seg ≤ o.last) && o.dirs.has d

/-- The entries of `p` in state `st` that cover (s, d). -/
def PassCopy.covering (p : PassCopy) (st : OrderState) (seg : Nat) (d : Dir) : List PassOrder :=
  p.orders.filter (fun o => decide (o.state = st) && o.covers seg d)

/-! ### Closure (R45, R46) -/

/-- The closure fields of one record. -/
structure Closure where
  closed    : Closed
  reason    : Option Reason
  emergency : Bool
  deriving DecidableEq, Repr

def Closure.isClosed (c : Closure) : Bool := decide (c.closed ≠ .no)

/-- The higher-ranked of two reasons: the one earlier in the order of R45. -/
def Reason.higher (a b : Reason) : Reason := if a.num ≤ b.num then a else b

/-- The highest-ranked reason of a list. -/
def highestReason : List Reason → Option Reason
  | [] => none
  | a :: t => some (t.foldl Reason.higher a)

/-- The CLOSE reason of an entry. -/
def PassOrder.closeReason (o : PassOrder) : Option Reason :=
  match o.content with
  | .close r => some r
  | _ => none

/-- R45: the first step of one record. -/
def PassCopy.byOrder (p : PassCopy) (seg : Nat) (d : Dir) : Closure :=
  let l := (p.covering .active seg d).filter (fun o => o.closeReason.isSome)
  match l with
  | [] => ⟨.no, none, false⟩
  | _ :: _ => ⟨.byOrder, highestReason (l.filterMap PassOrder.closeReason), l.any PassOrder.emergency⟩

/-- R46 at one record: `ahead` is the record that traffic enters next. -/
def Closure.carried (turn : Bool) (ahead c : Closure) : Closure :=
  if ahead.isClosed && !turn then
    match c.closed with
    | .no => ⟨.byPropagation, ahead.reason, ahead.emergency⟩
    | .byOrder | .byPropagation => { c with emergency := c.emergency || ahead.emergency }
  else c

/-- R46 along one direction: the list holds each record's turn point and first step, in the order in which traffic meets
them, and the walk runs from its far end. -/
def carryBack : List (Bool × Closure) → List Closure
  | [] => []
  | (turn, c) :: t =>
    match carryBack t with
    | [] => [c]
    | ahead :: u => ahead.carried turn c :: ahead :: u

/-- The turn point and first step of every present record of a direction, ascending. -/
def PassCopy.firstStep (p : PassCopy) (d : Dir) : List (Bool × Closure) :=
  p.segments.mapIdx (fun i g => (g.turn, p.byOrder i d))

/-- The closure of every present record of a direction, ascending. -/
def PassCopy.closures (p : PassCopy) : Dir → List Closure
  | .S => carryBack (p.firstStep .S)
  | .N => (carryBack (p.firstStep .N).reverse).reverse

/-! ### The other fields (R47 to R51) -/

def PassCopy.level (p : PassCopy) (seg : Nat) (d : Dir) : Nat :=
  (p.covering .active seg d).foldl (fun n o => match o.content with
    | .avwarn v => max n v
    | _ => n) 0

def Restrictions.union (a b : Restrictions) : Restrictions :=
  ⟨a.chains || b.chains, a.noHgv || b.noHgv, a.noTrailer || b.noTrailer⟩

def PassCopy.restr (p : PassCopy) (seg : Nat) (d : Dir) : Restrictions :=
  (p.covering .active seg d).foldl (fun r o => match o.content with
    | .restrict v => r.union v
    | _ => r) ⟨false, false, false⟩

/-- The lower of an optional value and a value. -/
def lower : Option Nat → Nat → Option Nat
  | none, v => some v
  | some n, v => some (min n v)

def PassCopy.speed (p : PassCopy) (base : Option Nat) (seg : Nat) (d : Dir) : Option Nat :=
  (p.covering .active seg d).foldl (fun n o => match o.content with
    | .speed v => lower n v
    | _ => n) base

/-- R49: of two NOTICE entries, the one with the higher stamp, then the higher number; each as (stamp, number, id). -/
def laterNotice (best : Option (Nat × Nat × Nat)) (x : Nat × Nat × Nat) : Option (Nat × Nat × Nat) :=
  match best with
  | none => some x
  | some b => if b.1 < x.1 ∨ (b.1 = x.1 ∧ b.2.1 < x.2.1) then some x else some b

/-- The notice of a record: its id and stamp. -/
def PassCopy.notice (p : PassCopy) (seg : Nat) (d : Dir) : Option (Nat × Nat) :=
  ((p.covering .active seg d).foldl (fun best o => match o.content with
    | .notice id => laterNotice best (o.stamp, o.number, id)
    | _ => best) none).map (fun x => (x.2.2, x.1))

def PassCopy.announced (p : PassCopy) (seg : Nat) (d : Dir) : Option Nat :=
  (p.covering .announced seg d).foldl (fun n o => match o.content, o.start with
    | .close _, some t => lower n t
    | _, _ => n) none

def SurfaceClass.condition : SurfaceClass → Condition
  | .clear => .clear
  | .near => .near
  | .freeze => .freeze
  | .unknown => .unknown

def PassCopy.condition (p : PassCopy) (station : Option Nat) : Condition :=
  match station with
  | none => .none
  | some k => (p.classes.getD k .unknown).condition

/-! ### The work table and the comparison (R52) -/

/-- The computed record (seg, d), for a present segment. -/
def PassCopy.record (p : PassCopy) (seg : Nat) (d : Dir) : Option Aspect :=
  match p.segments[seg]?, (p.closures d)[seg]? with
  | some g, some c =>
    some { resolved := true, closed := c.closed, reason := c.reason, emergency := c.emergency
           level := p.level seg d, restr := p.restr seg d, speed := p.speed g.base seg d
           notice := p.notice seg d, announced := p.announced seg d, condition := p.condition g.station }
  | _, _ => none

/-- The direction of a record index (section 3.1). -/
def dirOfIndex (i : Nat) : Dir := if i % 2 = 0 then .S else .N

/-- The work copy: every present record computed, every absent record as it is (R41). -/
def PassCopy.work (p : PassCopy) (published : Vector Aspect 32) : Vector Aspect 32 :=
  Vector.ofFn fun i : Fin 32 => (p.record (i.val / 2) (dirOfIndex i.val)).getD published[i]

/-- The change mask: bit i set when record i differs (R52, R167). -/
def changeMask (old new : Vector Aspect 32) : BitVec 32 :=
  BitVec.ofNat 32 (((List.finRange 32).filter (fun i => old[i] ≠ new[i])).foldl (fun n i => n + 2 ^ i.val) 0)

/-- The generation after `n`, 0 after 65535 (R52). -/
def nextGeneration (n : Nat) : Nat := (n + 1) % 65536

/-- The publication of a work copy that differs: the table, the generation and ASPECT_CHANGED (R52). -/
def State.publishTable (w : Vector Aspect 32) (s : State) : State :=
  ({ s with rsv := { s.rsv with published := w, generation := nextGeneration s.rsv.generation } }).record
    (.aspectChanged (nextGeneration s.rsv.generation) (changeMask s.rsv.published w))

/-- The pass is idle again (R52). -/
def State.passIdle (s : State) : State := { s with rsv := { s.rsv with pass := none } }

/-! ### ASPECT_READ (R54, R168) -/

/-- An aspect record as 13 bytes (R168). -/
def Aspect.bytes (a : Aspect) : List Byte :=
  put8 (a.closed.num + 4 * a.emergency.toNat + 8 * a.resolved.toNat + 16 * a.condition.num +
      128 * a.announced.isSome.toNat) ++
    putOpt8 (a.reason.map Reason.num) ++ put8 (a.level + 16 * a.restr.num) ++ put8 (a.speed.getD 0) ++
    put8 ((a.notice.map Prod.fst).getD 0) ++ put32 ((a.notice.map Prod.snd).getD 0) ++ putOpt32 a.announced

/-- The records of segment `seg`, S then N. -/
def State.segmentBytes (s : State) (seg : Nat) : List Byte :=
  ([2 * seg, 2 * seg + 1].filterMap (fun i => (finOf 32 i).map (fun j => (s.rsv.published[j]).bytes))).flatten

/-- The last segment that one reply carries. -/
def aspectStop (first last : Nat) : Nat := if first + 7 < last then first + 7 else last

/-- The data of an ASPECT_READ reply. -/
def State.aspectData (first last : Nat) (s : State) : List Byte :=
  let stop := aspectStop first last
  put16 s.rsv.generation ++ putFlag (!s.valid) ++ put8 first ++ put8 (2 * (stop + 1 - first)) ++
    putFlag (decide (stop < last)) ++ (List.range (stop + 1 - first)).flatMap (fun j => s.segmentBytes (first + j))

/-- The number of segments that ASPECT_READ serves: NSEG, or 16 under MAP_INVALID. -/
def State.aspectBound (s : State) : Nat := if s.valid then s.img.nseg else 16

def aspectRead (a : Asker) (args : List Byte) (s : State) : State :=
  if get8 args 0 ≤ get8 args 1 ∧ get8 args 1 < s.aspectBound then
    s.answer a .ok (s.aspectData (get8 args 0) (get8 args 1))
  else s.answer a .badRange []

end Sys2Proof.Machine
end

