-- ==== Sys2Proof/Machine/Orders.lean ====
section
/-! DEFINITION. ORD (chapter 2): the order table and its requests, the schedule and the jumps of the corridor clock, the
requests of CND and AVP, and the warm start of the table. -/

namespace Sys2Proof.Machine

/-! ### Entries -/

/-- An order record as 26 bytes (R168). -/
def Order.bytes (o : Order) : List Byte :=
  put16 o.number ++ put8 o.issuer.num ++ put8 o.content.kind.num ++ put8 o.first ++ put8 o.last ++ put8 o.dirs.num ++
    put8 o.content.num ++ put8 (o.emergency.toNat + 2 * o.start.isSome.toNat + 4 * o.finish.isSome.toNat) ++
    putOpt32 o.start ++ putOpt32 o.finish ++ put16 o.lead ++ putOpt8 o.path ++ putOpt8 o.station ++
    put8 o.state.num ++ put32 o.stamp

/-- The announce window of an entry has opened at `now` (R29). -/
def Order.windowOpen (o : Order) (now : Nat) : Bool :=
  match o.start with
  | none => false
  | some t => o.content.kind == .close && decide (0 < o.lead) && decide (t ≤ now + 60 * o.lead)

/-- The start is absent, or at or before `now`. -/
def Order.started (o : Order) (now : Nat) : Bool :=
  match o.start with
  | none => true
  | some t => decide (t ≤ now)

/-- The end is present, and at or before `now` (R30). -/
def Order.ended (o : Order) (now : Nat) : Bool :=
  match o.finish with
  | none => false
  | some t => decide (t ≤ now)

/-- The state that an entry has at `now` (R29). -/
def Order.stateAt (o : Order) (now : Nat) : OrderState :=
  if o.started now then .active else if o.windowOpen now then .announced else .scheduled

/-- A port-issued entry (R18). -/
def Issuer.ofPort : Issuer → Bool
  | .ctr | .avs | .site => true
  | .wx | .trip => false

/-- The quota of a port issuer (R18). -/
def Issuer.quota : Issuer → Nat
  | .ctr => 20
  | .avs => 20
  | .site => 10
  | .wx => 18
  | .trip => 12

/-! ### The table -/

/-- Add an entry, keeping the ascending order of numbers. -/
def insertOrder (o : Order) : List Order → List Order
  | [] => [o]
  | x :: t => if o.number < x.number then o :: x :: t else x :: insertOrder o t

namespace OrdUnit

def find (u : OrdUnit) (n : Nat) : Option Order := u.table.find? (fun o => o.number == n)

def held (u : OrdUnit) (i : Issuer) : Nat := (u.table.filter (fun o => o.issuer == i)).length

/-- The entries of the port-issued pool (R18). -/
def portPool (u : OrdUnit) : Nat := (u.table.filter (fun o => o.issuer.ofPort)).length

/-- Replace the entry that carries the number of `o`. -/
def replace (u : OrdUnit) (o : Order) : OrdUnit :=
  { u with table := u.table.map (fun x => if x.number = o.number then o else x) }

def remove (u : OrdUnit) (n : Nat) : OrdUnit := { u with table := u.table.filter (fun o => o.number != n) }

end OrdUnit

/-- Advance the order counter by one (R19). -/
def nextCount (c : Nat) : Nat := if 65535 ≤ c then 1 else c + 1

/-- Advance until the number is free (R19); with at most 64 entries 65 advances are enough. -/
def freeNumber (u : OrdUnit) : Nat → Nat → Nat
  | 0, c => c
  | fuel + 1, c => if (u.find (nextCount c)).isSome then freeNumber u fuel (nextCount c) else nextCount c

/-- Advance the activation counter (R20). -/
def nextStamp (c : Nat) : Nat := if 4294967295 ≤ c then 1 else c + 1

namespace State

def setOrd (u : OrdUnit) (s : State) : State := { s with ord := u }

def now (s : State) : Nat := s.img.clock

/-! ### Admission, renewal, retirement -/

/-- The entry admitted from the draft `o`: the next free number, and a stamp when it is ACTIVE (R19, R20). -/
def newEntry (o : Order) (s : State) : Order :=
  { o with
    number := freeNumber s.ord 65 s.ord.counter
    stamp := if o.state = .active then nextStamp s.ord.stamps else 0 }

/-- Admit a new entry: it takes its number and stamp, ORDER_ADMITTED is recorded and RSV marked dirty (R26). -/
def admitOrder (o : Order) (s : State) : State :=
  let e := s.newEntry o
  ((s.setOrd
      { table := insertOrder e s.ord.table
        counter := e.number
        stamps := if o.state = .active then e.stamp else s.ord.stamps }).record (.orderAdmitted e)).markDirty

/-- Retire the entry numbered `n`, when there is one: it is removed, ORDER_ENDED is recorded and RSV marked dirty (R17,
R37). -/
def retire (n : Nat) (reason : EndReason) (s : State) : State :=
  match s.ord.find n with
  | none => s
  | some o => ((s.setOrd (s.ord.remove n)).record (.orderEnded n o.issuer o.content.kind reason)).markDirty

/-- Put `o` in place of the entry of its number and mark RSV dirty; entering ACTIVE takes a stamp (R20). `was` is the
state before. -/
def putOrder (o : Order) (was : OrderState) (s : State) : State :=
  if o.state = .active ∧ was ≠ .active then
    s.setOrd { s.ord.replace { o with stamp := nextStamp s.ord.stamps } with stamps := nextStamp s.ord.stamps }
  else s.setOrd (s.ord.replace o)

/-- The entry as `putOrder` stores it. -/
def stored (o : Order) (was : OrderState) (s : State) : Order :=
  if o.state = .active ∧ was ≠ .active then { o with stamp := nextStamp s.ord.stamps } else o

/-- Change the state of an entry by the clock: ORDER_STATE is recorded and RSV marked dirty (R29). -/
def changeState (o : Order) (st : OrderState) (s : State) : State :=
  ((s.putOrder { o with state := st } o.state).record
    (.orderState o.number st (s.stored { o with state := st } o.state).stamp)).markDirty

/-! ### The schedule and the jumps (R29, R30, R35, R36, R39) -/

/-- What a clock that now reads `t` does to one entry, the first case of R35 that fits; R29 and R30 second by second. An entry
whose end was capped at its start (R24) is retired at that second and never ACTIVE, as R35 gives for a jump (DESIGN CHOICE,
notes/assumptions/28.md). -/
def advanceOrder (t : Nat) (s : State) (o : Order) : State :=
  if o.ended t then s.retire o.number .expired
  else if o.state ≠ .active ∧ o.started t then s.changeState o .active
  else if o.state = .scheduled ∧ o.windowOpen t then s.changeState o .announced
  else s

/-- The clock goes forward to `t` (R29, R30, R35), entries in ascending order of number. At one tick too, ends and entries
into a state interleave in that order, as R35 gives for a jump (DESIGN CHOICE, notes/assumptions/28.md). -/
def advanceOrders (t : Nat) (s : State) : State := s.ord.table.foldl (advanceOrder t) s

/-- R36 on one entry: an ANNOUNCED entry whose window no longer holds returns to SCHEDULED. -/
def rewindOrder (t : Nat) (s : State) (o : Order) : State :=
  if o.state = .announced ∧ o.windowOpen t = false then s.changeState o .scheduled else s

/-- The clock goes back to `t` (R36). -/
def rewindOrders (t : Nat) (s : State) : State := s.ord.table.foldl (rewindOrder t) s

/-- R39 step 1: purge what does not fit a valid map. -/
def purgeOrders (s : State) : State :=
  if s.valid then s.ord.table.foldl (fun s o => if s.fits o then s else s.retire o.number .purged) s else s

/-- R39 step 2: expire what has ended. -/
def expireOrders (s : State) : State :=
  s.ord.table.foldl (fun s o => if o.ended s.now then s.retire o.number .expired else s) s

/-- R39 step 3: an ACTIVE entry stays ACTIVE, any other takes the state of R29. -/
def restateOrders (s : State) : State :=
  s.ord.table.foldl
    (fun s o => if o.state = .active ∨ o.stateAt s.now = o.state then s else s.changeState o (o.stateAt s.now)) s

/-- ORD at a start, once the map state is announced (R39, R40). -/
def startOrders (s : State) : State := s.purgeOrders.expireOrders.restateOrders.markDirty

end State

/-! ### ORDER_POST (R21 to R26) -/

/-- The adjusted content of R23. -/
def Content.adjust : Content → Content
  | .speed v => .speed (clampNat 20 120 (v / 10 * 10))
  | .avwarn n => .avwarn (if 5 < n then 5 else n)
  | c => c

/-- The adjusted announce lead of R23. -/
def adjustLead (k : Kind) (lead : Nat) : Nat := if k = .close then (if 720 < lead then 720 else lead) else 0

/-- The adjusted duration of R23. -/
def adjustDuration (d : Nat) : Nat := if 10080 < d then 10080 else d

/-- The end of R24, counted from `base`, capped at 4294967295. -/
def finishFrom (base d : Nat) : Nat := if 4294967295 < base + 60 * d then 4294967295 else base + 60 * d

/-- The list of adjusted fields as the byte of R167. -/
def adjustMask (c : Content) (x : PostArgs) : Nat :=
  (match c with
    | .speed _ => (decide (c.adjust ≠ c)).toNat
    | _ => 0) +
  (match c with
    | .avwarn _ => 2 * (decide (c.adjust ≠ c)).toNat
    | _ => 0) +
  4 * (decide (adjustLead c.kind x.lead ≠ x.lead)).toNat +
  8 * (decide (c.kind ≠ .close) && x.emergency).toNat +
  16 * (match x.duration with
    | some d => (decide (adjustDuration d ≠ d)).toNat
    | none => 0)

/-- The draft of a posted order: the adjusted values, the end of R24 and the state of R29 at `now`; number and stamp are
still to be issued. -/
def draftOrder (p : Port) (c : Content) (d : Dirs) (x : PostArgs) (now : Nat) : Order :=
  let o : Order :=
    { number := 0, issuer := p.issuer, content := c.adjust, first := x.first, last := x.last, dirs := d
      emergency := decide (c.kind = .close) && x.emergency
      start := x.start
      finish := x.duration.map (fun n => finishFrom (x.start.getD now) (adjustDuration n))
      lead := adjustLead c.kind x.lead
      path := none, station := none, state := .scheduled, stamp := 0 }
  { o with state := o.stateAt now }

/-- The entry that a post renews (R25). -/
def OrdUnit.renewal (u : OrdUnit) (o : Order) : Option Order :=
  u.table.find? fun e => e.issuer == o.issuer && e.content.kind == o.content.kind && e.first == o.first &&
    e.last == o.last && e.dirs == o.dirs && e.path == none

/-- The first step of R21 from 1 to 6 that fails. -/
def postRefusal (x : PostArgs) (s : State) : Option ReplyCode :=
  if !s.valid then some .mapInvalid
  else if ¬(x.first ≤ x.last ∧ x.last < s.img.nseg) then some .badRange
  else match contentOf x.kind x.value, dirsOf x.dirs with
    | some c, some d =>
      if x.duration = some 0 then some .badValue
      else if (match c with
          | .notice id => (s.img.noticeText id).isNone
          | _ => false) then some .noText
      else if x.start.isSome ∧ s.img.timeUnset then some .timeUnset
      else if (draftOrder .centre c d x s.now).ended s.now then some .alreadyEnded
      else none
    | _, _ => some .badValue

/-- The data of an ADMITTED, RENEWED or ADJUSTED reply (R23, R25, R26). -/
def postReply (a : Asker) (mask : Nat) (renewal : Bool) (number : Nat) (st : OrderState) (s : State) : State :=
  if mask = 0 then s.answer a (if renewal then .renewed else .admitted) (put16 number ++ put8 st.num)
  else s.answer a .adjusted (put16 number ++ putFlag renewal ++ put8 st.num ++ put8 mask)

/-- The renewed entry (R25): the content, emergency flag, start, end, lead and state of the draft; the stamp by R20. -/
def renewedEntry (e draft : Order) (s : State) : Order :=
  s.stored
    { e with content := draft.content, emergency := draft.emergency, start := draft.start, finish := draft.finish
             lead := draft.lead, state := draft.state } e.state

/-- A renewal: the entry is replaced, ORDER_RENEWED recorded and RSV marked dirty (R25). -/
def renewOrder (e draft : Order) (s : State) : State :=
  ((s.putOrder
      { e with content := draft.content, emergency := draft.emergency, start := draft.start, finish := draft.finish
               lead := draft.lead, state := draft.state } e.state).record
    (.orderRenewed (renewedEntry e draft s))).markDirty

/-- Room for one more entry of a port issuer: the quota is tested before the pool (R18). -/
def roomRefusal (i : Issuer) (s : State) : Option ReplyCode :=
  if i.quota ≤ s.ord.held i then some .quota else if 34 ≤ s.ord.portPool then some .tableFull else none

/-- ORDER_POST as ORD takes it (R21 to R26). -/
def orderPost (a : Asker) (args : List Byte) (s : State) : State :=
  let x := parsePost args
  match postRefusal x s, contentOf x.kind x.value, dirsOf x.dirs with
  | none, some c, some d =>
    let o := draftOrder a.port c d x s.now
    match s.ord.renewal o with
    | some e => postReply a (adjustMask c x) true e.number o.state (renewOrder e o s)
    | none =>
      match roomRefusal o.issuer s with
      | some rc => s.answer a rc []
      | none => postReply a (adjustMask c x) false (s.newEntry o).number o.state (s.admitOrder o)
  | some rc, _, _ => s.answer a rc []
  | none, _, _ => s.answer a .badValue []

/-! ### Requests of CND (R27) -/

/-- The WX entry of a station and kind. -/
def OrdUnit.wxEntry (u : OrdUnit) (k : Nat) (kind : Kind) : Option Order :=
  u.table.find? fun e => e.issuer == .wx && e.station == some k && e.content.kind == kind

/-- CND's suppression flag for a kind (R90). -/
def Station.suppressed (x : Station) : Kind → Bool
  | .speed => x.supSpeed
  | .restrict => x.supRestrict
  | .close => x.supClose
  | _ => false

/-- The WX entry that a raise admits (R27). -/
def wxDraft (k : Nat) (c : Content) (first last : Nat) : Order :=
  { number := 0, issuer := .wx, content := c, first, last, dirs := .both, emergency := false, start := none
    finish := none, lead := 0, path := none, station := some k, state := .active, stamp := 0 }

/-- WX raise (R27): an internal renewal when an entry is held, dropped under a suppression flag or without a span, else a
new entry. -/
def wxRaise (k : Fin 6) (c : Content) (s : State) : State :=
  match s.ord.wxEntry k.val c.kind with
  | some e =>
    if e.content = c then s
    else ((s.setOrd (s.ord.replace { e with content := c })).record (.orderRenewed { e with content := c })).markDirty
  | none =>
    if s.cnd[k].suppressed c.kind then s
    else match s.img.span k.val with
      | some (a, b) => s.admitOrder (wxDraft k.val c a b)
      | none => s

/-- WX retire (R27). -/
def wxRetire (k : Fin 6) (kind : Kind) (s : State) : State :=
  match s.ord.wxEntry k.val kind with
  | some e => s.retire e.number .conditionCleared
  | none => s

/-! ### Requests of AVP (R28) -/

/-- A path-linked closure over the path range (R28). -/
def pathDraft (i : Issuer) (emergency : Bool) (k : Nat) (r : PathRec) : Order :=
  { number := 0, issuer := i, content := .close .avalanche, first := r.first, last := r.last, dirs := .both, emergency
    start := none, finish := none, lead := 0, path := some k, station := none, state := .active, stamp := 0 }

/-- The TRIP entry linked to path `k`. -/
def OrdUnit.tripEntry (u : OrdUnit) (k : Nat) : Option Order :=
  u.table.find? fun e => e.issuer == .trip && e.path == some k

/-- TRIP create (R28): the number of the TRIP order, and the state after. A standing TRIP order is renewed in place with
the same content, and no event is recorded. -/
def tripCreate (k : Nat) (r : PathRec) (s : State) : Nat × State :=
  match s.ord.tripEntry k with
  | some e => (e.number, s)
  | none => ((s.newEntry (pathDraft .trip true k r)).number, s.admitOrder (pathDraft .trip true k r))

/-! ### Reads (R38) -/

def orderRead (a : Asker) (args : List Byte) (s : State) : State :=
  match s.ord.find (get16 args 0) with
  | some o => s.answer a .ok o.bytes
  | none => s.answer a .notFound []

/-- The entries at or above a number, ascending. -/
def OrdUnit.listFrom (u : OrdUnit) (n : Nat) : List Order := u.table.filter (fun o => decide (n ≤ o.number))

def orderList (a : Asker) (args : List Byte) (s : State) : State :=
  let l := s.ord.listFrom (get16 args 0)
  s.answer a .ok (put8 (l.take 8).length ++ putFlag (decide (8 < l.length)) ++ (l.take 8).flatMap Order.bytes)

end Sys2Proof.Machine
end

