-- ==== Sys2Proof/Machine/Paths.lean ====
section
/-! DEFINITION. AVP (chapter 6): loop zones, trips, the hold protocol, the path requests, the lift of a path-linked order,
and ORDER_LIFT itself, whose second half is AVP's (R31 to R33, R100). -/

namespace Sys2Proof.Machine

/-! ### Records as loaded, for the record reads (R2) -/

/-- The 32 bytes of a present record as loaded; 32 absent bytes for a record that is not present. -/
def recordBytes (s : State) (count : Nat) (rowOf : Nat → Nat) (i : Nat) : List Byte :=
  if i < count then s.img.row (rowOf i) else List.replicate 32 0xFF#8

/-- The map state, which record reads carry under MAP_INVALID (R2). -/
def mapStateTail (s : State) : List Byte := if s.valid then [] else [1#8]

/-- The highest index that a record read serves, plus 1: the count under MAP_VALID, every possible record otherwise. -/
def readBound (s : State) (count capacity : Nat) : Nat := if s.valid then count else capacity

/-- An unmet item: the name's position, then the fields of that name. -/
def Unmet.bytes : Option Unmet → List Byte
  | some (.segment s d) => put8 0 ++ put8 s ++ put8 d.num
  | some (.gate g) => put8 1 ++ put8 g
  | some (.sign i) => put8 2 ++ put8 i
  | some .tripped => put8 3
  | none => [0xFF#8]

/-! ### The confirmation test (R102) -/

namespace State

/-- The published record (seg, d) (R41). -/
def aspectAt (s : State) (seg : Nat) (d : Dir) : Aspect :=
  match finOf 32 (2 * seg + d.num) with
  | some i => s.rsv.published[i]
  | none => .unknown

/-- Item (a) for one record: RESOLVED and closed. -/
def closedAt (s : State) (seg : Nat) (d : Dir) : Bool :=
  (s.aspectAt seg d).resolved && decide ((s.aspectAt seg d).closed ≠ .no)

/-- The first record of the path range that is not published closed. -/
def unmetSegment (s : State) (r : PathRec) : Option Unmet :=
  (((List.range (r.last + 1 - r.first)).flatMap
    (fun j => [(r.first + j, Dir.S), (r.first + j, Dir.N)])).find? (fun x => !s.closedAt x.1 x.2)).map
      (fun x => .segment x.1 x.2)

/-- Gate `g` is CLOSED, inhibited or not. -/
def gateShut (s : State) (g : Nat) : Bool :=
  match finOf 8 g with
  | some i => decide (s.gtc[i].state = .closed)
  | none => false

/-- Sign `i` is closure-confirmed (R144). -/
def signConfirmed (s : State) (i : Nat) : Bool :=
  match finOf 24 i with
  | some j => s.signs[j].confirmed
  | none => false

def unmetGate (s : State) (r : PathRec) : Option Unmet :=
  (r.barriers.find? (fun g => !s.gateShut g)).map .gate

/-- The approach signs of a gate, as the map lists them. -/
def approachOf (s : State) (g : Nat) : List Nat := ((s.gate? g).map GateRec.approach).getD []

def unmetSign (s : State) (r : PathRec) : Option Unmet :=
  ((r.barriers.flatMap s.approachOf).find? (fun i => !s.signConfirmed i)).map .sign

/-- Items (b) and (c). -/
def unmetField (s : State) (r : PathRec) : Option Unmet := (s.unmetGate r).or (s.unmetSign r)

/-- The first unmet item of the whole test. -/
def unmetItem (s : State) (r : PathRec) : Option Unmet := (s.unmetSegment r).or (s.unmetField r)

/-- A path in HOLD_PENDING whose test passes enters HOLD (R103). -/
def confirmHold (k : Fin 12) (s : State) : State :=
  (s.setPath k { s.avp[k] with state := .hold, timer := none, unmet := none }).record
    (.holdConfirmed k.val s.avp[k].holdOrder s.rsv.generation)

/-- A path in HOLD whose test fails returns to HOLD_PENDING (R105). -/
def breakHold (k : Fin 12) (item : Unmet) (s : State) : State :=
  (s.setPath k { s.avp[k] with state := .holdPending, timer := some 0, unmet := some item }).record
    (.holdBroken k.val s.avp[k].holdOrder item)

/-- The test of one path, in HOLD_PENDING on all items and in HOLD on (b) and (c) (R102, R103, R105). -/
def testPath (k : Fin 12) (r : PathRec) (s : State) : State :=
  match s.avp[k].state with
  | .holdPending =>
    match s.unmetItem r with
    | none => s.confirmHold k
    | some _ => s
  | .hold =>
    match s.unmetField r with
    | none => s
    | some item => s.breakHold k item
  | _ => s

/-- Test, in ascending order, every present path that `named` picks and whose state is among `states`. -/
def testPaths (named : PathRec → Bool) (states : List PathState) (s : State) : State :=
  (List.finRange 12).foldl
    (fun s k => match s.path? k.val with
      | some r => if named r && states.contains s.avp[k].state then s.testPath k r else s
      | none => s) s

/-- GTC reports a change of gate `g` (R102, R127). -/
def reportGate (g : Fin 8) (s : State) : State :=
  if s.valid then s.testPaths (fun r => r.barriers.contains g.val) [.holdPending, .hold] else s

/-- SCP reports a change of closure-confirmed of sign `i` to AVP (R102, R144). -/
def reportSignToPaths (i : Fin 24) (s : State) : State :=
  s.testPaths (fun r => r.barriers.any (fun g => (s.approachOf g).contains i.val)) [.holdPending, .hold]

/-- A publication reaches AVP (R53, R102). -/
def publishToPaths (s : State) : State := s.testPaths (fun _ => true) [.holdPending]

end State

/-! ### Loop zones (R93 to R98, R104, R106, R111) -/

/-- The zone of an input voltage in thousandths of the loop source (R93). -/
def zoneOf (perMille : Nat) : Zone :=
  if perMille < 125 then .short else if perMille < 375 then .trip else if perMille < 875 then .normal else .opened

/-- One sample of a supervised loop, the first case of R94 that fits: the candidate zone and its count. -/
def Path.sample (p : Path) (z : Zone) : Path :=
  if p.zone = some z then { p with candidate := none, debounce := 0 }
  else if p.candidate = some z then { p with debounce := p.debounce + 1 }
  else { p with candidate := some z, debounce := 1 }

/-- One more sample `z` makes the debounce count reach the debounce, so that `z` is accepted (R94). -/
def Path.completes (p : Path) (debounce : Nat) (z : Zone) : Bool :=
  decide (p.zone ≠ some z) && decide (debounce ≤ (p.sample z).debounce)

/-- A line fault (R94). -/
def zoneIsFault (z : Zone) : Bool := z == .short || z == .opened

/-- The zone acts as a trip: TRIP, or a line fault under FAIL_CLOSED (R98). -/
def actsAsTrip (r : PathRec) (z : Zone) : Bool := z == .trip || (zoneIsFault z && r.failClosed)

/-- The path state that follows from an accepted zone under MAP_VALID (section 6.8). A path in TRIPPED with no accepted
zone yet was rebuilt at the start (R111). -/
def stateAfterZone (r : PathRec) (p : Path) (z : Zone) : PathState :=
  match p.state with
  | .quiet => if actsAsTrip r z then .tripped else .quiet
  | .tripped =>
    if z = .normal then .latched
    else if zoneIsFault z ∧ !r.failClosed ∧ p.zone = none then .latched
    else .tripped
  | .latched => if actsAsTrip r z then .tripped else .latched
  | .holdPending => if actsAsTrip r z then .tripped else .holdPending
  | .hold => .hold

/-- Trip counts saturate at 65535. -/
def Path.tripped1 (p : Path) : Nat := satAdd 65535 p.trips 1

namespace State

/-- The path whose record in use names a loop (R93). -/
def pathOfLoop (s : State) (loop : Fin 12) : Option (Fin 12) :=
  (List.finRange 12).find? (fun k => s.supervised k.val == some loop.val)

/-- What an accepted zone does to the path beyond its LOOP_ZONE and PATH_LINE_FAULT (R96 to R98, R104, R106). -/
def zoneEffect (k : Fin 12) (r : PathRec) (old : Path) (z : Zone) (s : State) : State :=
  match old.state, actsAsTrip r z with
  | .quiet, true =>
    let c := tripCreate k.val r s
    (c.2.setPath k
      { s.avp[k] with state := .tripped, tripOrder := some c.1, trips := old.tripped1, released := false }).record
      (.pathTripped k.val (some c.1) old.tripped1)
  | .latched, true =>
    (s.setPath k { s.avp[k] with state := .tripped, trips := old.tripped1 }).record
      (.pathTripped k.val old.tripOrder old.tripped1)
  | .holdPending, true =>
    let c := tripCreate k.val r s
    ((c.2.setPath k
      { s.avp[k] with state := .tripped, tripOrder := some c.1, holdOrder := none, timer := none
                      trips := old.tripped1, released := false, unmet := some .tripped }).record
      (.pathTripped k.val (some c.1) old.tripped1)).record (.holdFailed k.val old.holdOrder (some .tripped))
  | .hold, _ =>
    if z = .trip then
      (s.setPath k { s.avp[k] with released := true, trips := old.tripped1 }).record
        (.pathReleased k.val old.holdOrder old.tripped1)
    else s
  | _, _ => s.setPath k { s.avp[k] with state := stateAfterZone r old z }

/-- An accepted zone of path `k` (R94): under MAP_INVALID it is recorded alone (R16). -/
def acceptZone (k : Fin 12) (r : PathRec) (loop : Fin 12) (z : Zone) (s : State) : State :=
  let old := s.avp[k]
  let after := if s.valid then stateAfterZone r old z else old.state
  let s1 := (s.setPath k { old with zone := some z, candidate := none, debounce := 0 }).record
    (.loopZone loop.val k.val z after)
  let s2 := if zoneIsFault z then s1.record (.pathLineFault k.val loop.val z) else s1
  if s.valid then s2.zoneEffect k r old z else s2

/-- ACCEPTED_ZONE: the sample of a supervised loop that completes the run of zone `z` (R94). Where one more sample of `z`
does not complete a run, no zone is accepted (notes/assumptions/8.md). -/
def acceptedZone (loop : Fin 12) (z : Zone) (s : State) : State :=
  match s.pathOfLoop loop with
  | none => s
  | some k =>
    match s.path? k.val with
    | none => s
    | some r => if s.avp[k].completes r.debounce z then s.acceptZone k r loop z else s

/-- One sample `z` of the loop of path `k` (R94): the zone whose run it completes is accepted, any other is counted. -/
def sampleLoop (k : Fin 12) (r : PathRec) (loop : Fin 12) (z : Zone) (s : State) : State :=
  if s.avp[k].completes r.debounce z then s.acceptZone k r loop z else s.setPath k (s.avp[k].sample z)

/-- The sample of one path: of its loop, when that is supervised (R93). -/
def samplePath (v : Vector Nat 12) (s : State) (k : Fin 12) : State :=
  match s.path? k.val, (s.supervised k.val).bind (finOf 12) with
  | some r, some l => s.sampleLoop k r l (zoneOf v[l])
  | _, _ => s

/-- LOOP_SAMPLE: every supervised loop is sampled, path by path in ascending order (R93, R94, notes/assumptions/9.md). -/
def loopSample (v : Vector Nat 12) (s : State) : State := (List.finRange 12).foldl (samplePath v) s

/-- CONFIRM_TIMER_EXPIRY (R103): the test is made once more; its first unmet item is the cause of HOLD_FAILED. -/
def confirmExpiry (k : Fin 12) (s : State) : State :=
  match s.path? k.val with
  | none => s
  | some r =>
    if s.avp[k].state = .holdPending ∧ s.avp[k].timer.isSome then
      match s.unmetItem r with
      | none => s.confirmHold k
      | some item =>
        (s.setPath k
          { s.avp[k] with state := .quiet, holdOrder := none, timer := none, released := false
                          unmet := some item }).record (.holdFailed k.val s.avp[k].holdOrder (some item))
    else s

end State

/-! ### Requests (R99, R101, R107, R110) -/

/-- A present path named by a request byte. -/
def State.pathArg (s : State) (n : Nat) : Option (Fin 12 × PathRec) :=
  match finOf 12 n, s.path? n with
  | some k, some r => some (k, r)
  | _, _ => none

/-- The path returns to QUIET with its TRIP order retired (R99, R100). -/
def State.clearPath (k : Fin 12) (n : Nat) (s : State) : State :=
  (s.retire n .pathCleared).setPath k { s.avp[k] with state := .quiet, tripOrder := none, released := false }

/-- The hold ends: its order is retired and the path is QUIET (R107). -/
def State.endHold (k : Fin 12) (n : Nat) (s : State) : State :=
  (s.retire n .holdEnded).setPath k
    { s.avp[k] with state := .quiet, holdOrder := none, timer := none, released := false }

/-- Steps 4 and 5 of R107. -/
def Path.endRefusal (p : Path) : Option ReplyCode :=
  if p.state ≠ .hold ∧ p.state ≠ .holdPending then some .pathState
  else if p.released ∧ p.zone = some .trip then some .pathActive
  else none

/-- PATH_CLEAR (R99). -/
def pathClear (a : Asker) (args : List Byte) (s : State) : State :=
  if !s.valid then s.answer a .mapInvalid []
  else match s.pathArg (get8 args 0) with
    | none => s.answer a .badRange []
    | some (k, _) =>
      if !s.img.mayLift a.port .trip then s.answer a .notPermitted []
      else match s.avp[k].state with
        | .latched => (s.clearPath k (s.avp[k].tripOrder.getD 0)).answer a .ok (putOrderNumber s.avp[k].tripOrder)
        | .tripped => s.answer a .pathActive []
        | _ => s.answer a .pathState []

/-- The path as PATH_HOLD sets it, with the number of its hold order (R101). -/
def Path.heldBy (p : Path) (n : Nat) : Path :=
  { p with state := .holdPending, holdOrder := some n, released := false, unmet := none, timer := some 0 }

/-- PATH_HOLD (R101). -/
def pathHold (a : Asker) (args : List Byte) (s : State) : State :=
  if !s.valid then s.answer a .mapInvalid []
  else match s.pathArg (get8 args 0) with
    | none => s.answer a .badRange []
    | some (k, r) =>
      if s.avp[k].state ≠ .quiet then s.answer a .pathState []
      else match roomRefusal .avs s with
        | some rc => s.answer a rc []
        | none =>
          let o := pathDraft .avs false k.val r
          let n := (s.newEntry o).number
          ((((s.admitOrder o).setPath k (s.avp[k].heldBy n)).answer a .holdPending (put16 n)).testPath k r)

/-- PATH_END_HOLD (R107). -/
def pathEndHold (a : Asker) (args : List Byte) (s : State) : State :=
  if !s.valid then s.answer a .mapInvalid []
  else match s.pathArg (get8 args 0) with
    | none => s.answer a .badRange []
    | some (k, _) =>
      if !s.img.mayLift a.port .avs then s.answer a .notPermitted []
      else match s.avp[k].endRefusal with
        | some rc => s.answer a rc []
        | none => (s.endHold k (s.avp[k].holdOrder.getD 0)).answer a .ok (putOrderNumber s.avp[k].holdOrder)

/-- The reach of a path in both directions, as first and last segments (R9, R110): four bytes, S first and last, then N
first and last, each 0xFF without a record in use (DESIGN CHOICE, notes/assumptions/12.md). -/
def reachBytes (s : State) (r : Option PathRec) : List Byte :=
  match r with
  | some r => put8 (s.img.reachLow r.first) ++ put8 r.last ++ put8 r.first ++ put8 (s.img.reachHigh r.last - 1)
  | none => List.replicate 4 0xFF#8

/-- PATH_READ (R110). Under MAP_INVALID a path above 11 is answered BAD_RANGE (DESIGN CHOICE, notes/assumptions/30.md). -/
def pathRead (a : Asker) (args : List Byte) (s : State) : State :=
  let n := get8 args 0
  match finOf 12 n with
  | some k =>
    if n < readBound s s.img.counts.paths 12 then
      let p := s.avp[k]
      s.answer a .ok (recordBytes s s.img.counts.paths rowOfPath n ++ reachBytes s (s.path? n) ++ put8 p.state.num ++
        putOpt8 (p.zone.map Zone.num) ++ putOpt8 (p.candidate.map Zone.num) ++ put8 p.debounce ++
        putOrderNumber p.tripOrder ++ putOrderNumber p.holdOrder ++ putOpt16 p.timer ++ putFlag p.released ++
        put16 p.trips ++ Unmet.bytes p.unmet ++ mapStateTail s)
    else s.answer a .badRange []
  | none => s.answer a .badRange []

/-! ### ORDER_LIFT (R31 to R33, R100) -/

/-- The suppression flag of a lifted WX order's kind is set (R32, R90). -/
def Station.suppress (x : Station) : Kind → Station
  | .speed => { x with supSpeed := true }
  | .restrict => { x with supRestrict := true }
  | .close => { x with supClose := true }
  | _ => x

/-- ORD sets CND's suppression flag when the lifted entry is a WX order (R32). -/
def State.suppressFor (o : Order) (s : State) : State :=
  match o.issuer, o.station.bind (finOf 6) with
  | .wx, some k => s.setStation k (s.cnd[k].suppress o.content.kind)
  | _, _ => s

/-- A permitted lift of an entry without a path link (R32). -/
def liftPlain (a : Asker) (o : Order) (s : State) : State :=
  ((s.retire o.number (if o.state = .active then .lifted a.port else .cancelled)).suppressFor o).answer a .ok
    (put16 o.number)

/-- AVP's answer to a permitted lift of an entry linked to path `k` (R33, R100). -/
def liftLinked (a : Asker) (o : Order) (k : Fin 12) (s : State) : State :=
  let p := s.avp[k]
  if p.tripOrder = some o.number then
    if p.state = .latched then (s.clearPath k o.number).answer a .ok (put16 o.number)
    else s.answer a .pathActive []
  else if p.holdOrder = some o.number then
    match p.endRefusal with
    | none => (s.endHold k o.number).answer a .ok (put16 o.number)
    | some rc => s.answer a rc []
  else (s.retire o.number (.lifted a.port)).answer a .ok (put16 o.number)

/-- ORDER_LIFT (R31). -/
def orderLift (a : Asker) (args : List Byte) (s : State) : State :=
  match s.ord.find (get16 args 0) with
  | none => s.answer a .notFound []
  | some o =>
    if !s.img.mayLift a.port o.issuer then s.answer a .notPermitted []
    else match o.path with
      | none => liftPlain a o s
      | some n =>
        if !s.valid then s.answer a .mapInvalid []
        else match finOf 12 n with
          | some k => liftLinked a o k s
          | none => (s.retire o.number (.lifted a.port)).answer a .ok (put16 o.number)

/-! ### Start (R16, R111) -/

/-- The state of a path at a start, from its record and its TRIP order. -/
def pathAtStart (s : State) (k : Fin 12) : Path :=
  match s.path? k.val, s.ord.tripEntry k.val with
  | some r, some e =>
    { Path.atStart with
      state := if s.valid ∧ r.input.isSome then .tripped else .latched
      tripOrder := some e.number }
  | _, _ => .atStart

/-- AVP rebuilds its paths once ORD has brought its table up to date (R111, R16). -/
def State.startPaths (s : State) : State := { s with avp := Vector.ofFn (pathAtStart s) }

end Sys2Proof.Machine
end

