-- ==== Sys2Proof/Machine/Elements.lean ====
section
/-! DEFINITION. What a sign shows (sections 8.2 to 8.4): the element list of a publication, its parts and their places, the
lamps of a LAMP sign, and the drawing of a page. -/

namespace Sys2Proof.Machine

/-! ### Elements (R131) -/

/-- The watched segments in watch order (R6). -/
def SignRec.watched (r : SignRec) : List Nat :=
  match r.facing with
  | .S => (List.range (r.last + 1 - r.first)).map (fun j => r.first + j)
  | .N => (List.range (r.first + 1 - r.last)).map (fun j => r.first - j)

def Aspect.isClosed (a : Aspect) : Bool := decide (a.closed ≠ .no)

/-- CLOSURE: its form, and on a LAMP sign the emergency field of the first closed record. -/
def closureElement (matrix : Bool) (l : List Aspect) : List Element :=
  match l.head?, l.find? Aspect.isClosed with
  | some a, some c =>
    [.closure (if a.isClosed then .roadClosed a.reason else .closedAhead) (if matrix then none else some c.emergency)]
  | _, _ => []

/-- The whole minutes of a corridor time, modulo a day. -/
def minuteOfDay (t : Nat) : Nat := t / 60 % 1440

def announceElement (l : List Aspect) : List Element :=
  match (l.filterMap Aspect.announced).foldl lower none with
  | some t => [.announce (minuteOfDay t)]
  | none => []

def avalancheElement (l : List Aspect) : List Element :=
  let n := l.foldl (fun n a => max n a.level) 0
  if 1 ≤ n then [.avalanche n] else []

def restrictElement (l : List Aspect) : List Element :=
  let u := l.foldl (fun r a => r.union a.restr) ⟨false, false, false⟩
  if u.isEmpty then [] else [.restrict u]

def speedElement (l : List Aspect) : List Element :=
  match l.head?.bind Aspect.speed with
  | some v => [.speed v]
  | none => []

def iceElement (l : List Aspect) : List Element :=
  match l.head? with
  | some a => if a.condition = .freeze ∨ a.condition = .near then [.ice] else []
  | none => []

/-- The notice of the highest stamp; of equal stamps, that nearer the first watched segment. -/
def topNotice (l : List Aspect) : Option (Nat × Nat) :=
  (l.filterMap Aspect.notice).foldl (fun best x => match best with
    | none => some x
    | some b => if b.2 < x.2 then some x else some b) none

def noticeElement (m : ImgUnit) (l : List Aspect) : List Element :=
  match topNotice l with
  | some (id, _) => if (m.noticeText id).isSome then [.notice id] else []
  | none => []

/-- The element list of watched records, in priority order (R131). -/
def elementsOf (m : ImgUnit) (matrix : Bool) (l : List Aspect) : List Element :=
  closureElement matrix l ++ announceElement l ++ avalancheElement l ++ restrictElement l ++ speedElement l ++
    iceElement l ++ noticeElement m l

/-- The element list of a sign from the published table (R131). -/
def State.elements (s : State) (r : SignRec) : List Element :=
  elementsOf s.img r.matrix (r.watched.map (fun g => s.aspectAt g r.facing))

/-- SCP holds a publication since the start: a publication resolves every present record (R130, R52). -/
def State.hasPublication (s : State) : Bool := (s.aspectAt 0 .S).resolved

/-- The position of an element's kind in the list of R131, as the colour table and the lamp map number the kinds. -/
def Element.pos : Element → Nat
  | .closure _ _ => 0
  | .announce _ => 1
  | .avalanche _ => 2
  | .restrict _ => 3
  | .speed _ => 4
  | .ice => 5
  | .notice _ => 6

def Element.isClosure (e : Element) : Bool := e.pos == 0

/-! ### Parts (R131, R136, R137) -/

/-- One part of an element, with the position of its element's kind: a pictogram with its large digits, a text, or the
text of a NOTICE, which takes both text slots of a page. -/
inductive Part where
  | pict (kind : PictKind) (digits : List Nat) (pos : Nat)
  | text (chars : List Nat) (pos : Nat)
  | wide (chars : List Nat) (pos : Nat)
  deriving DecidableEq, Repr

/-- The character codes of a factory text. -/
def codesOf (t : String) : List Nat := t.toList.map Char.toNat

/-- The two digits of a number below 100. -/
def twoDigits (n : Nat) : List Nat := [48 + n / 10 % 10, 48 + n % 10]

/-- The text of a CLOSURE element (R136). -/
def closureText (m : ImgUnit) : ClosureForm → List Nat
  | .roadClosed _ => (m.noticeText 1).getD (codesOf "ROAD    CLOSED")
  | .closedAhead => (m.noticeText 2).getD (codesOf "CLOSED  AHEAD")

/-- The text of an ANNOUNCE element (R136). -/
def announceText (minute : Nat) : List Nat :=
  codesOf "CLOSES  " ++ twoDigits (minute / 60) ++ [58] ++ twoDigits (minute % 60)

/-- The decimal digits of a posted speed, 20..130. -/
def speedDigits (v : Nat) : List Nat := if v < 100 then [v / 10, v % 10] else [v / 100, v / 10 % 10, v % 10]

/-- The parts of an element in the order of R131. -/
def Element.parts (m : ImgUnit) : Element → List Part
  | .closure form _ =>
    [.pict (match form with
        | .roadClosed r => .reason (r.getD .other)
        | .closedAhead => .closedAhead) [] 0, .text (closureText m form) 0]
  | .announce t => [.text (announceText t) 1]
  | .avalanche n => [.pict .avalanche [n] 2]
  | .restrict u =>
    (if u.chains then [.pict .chains [] 3] else []) ++ (if u.noHgv then [.pict .noHgv [] 3] else []) ++
      (if u.noTrailer then [.pict .noTrailer [] 3] else [])
  | .speed v => [.pict .speed (speedDigits v) 4]
  | .ice => [.pict .ice [] 5]
  | .notice id => [.wide ((m.noticeText id).getD []) 6]

/-! ### Placement (R133) -/

/-- A part in its place: the page, and for a text the slot (upper: true). -/
structure Placed where
  part  : Part
  page  : Nat
  upper : Bool
  deriving DecidableEq, Repr

/-- The free slots: pages with a free pictogram slot; text slots, numbered 2 × page, plus 1 for the lower. -/
structure Slots where
  picts : List Nat
  texts : List Nat
  deriving DecidableEq, Repr

def Slots.all : Slots := ⟨[0, 1], [0, 1, 2, 3]⟩

/-- Both text slots of a page are free. -/
def Slots.bothFree (f : Slots) (page : Nat) : Bool := f.texts.contains (2 * page) && f.texts.contains (2 * page + 1)

/-- The place of one part, and the slots then free; none when the part is dropped. -/
def Slots.place (f : Slots) (p : Part) : Option (Placed × Slots) :=
  match p with
  | .pict _ _ _ =>
    match f.picts with
    | page :: rest => some (⟨p, page, true⟩, { f with picts := rest })
    | [] => none
  | .text _ _ =>
    match f.texts with
    | t :: rest => some (⟨p, t / 2, t % 2 == 0⟩, { f with texts := rest })
    | [] => none
  | .wide _ _ =>
    if f.bothFree 0 then some (⟨p, 0, true⟩, { f with texts := f.texts.filter (fun t => 2 ≤ t) })
    else if f.bothFree 1 then some (⟨p, 1, true⟩, { f with texts := f.texts.filter (fun t => t < 2) })
    else none

/-- Place parts in order: what was placed, and how many were dropped. -/
def placeParts : Slots → List Part → List Placed × Nat
  | _, [] => ([], 0)
  | f, p :: t =>
    match f.place p with
    | some (q, g) => (q :: (placeParts g t).1, (placeParts g t).2)
    | none => ((placeParts f t).1, (placeParts f t).2 + 1)

/-- The placement of an element list. -/
def placement (m : ImgUnit) (l : List Element) : List Placed × Nat := placeParts .all (l.flatMap (Element.parts m))

/-- The page count of a placement (R133). -/
def pageCount (l : List Placed) : Nat := if l.any (fun p => p.page == 1) then 2 else 1

/-! ### Lamps (R134) -/

/-- Bits `j` of 0..7 that satisfy `p`, as a byte. -/
def bitsOf (p : Nat → Bool) : Byte := BitVec.ofNat 8 (((List.range 8).filter p).foldl (fun n j => n + 2 ^ j) 0)

/-- Lamp `j` is lit: the kind of its lamp map entry is in the list; entry 7 is UNUSED. -/
def SignRec.lit (r : SignRec) (l : List Element) (j : Nat) : Bool :=
  l.any (fun e => r.lamps.getD j 7 == e.pos)

/-- The list holds a CLOSURE with emergency yes. -/
def closureEmergency (l : List Element) : Bool :=
  l.any fun e => match e with
    | .closure _ (some true) => true
    | _ => false

def SignRec.lampWord (r : SignRec) (l : List Element) : Byte := bitsOf (r.lit l)

def SignRec.flashMask (r : SignRec) (l : List Element) : Byte :=
  bitsOf (fun j => r.lit l j && r.lamps.getD j 7 == 0 && closureEmergency l)

/-- The closure mark of a content (R133, R134). -/
def SignRec.mark (r : SignRec) (l : List Element) : Bool :=
  if r.matrix then l.any Element.isClosure
  else (List.range 8).any (fun j => r.lit l j && r.lamps.getD j 7 == 0)

/-! ### Drawing (R135 to R137) -/

/-- A character code outside 32..127 is drawn as 32. -/
def charCode (c : Nat) : Nat := if 32 ≤ c ∧ c ≤ 127 then c else 32

/-- The windows of a text whose first line stands at `top`. -/
def textWindows (page top colour : Nat) (chars : List Nat) : List DrawOp :=
  chars.mapIdx fun k c =>
    .window page (48 + 6 * (k % 8)) (top + 12 * (k / 8)) (53 + 6 * (k % 8)) (top + 12 * (k / 8) + 11) (.char (charCode c))
      colour

/-- The digit windows of a number of `n` digits. -/
def digitWindows (page colour : Nat) (digits : List Nat) : List DrawOp :=
  digits.mapIdx fun i d =>
    .window page ((48 - 12 * digits.length) / 2 + 12 * i) 12 ((48 - 12 * digits.length) / 2 + 12 * i + 11) 35 (.digit d)
      colour

/-- The accesses that draw one placed part. -/
def Placed.draw (m : ImgUnit) (p : Placed) : List DrawOp :=
  match p.part with
  | .pict kind digits pos =>
    .window p.page 0 0 47 47 (.pictogram kind) (m.colour pos) :: digitWindows p.page (m.colour pos) digits
  | .text chars pos => textWindows p.page (if p.upper then 0 else 24) (m.colour pos) (chars.take 16)
  | .wide chars pos => textWindows p.page 0 (m.colour pos) (chars.take 32)

/-- The accesses of a MATRIX composition: both pages are cleared, then the parts are drawn in placement order. -/
def drawing (m : ImgUnit) (l : List Element) : List DrawOp :=
  [.clear 0, .clear 1] ++ (placement m l).1.flatMap (Placed.draw m)

/-- Bit `k` of a mask. -/
def Glyph.bit (m : ImgUnit) (g : Glyph) (k : Nat) : Bool :=
  match g with
  | .char c => Config.fontBit c k
  | .digit d => Config.digitBit d k
  | .pictogram kind =>
    if m.siteHeld kind.num then getBit (m.sitePictogram kind.num) (k / 8) (7 - k % 8) else Config.pictogramBit kind.num k

/-- The address in page memory of a page of a sign's buffer. -/
def pageBase (i : Fin 24) (bufferA : Bool) (page : Nat) : Nat :=
  ((2 * i.val + (if bufferA then 0 else 1)) * 2 + page) * 1152

/-- The byte in which row `y` holds the pixels 4·bx .. 4·bx + 3, where `f` gives the colour that the window writes at a
pixel, or none outside the window. -/
def windowByte (f : Nat → Option Nat) (old : Byte) (bx : Nat) : Byte :=
  (List.range 4).foldl (fun b j =>
    b ||| (BitVec.ofNat 8 ((f (4 * bx + j)).getD ((old.toNat >>> (6 - 2 * j)) % 4)) <<< (6 - 2 * j))) 0#8

/-- What a window writes at the stored pixel (x, y): the mask bit of the addressed pixel, which is (95 − x, 47 − y) on a
TURNED sign. -/
def windowPixel (m : ImgUnit) (turned : Bool) (x0 y0 x1 y1 : Nat) (g : Glyph) (colour x y : Nat) : Option Nat :=
  let px := if turned then 95 - x else x
  let py := if turned then 47 - y else y
  if x0 ≤ px ∧ px ≤ x1 ∧ y0 ≤ py ∧ py ≤ y1 then
    some (if g.bit m ((py - y0) * (x1 - x0 + 1) + (px - x0)) then colour else 0)
  else none

/-- Row `y` of a page after a window. -/
def windowRow (m : ImgUnit) (turned : Bool) (x0 y0 x1 y1 : Nat) (g : Glyph) (colour base : Nat) (mem : List Host.Cell)
    (y : Nat) : List Host.Cell :=
  memWrite mem (base + 24 * y)
    ((List.range 24).map fun bx =>
      windowByte (fun x => windowPixel m turned x0 y0 x1 y1 g colour x y) (memRead mem (base + 24 * y + bx)) bx)

/-- The rows of page memory that a window touches. -/
def windowRows (turned : Bool) (y0 y1 : Nat) : List Nat :=
  (List.range 48).filter (fun y => decide (y0 ≤ (if turned then 47 - y else y) ∧ (if turned then 47 - y else y) ≤ y1))

/-- One composer access to a page of the buffer (R135). -/
def DrawOp.apply (m : ImgUnit) (i : Fin 24) (bufferA turned : Bool) (mem : List Host.Cell) : DrawOp → List Host.Cell
  | .clear page => memWrite mem (pageBase i bufferA page) (List.replicate 1152 0#8)
  | .window page x0 y0 x1 y1 g colour =>
    (windowRows turned y0 y1).foldl (windowRow m turned x0 y0 x1 y1 g colour (pageBase i bufferA page)) mem

end Sys2Proof.Machine
end

