-- ==== Sys2Proof/Machine/Gates.lean ====
section
/-! DEFINITION. GTC (chapter 7): the gate machine as a function from a gate to the states it enters, the drive, the duty
ramp and the lantern, and what each event and request does to a gate. A transition is a list of gates, one for each state
entered and recorded, in order (R127). -/

namespace Sys2Proof.Machine

/-! ### Drive (R124, R125) -/

/-- The duty of a period that starts after `n` whole periods of 20 ms, with ramp time `ramp` half-seconds (R125). -/
def dutyAfter (r : GateRec) (n : Nat) : Nat :=
  if r.ramp = 0 then 100
  else if 25 * r.ramp ≤ n then 100
  else r.startDuty + (100 - r.startDuty) * n / (25 * r.ramp)

namespace Gate

/-- A line starts: its first period has the start duty, and the travel timer starts at 0 (R118, R124, R125). -/
def startLine (r : GateRec) (l : DriveLine) (x : Gate) : Gate :=
  { x with
    drive := match l with
      | .lower => .lower
      | .raise => .raise
    waitingLine := none, periods := 0, duty := dutyAfter r 0, travel := some 0 }

/-- A stop: a running line gives way to the dead time, and a waiting request is cancelled (R124). -/
def stop (x : Gate) : Gate :=
  match x.drive with
  | .off => x
  | .dead => { x with waitingLine := none }
  | .lower | .raise => { x with drive := .dead, waitingLine := none, periods := 0, duty := 0 }

/-- A request for a line (R124). -/
def request (r : GateRec) (l : DriveLine) (x : Gate) : Gate :=
  match x.drive, l with
  | .off, _ => x.startLine r l
  | .dead, _ => { x with waitingLine := some l }
  | .lower, .lower | .raise, .raise => x
  | .lower, .raise | .raise, .lower => { x with drive := .dead, waitingLine := some l, periods := 0, duty := 0 }

/-- The dead time ends (R124). -/
def deadEnd (r : GateRec) (x : Gate) : Gate :=
  match x.drive, x.waitingLine with
  | .dead, some l => x.startLine r l
  | .dead, none => { x with drive := .off }
  | _, _ => x

/-! ### Entering states (R112, R115 to R121) -/

/-- Enter `st`: no timer, no prewarn item and no fault cause is kept from the state before (R112). -/
def enter (st : GatePos) (x : Gate) : Gate :=
  { x with state := st, cause := none, phase := none, countKind := none, remaining := 0, signTimer := none
           travel := none, retryTimer := none }

/-- Entry into FAULT (R121): the retry count is kept. -/
def enterFault (c : FaultCause) (x : Gate) : List Gate := [{ (x.enter .fault).stop with cause := some c }]

/-- Entry into OPEN or CLOSED with the drive stopped and the retry count 0 (R120). -/
def atLimit (st : GatePos) (x : Gate) : Gate := { (x.enter st).stop with retries := 0 }

/-- Entry into OPENING (R120). The travel timer of a raising BLOCKED gate runs on (R119). -/
def enterOpening (r : GateRec) (x : Gate) : List Gate :=
  let y := { x.enter .opening with travel := if x.state = .blocked then x.travel else none }
  if x.openLimit then [y, y.atLimit .opened] else [y.request r .raise]

/-- Entry into CLOSED, which acts on a demand OPEN at once unless inhibited (R120). -/
def enterClosed (r : GateRec) (x : Gate) : List Gate :=
  let y := x.atLimit .closed
  if y.demand = some .opened ∧ !y.inhibit then y :: y.enterOpening r else [y]

/-- Entry into CLOSING (R118). -/
def enterClosing (r : GateRec) (x : Gate) : List Gate :=
  let y := x.enter .closing
  if x.closedLimit then y :: y.enterClosed r else [y.request r .lower]

/-- A PREWARN whose countdown has reached 0 (R117): CLOSING when the obstruction is clear, else phase OBSTRUCTED. The head
of the list is the gate still in PREWARN. In OBSTRUCTED no countdown runs: its kind and remaining time are none (DEDUCED,
notes/assumptions/31.md). -/
def countdownOver (r : GateRec) (x : Gate) : Gate × List Gate :=
  if x.obstruction then ({ x with phase := some .obstructed, countKind := none, remaining := 0 }, [])
  else (x, x.enterClosing r)

/-- A countdown of `t` seconds begins in PREWARN (R115 to R117). -/
def countdown (k : CountKind) (t : Nat) (x : Gate) : Gate :=
  { x with phase := some .countdown, countKind := some k, remaining := t, signTimer := none }

/-- Entry into PREWARN (R115, R116); `signs` says that every approach sign is closure-confirmed. -/
def enterPrewarn (r : GateRec) (signs : Bool) (x : Gate) : List Gate :=
  let y := (x.enter .prewarn).stop
  if x.emergency then
    let z := y.countdown .emergency r.emergency
    if r.emergency = 0 then (z.countdownOver r).1 :: (z.countdownOver r).2 else [z]
  else if signs then [y.countdown .normal r.prewarn]
  else [{ y with phase := some .signWait, signTimer := some 0 }]

/-- Entry into OPEN, which acts on a demand CLOSED at once unless inhibited (R120). -/
def enterOpen (r : GateRec) (signs : Bool) (x : Gate) : List Gate :=
  let y := x.atLimit .opened
  if y.demand = some .closed ∧ !y.inhibit then y :: y.enterPrewarn r signs else [y]

/-- The open limit in BLOCKED: the waiting phase, or FAULT when the retries are used up (R119). -/
def blockedWait (x : Gate) : Gate := { x.stop with travel := none, retryTimer := some 0 }

/-- Entry into BLOCKED from CLOSING (R118, R119). A limit already asserted acts on entry (R114). The retry count has no upper
bound here (DESIGN CHOICE, notes/assumptions/32.md). -/
def enterBlocked (r : GateRec) (x : Gate) : List Gate :=
  let y := ({ x.enter .blocked with retries := x.retries + 1 }).request r .raise
  if x.openLimit then
    if r.retryLimit < x.retries + 1 then y :: y.enterFault .retriesExhausted else [y.blockedWait]
  else [y]

/-! ### Publications (R113, R115, R117 to R120) -/

/-- The emergency upgrade of a gate in PREWARN (R117): the gate, and the states it then enters. -/
def upgrade (r : GateRec) (x : Gate) : Gate × List Gate :=
  match x.phase, x.countKind with
  | some .signWait, _ =>
    let y := x.countdown .emergency (min r.prewarn r.emergency)
    if y.remaining = 0 then y.countdownOver r else (y, [])
  | some .countdown, some .normal =>
    let y := x.countdown .emergency (min x.remaining r.emergency)
    if y.remaining = 0 then y.countdownOver r else (y, [])
  | _, _ => (x, [])

/-- The demand became OPEN. -/
def demandOpen (r : GateRec) (signs : Bool) (x : Gate) : Gate × List Gate :=
  match x.state with
  | .prewarn => if x.openLimit then (x, x.enterOpen r signs) else (x, x.enterOpening r)
  | .closing => (x, x.enterOpening r)
  | .blocked => if x.retryTimer.isSome then (x, x.enterOpen r signs) else (x, x.enterOpening r)
  | .closed => if x.inhibit then (x, []) else (x, x.enterOpening r)
  | .opened | .opening | .fault => (x, [])

/-- The demand became CLOSED. -/
def demandClosed (r : GateRec) (signs : Bool) (x : Gate) : Gate × List Gate :=
  match x.state with
  | .opened => if x.inhibit then (x, []) else (x, x.enterPrewarn r signs)
  | .opening => (x, x.enterPrewarn r signs)
  | .prewarn | .closing | .closed | .blocked | .fault => (x, [])

/-- A publication gives the gate a demand and an emergency flag (R113). -/
def publish (r : GateRec) (signs : Bool) (d : Demand) (e : Bool) (gen : Nat) (x : Gate) : Gate × List Gate :=
  let y := { x with demand := some d, emergency := e, demandGen := some gen }
  if x.demand ≠ some d then
    match d with
    | .opened => y.demandOpen r signs
    | .closed => y.demandClosed r signs
  else if e ∧ !x.emergency ∧ x.state = .prewarn then y.upgrade r
  else (y, [])

/-! ### Inputs, timers and requests -/

/-- Both limits asserted, outside FAULT. -/
def conflict (x : Gate) : Bool := x.openLimit && x.closedLimit && decide (x.state ≠ .fault)

/-- A new level of the open limit (R114, R119 to R121). LIMIT_CONFLICT comes before RETRIES_EXHAUSTED and before OPEN where one
level gives both (DESIGN CHOICE, notes/assumptions/35.md). -/
def openLimitTo (r : GateRec) (signs : Bool) (v : Bool) (x : Gate) : Gate × List Gate :=
  let y := { x with openLimit := v }
  if y.conflict then (y, y.enterFault .limitConflict)
  else match v, x.state with
    | true, .opening => (y, y.enterOpen r signs)
    | true, .blocked =>
      if x.retryTimer.isSome then (y, [])
      else if r.retryLimit < x.retries then (y, y.enterFault .retriesExhausted)
      else (y.blockedWait, [])
    | false, .opened => (y, y.enterFault .displaced)
    | false, .prewarn => (y, y.enterFault .displaced)
    | false, .blocked => if x.retryTimer.isSome then (y, y.enterFault .displaced) else (y, [])
    | _, _ => (y, [])

/-- A new level of the closed limit (R114, R118, R121). LIMIT_CONFLICT comes before CLOSED where one level gives both (DESIGN
CHOICE, notes/assumptions/35.md). -/
def closedLimitTo (r : GateRec) (v : Bool) (x : Gate) : Gate × List Gate :=
  let y := { x with closedLimit := v }
  if y.conflict then (y, y.enterFault .limitConflict)
  else match v, x.state with
    | true, .closing => (y, y.enterClosed r)
    | false, .closed => (y, y.enterFault .displaced)
    | _, _ => (y, [])

/-- A new level of the obstruction input (R114, R117, R118). -/
def obstructionTo (r : GateRec) (v : Bool) (x : Gate) : Gate × List Gate :=
  let y := { x with obstruction := v }
  match v, x.state, x.phase with
  | true, .closing, _ => (y, y.enterBlocked r)
  | false, .prewarn, some .obstructed => (y, y.enterClosing r)
  | _, _, _ => (y, [])

/-- The prewarn countdown reaches 0 (R117). -/
def countdownEnd (r : GateRec) (x : Gate) : Gate × List Gate :=
  if x.state = .prewarn ∧ x.phase = some .countdown then ({ x with remaining := 0 }).countdownOver r else (x, [])

/-- The travel timer runs and the state is one it serves (R121). -/
def travelling (x : Gate) : Bool :=
  x.travel.isSome && (x.state == .closing || x.state == .opening || (x.state == .blocked && x.retryTimer.isNone))

/-- The travel timer reaches the travel limit (R121). -/
def travelEnd (x : Gate) : Gate × List Gate :=
  if x.travelling then (x, x.enterFault .travelTimeout) else (x, [])

/-- The retry delay ends (R119): a PREWARN with its countdown served. -/
def retryEnd (r : GateRec) (x : Gate) : Gate × List Gate :=
  if x.state = .blocked ∧ x.retryTimer.isSome then
    let y := ((x.enter .prewarn).stop.countdown .normal 0).countdownOver r
    (x, y.1 :: y.2)
  else (x, [])

/-- The next period of a running line (R125). -/
def periodEnd (r : GateRec) (x : Gate) : Gate :=
  match x.drive with
  | .lower | .raise => { x with periods := x.periods + 1, duty := dutyAfter r (x.periods + 1) }
  | .off | .dead => x

/-- The pattern of the state in force (R126). -/
def pattern (x : Gate) : Lantern :=
  match x.state with
  | .opened => .dark
  | .prewarn => .prewarn
  | .closing | .opening | .blocked => .moving
  | .closed => .closed
  | .fault => .fault

/-- The position that the limits alone give (R14, R129). -/
def fromLimits (x : Gate) : Gate :=
  match x.openLimit, x.closedLimit with
  | true, false => { x with state := .opened, cause := none }
  | false, true => { x with state := .closed, cause := none }
  | false, false => { x with state := .fault, cause := some .displaced }
  | true, true => { x with state := .fault, cause := some .limitConflict }

/-- The GATE_STATE of a gate (R127). -/
def stateEvent (g : Nat) (x : Gate) : Event :=
  .gateState g x.state x.cause x.inhibit x.demand x.emergency x.retries

end Gate

/-! ### Gates in the device -/

/-- The on-slots of a pattern in the gate record (R126): the lantern is lit in slot `j` of 8 when `j` is below it. -/
def GateRec.onSlots (r : GateRec) : Lantern → Nat
  | .prewarn => r.slots.getD 0 0
  | .moving => r.slots.getD 1 0
  | .closed => r.slots.getD 2 0
  | .fault => r.slots.getD 3 0
  | .dark => 0

namespace State

/-- GATE_STATE, then GATE_FAULT when the gate has entered FAULT (R121, R127). -/
def recordGate (g : Fin 8) (x : Gate) (entered : Bool) (s : State) : State :=
  let s1 := s.record (x.stateEvent g.val)
  match entered, x.state, x.cause with
  | true, .fault, some c => s1.record (.gateFault g.val c)
  | _, _, _ => s1

/-- The gate enters a state, or changes its inhibit flag: it is stored, recorded and reported to AVP (R127). That GATE_FAULT
stands before the report is a DESIGN CHOICE, notes/assumptions/14.md. -/
def enterGate (g : Fin 8) (s : State) (x : Gate) : State :=
  ((s.setGate g x).recordGate g x (decide (s.gtc[g].state ≠ .fault))).reportGate g

/-- Carry out a transition: the gate as it stands, then every state it enters, each recorded (R127) and reported before the
next is entered (DESIGN CHOICE, notes/assumptions/14.md). -/
def moveGate (g : Fin 8) (m : Gate × List Gate) (s : State) : State := m.2.foldl (enterGate g) (s.setGate g m.1)

/-- Every approach sign of the gate is closure-confirmed (R116); an empty list passes. -/
def signsReady (s : State) (r : GateRec) : Bool := r.approach.all s.signConfirmed

/-- Act on gate `g` when it is in use under MAP_VALID (R112). -/
def onGate (g : Fin 8) (f : GateRec → Gate → Gate × List Gate) (s : State) : State :=
  match s.valid, s.gate? g.val with
  | true, some r => s.moveGate g (f r s.gtc[g])
  | _, _ => s

/-! ### Publications and sign reports -/

/-- A publication reaches one gate (R53, R113): demand and emergency of its guard record. -/
def publishToGate (s : State) (g : Fin 8) : State :=
  s.onGate g fun r x =>
    let a := s.aspectAt r.seg r.dir
    x.publish r (s.signsReady r) (if a.closed = .no then .opened else .closed) a.emergency s.rsv.generation

/-- A publication reaches GTC, gate by gate in ascending order. -/
def publishToGates (s : State) : State := (List.finRange 8).foldl publishToGate s

/-- A change of closure-confirmed of sign `i` reaches one gate (R116): the wait ends when every approach sign is
confirmed. -/
def reportSignToGate (i : Fin 24) (s : State) (g : Fin 8) : State :=
  s.onGate g fun r x =>
    if r.approach.contains i.val ∧ x.phase = some .signWait ∧ s.signsReady r then (x.countdown .normal r.prewarn, [])
    else (x, [])

def reportSignToGates (i : Fin 24) (s : State) : State := (List.finRange 8).foldl (reportSignToGate i) s

/-! ### Input events under either map state -/

/-- A pin level changes: the pin is stored, and the gate machine acts when the gate is in use (R114); under MAP_INVALID a
followed gate takes its state from its limits (R14). That the three inputs are accepted there as under a valid map, though
R112 puts R114 out of force, is a DESIGN CHOICE, notes/assumptions/39.md. -/
def pinChange (g : Fin 8) (pins : GatePins) (act : GateRec → Gate → Gate × List Gate) (store : Gate → Gate)
    (same : Gate → Bool) (s : State) : State :=
  let s := { s with pins := setAt s.pins g pins }
  if !s.powered then s
  else match s.gate? g.val with
    | none => s
    | some r =>
      if same s.gtc[g] then s
      else if s.valid then s.moveGate g (act r s.gtc[g])
      else
        let y := (store s.gtc[g]).fromLimits
        if y.state = s.gtc[g].state ∧ y.cause = s.gtc[g].cause then s.setGate g y
        else (s.setGate g y).recordGate g y true

/-- OPEN_LIMIT_ACCEPTED (R118 to R121; R14 under MAP_INVALID). -/
def openLimitAccepted (g : Fin 8) (v : Bool) (s : State) : State :=
  s.pinChange g { s.pins[g] with openLimit := v }
    (fun r x => x.openLimitTo r (s.signsReady r) v) (fun x => { x with openLimit := v }) (fun x => x.openLimit == v)

/-- CLOSED_LIMIT_ACCEPTED (R118 to R121; R14 under MAP_INVALID). -/
def closedLimitAccepted (g : Fin 8) (v : Bool) (s : State) : State :=
  s.pinChange g { s.pins[g] with closedLimit := v }
    (fun r x => x.closedLimitTo r v) (fun x => { x with closedLimit := v }) (fun x => x.closedLimit == v)

/-- OBSTRUCTION_ACCEPTED (R114, R117, R118). Under MAP_INVALID R14 names the limits alone and the spec does not say whether
the obstruction input is followed: the model stores its level, which GATE_READ then reports, and does nothing else (DESIGN
CHOICE, notes/assumptions/39.md). -/
def obstructionAccepted (g : Fin 8) (v : Bool) (s : State) : State :=
  s.pinChange g { s.pins[g] with obstruction := v }
    (fun r x => x.obstructionTo r v) (fun x => { x with obstruction := v }) (fun x => x.obstruction == v)

/-! ### Timer events -/

/-- The approach signs of a gate that are not closure-confirmed, in the order of its list (R116). -/
def unconfirmedSigns (s : State) (r : GateRec) : List Nat := r.approach.filter (fun i => !s.signConfirmed i)

/-- SIGN_WAIT_EXPIRY (R116). -/
def signWaitExpiry (g : Fin 8) (s : State) : State :=
  match s.valid, s.gate? g.val with
  | true, some r =>
    if s.gtc[g].phase = some .signWait then
      (s.record (.gateSignsUnconfirmed g.val (s.unconfirmedSigns r))).setGate g (s.gtc[g].countdown .normal r.prewarn)
    else s
  | _, _ => s

def countdownExpiry (g : Fin 8) (s : State) : State := s.onGate g (fun r x => x.countdownEnd r)

def travelExpiry (g : Fin 8) (s : State) : State := s.onGate g (fun _ x => x.travelEnd)

def retryExpiry (g : Fin 8) (s : State) : State := s.onGate g (fun r x => x.retryEnd r)

def deadTimeEnd (g : Fin 8) (s : State) : State := s.onGate g (fun r x => (x.deadEnd r, []))

def dutyPeriodEnd (g : Fin 8) (s : State) : State := s.onGate g (fun r x => (x.periodEnd r, []))

/-- LANTERN_FRAME_BOUNDARY (R126): the frames of all gates in use begin with the pattern of the state in force. -/
def lanternBoundary (s : State) : State :=
  { s with gtc := Vector.ofFn fun g : Fin 8 =>
      if s.valid ∧ (s.gate? g.val).isSome then { s.gtc[g] with lantern := (s.gtc[g]).pattern } else s.gtc[g] }

end State

/-! ### Requests (R122, R123, R128) -/

/-- A present gate named by a request byte. -/
def State.gateArg (s : State) (n : Nat) : Option (Fin 8 × GateRec) :=
  match finOf 8 n, s.gate? n with
  | some g, some r => some (g, r)
  | _, _ => none

/-- The data of GATE_STATE_BAD (R167). -/
def Gate.badData (x : Gate) : List Byte :=
  put8 x.state.num ++ putOpt8 (x.cause.map FaultCause.num) ++ putFlag x.inhibit ++ putFlag x.openLimit ++
    putFlag x.closedLimit ++ putFlag x.obstruction

/-- The state a reset gives: the limit that alone is asserted (R122). -/
def Gate.resetChain (r : GateRec) (signs : Bool) (x : Gate) : List Gate :=
  if x.openLimit then x.enterOpen r signs else x.enterClosed r

/-- GATE_RESET (R122). -/
def gateReset (a : Asker) (args : List Byte) (s : State) : State :=
  if !s.valid then s.answer a .mapInvalid []
  else match s.gateArg (get8 args 0) with
    | none => s.answer a .badRange []
    | some (g, r) =>
      let x := s.gtc[g]
      if x.state ≠ .fault ∨ x.openLimit = x.closedLimit then s.answer a .gateStateBad x.badData
      else (s.moveGate g (x, x.resetChain r (s.signsReady r))).answer a .ok
        (put8 (if x.openLimit then GatePos.opened.num else GatePos.closed.num))

/-- The released gate acts on its stored demand (R123). -/
def Gate.releaseChain (r : GateRec) (signs : Bool) (x : Gate) : List Gate :=
  match x.state, x.demand with
  | .opened, some .closed => x.enterPrewarn r signs
  | .closed, some .opened => x.enterOpening r
  | _, _ => []

/-- GATE_INHIBIT (R123). -/
def gateInhibit (a : Asker) (args : List Byte) (s : State) : State :=
  if !s.valid then s.answer a .mapInvalid []
  else match s.gateArg (get8 args 0) with
    | none => s.answer a .badRange []
    | some (g, r) =>
      let x := s.gtc[g]
      match get8 args 1 with
      | 0 =>
        if x.inhibit then
          let y := { x with inhibit := false }
          (s.moveGate g (x, y :: y.releaseChain r (s.signsReady r))).answer a .ok (put8 x.state.num)
        else s.answer a .ok (put8 x.state.num)
      | 1 =>
        if x.state ≠ .opened ∧ x.state ≠ .closed ∧ x.state ≠ .fault then s.answer a .gateStateBad x.badData
        else if x.inhibit then s.answer a .ok (put8 x.state.num)
        else (s.moveGate g (x, [{ x with inhibit := true }])).answer a .ok (put8 x.state.num)
      | _ => s.answer a .badValue []

/-- The run-time fields of a GATE_READ reply (R128). The approach signs are a count byte, and then the id and the flag of
each sign (DESIGN CHOICE, notes/assumptions/12.md). The obstruction level of a gate followed under MAP_INVALID is its present
one (DESIGN CHOICE, notes/assumptions/39.md). -/
def gateFieldsOut (s : State) (n : Nat) (x : Gate) : List Byte :=
  put8 x.state.num ++ putOpt8 (x.cause.map FaultCause.num) ++ putFlag x.inhibit ++ put8 x.retries ++
    putOpt8 (x.demand.map Demand.num) ++ putFlag x.emergency ++ putOpt16 x.demandGen ++
    putOpt8 (x.phase.map PrewarnPhase.num) ++ putOpt8 (x.countKind.map CountKind.num) ++
    putOpt16 (if x.phase = some .countdown then some x.remaining else none) ++ putOpt16 x.signTimer ++
    putOpt8 x.travel ++ putOpt8 x.retryTimer ++
    (put8 (s.approachOf n).length ++ (s.approachOf n).flatMap (fun i => put8 i ++ putFlag (s.signConfirmed i))) ++
    put8 x.drive.num ++ put8 x.duty ++ put8 x.lantern.num ++ putFlag x.openLimit ++ putFlag x.closedLimit ++
    putFlag x.obstruction

/-- GATE_READ (R128). A gate without a record in use reports no state: its record alone, then an absent state byte.
Under MAP_INVALID a gate above 7 is answered BAD_RANGE (DESIGN CHOICE, notes/assumptions/30.md). -/
def gateRead (a : Asker) (args : List Byte) (s : State) : State :=
  let n := get8 args 0
  match finOf 8 n with
  | some g =>
    if n < readBound s s.img.counts.gates 8 then
      s.answer a .ok (recordBytes s s.img.counts.gates rowOfGate n ++
        (if (s.gate? n).isSome then gateFieldsOut s n s.gtc[g] else [0xFF#8]) ++ mapStateTail s)
    else s.answer a .badRange []
  | none => s.answer a .badRange []

/-! ### Start (R14, R129) -/

/-- A gate with a record at a start: set from its pins; under MAP_INVALID its drive is off and its lantern dark. That the
obstruction level is taken from its pin there, where R14 names the limits alone, is a DESIGN CHOICE,
notes/assumptions/39.md. -/
def gateAtStart (s : State) (g : Fin 8) : Gate :=
  match s.gate? g.val with
  | none => .unused
  | some _ =>
    let p := s.pins[g]
    let x := ({ Gate.unused with openLimit := p.openLimit, closedLimit := p.closedLimit
                                 obstruction := p.obstruction } : Gate).fromLimits
    if s.valid then { x with drive := .dead, lantern := x.pattern } else x

/-- GTC at a start: every gate is set, then one GATE_STATE (and GATE_FAULT) is recorded for each gate with a record. -/
def State.startGates (s : State) : State :=
  (List.finRange 8).foldl
    (fun s g => if (s.gate? g.val).isSome then s.recordGate g s.gtc[g] true else s)
    { s with gtc := Vector.ofFn (gateAtStart s) }

end Sys2Proof.Machine
end

