-- ==== Sys2Proof/Machine/Signs.lean ====
section
/-! DEFINITION. SCP (chapter 8) on the state: jobs, closure-confirmed, the compose queue, the composer, the page memory
arbiter, brightness, and the two reads. -/

namespace Sys2Proof.Machine

/-! ### Buffers -/

namespace Sign

def live (x : Sign) : Option Composed := if x.liveIsA then x.bufA else x.bufB

def draft (x : Sign) : Option Composed := if x.liveIsA then x.bufB else x.bufA

def setDraft (c : Composed) (x : Sign) : Sign := if x.liveIsA then { x with bufB := some c } else { x with bufA := some c }

/-- The closure mark of LIVE; an empty buffer carries none (R130). -/
def liveMark (x : Sign) : Bool := (x.live.map Composed.mark).getD false

end Sign

/-- The line of a sign. -/
def SignRec.lineIndex (r : SignRec) : Fin 2 := if r.line = 0 then 0 else 1

/-! ### Jobs (R148) -/

/-- A job joins a service queue, its sign not being OFFLINE; `putBack` says that FLC places it. -/
def Line.place (job : Job) (putBack : Bool) (x : Line) : Line :=
  if x.queue.any (fun j => j.sign == job.sign) then
    match job.kind, putBack with
    | .bright, true => x
    | .bright, false =>
      { x with queue := x.queue.map (fun j => if j.sign = job.sign then { j with level := job.level } else j) }
    | _, _ => { x with queue := x.queue.map (fun j => if j.sign = job.sign then job else j) }
  else { x with queue := x.queue ++ [job] }

namespace State

def placeJob (l : Fin 2) (job : Job) (putBack : Bool) (s : State) : State :=
  if s.signs[job.sign].link = .offline then s else s.setLine l ((s.flc[l]).place job putBack)

/-! ### Closure-confirmed (R144) -/

/-- Recompute closure-confirmed; a change is reported to GTC and to AVP. -/
def reviewConfirmed (i : Fin 24) (s : State) : State :=
  let c := decide (s.signs[i].link = .confirmed) && (s.signs[i]).liveMark
  if c = s.signs[i].confirmed then s
  else ((s.setSign i { s.signs[i] with confirmed := c }).reportSignToGates i).reportSignToPaths i

/-- FLC reports a link state (R140). -/
def reportLink (i : Fin 24) (k : Link) (s : State) : State :=
  (s.setSign i { s.signs[i] with link := k }).reviewConfirmed i

/-- A matching CONFIRM: the roles are exchanged with the link state CONFIRMED (R140). -/
def exchangeRoles (i : Fin 24) (s : State) : State :=
  (s.setSign i { s.signs[i] with link := .confirmed, liveIsA := !s.signs[i].liveIsA }).reviewConfirmed i

/-! ### Compose queue (R141) -/

def joinQueue (i : Fin 24) (s : State) : State :=
  if s.scp.queue.contains i then s else { s with scp := { s.scp with queue := s.scp.queue ++ [i] } }

/-- A publication reaches one sign. -/
def publishToSign (s : State) (i : Fin 24) : State :=
  match s.sign? i.val with
  | some r => if s.signs[i].lastList = some (s.elements r) then s else s.joinQueue i
  | none => s

/-- A publication reaches SCP, signs in ascending order (R53, R141). -/
def publishToSigns (s : State) : State := (List.finRange 24).foldl publishToSign s

end State

/-! ### The arbiter (R143) -/

/-- The lamp word and flash mask of a content. -/
def Composed.lampBytes (c : Composed) : Byte × Byte :=
  match c.face with
  | .lamps w f => (w, f)
  | .pages _ => (0#8, 0#8)

/-- The lamp word and flash mask of a sign's DRAFT. -/
def Sign.draftLamps (x : Sign) : Byte × Byte := (x.draft.map Composed.lampBytes).getD (0#8, 0#8)

/-- Field line frame kinds (R169). -/
def kindPageBegin : Nat := 1
def kindPageBlock : Nat := 2
def kindPageEnd : Nat := 3
def kindLamps : Nat := 4
def kindBright : Nat := 5
def kindPoll : Nat := 6

/-- The drop address of a sign. -/
def State.dropOf (s : State) (i : Fin 24) : Nat := ((s.linedSign? i.val).map SignRec.addr).getD 0

/-- The LAMPS frame of a lamp transfer (R150, R169). -/
def State.lampsFrame (s : State) (t : Trans) : List Byte :=
  let w := (s.signs[t.sign]).draftLamps
  fieldFrame (s.dropOf t.sign) kindLamps ([w.1, w.2] ++ put8 t.level)

/-- A line's read is granted: a lamp transfer sends its frame, a page transfer may send its block (R150). -/
def State.lineGranted (l : Fin 2) (s : State) : State :=
  match s.flc[l].trans with
  | some t =>
    match t.kind with
    | .lamp _ => s.setLine l { s.flc[l] with trans := some { t with granted := true }, wire := some (s.lampsFrame t) }
    | _ => s.setLine l { s.flc[l] with trans := some { t with granted := true } }
  | none => s

/-- The bytes of one block of a content: of a page held by a MATRIX content, or the lamp word and flash mask of a LAMP
content with zeros after them (R145). A LAMP content holds these words as its page 0, and no page 1 (DESIGN CHOICE,
notes/assumptions/33.md). -/
def Composed.blockBytes (c : Composed) (mem : List Host.Cell) (i : Fin 24) (bufferA : Bool) (page block : Nat) :
    Option (List Byte) :=
  match c.face with
  | .pages n => if page < n then some (memBytes mem (pageBase i bufferA page + 128 * block) 128) else none
  | .lamps w f => if page = 0 then some (w :: f :: List.replicate 126 0#8) else none

/-- The data of a SIGN_PAGE_READ reply (R145): the block, or the empty flag. -/
def State.pageData (s : State) (q : PageReq) : List Byte :=
  let x := s.signs[q.sign]
  let held := if q.draft then x.draft else x.live
  let bufferA := if q.draft then !x.liveIsA else x.liveIsA
  let head := put8 q.sign.val ++ putFlag q.draft ++ put8 q.page ++ put8 q.block ++
    putOpt16 (held.map Composed.generation) ++ putFlag ((held.map Composed.mark).getD false) ++
    putOpt16 (held.map (fun c => c.check.toNat)) ++ putFlag x.composing
  match held.bind (fun c => c.blockBytes s.scp.memory q.sign bufferA q.page q.block) with
  | some bytes => head ++ putFlag false ++ bytes
  | none => head ++ putFlag true

/-- The request code of SIGN_PAGE_READ (R167). -/
def signPageReadCode : Nat := 0x11

/-- The waiting line that is granted next: the one served less recently. -/
def Arbiter.nextLine (a : Arbiter) : Option (Fin 2) := a.lineOrder.find? (fun l => a.lineWait[l])

/-- The waiting port that is granted next: the one served least recently. -/
def Arbiter.nextPort (a : Arbiter) : Option Port := a.portOrder.find? (fun p => !(a.portWait[portIndex p]).isEmpty)

namespace State

/-- A free page memory is granted to the waiting composer, else a waiting line, else a waiting port (R143). -/
def grant (s : State) : State :=
  let a := s.scp.arbiter
  if a.holder.isSome then s
  else if a.composerWait then s.setArbiter { a with holder := some .composer, composerWait := false }
  else match a.nextLine with
    | some l =>
      (s.setArbiter { a with
        holder := some (.line l), lineWait := setAt a.lineWait l false
        lineOrder := a.lineOrder.filter (· ≠ l) ++ [l] }).lineGranted l
    | none =>
      match a.nextPort with
      | some p =>
        match a.portWait[portIndex p] with
        | q :: rest =>
          s.setArbiter { a with
            holder := some (.port p (if q.owed then some (replyBody signPageReadCode q.tag .ok (s.pageData q)) else none))
            portWait := setAt a.portWait (portIndex p) rest
            portOrder := a.portOrder.filter (· ≠ p) ++ [p] }
        | [] => s
      | none => s

/-- The composer asks for its next access. -/
def composerAsks (s : State) : State := (s.setArbiter { s.scp.arbiter with composerWait := true }).grant

/-- A line asks for a read; its former access has ended by then (notes/assumptions/20.md). -/
def lineAsks (l : Fin 2) (s : State) : State :=
  let a := s.scp.arbiter
  (s.setArbiter { a with
    holder := if a.holder = some (.line l) then none else a.holder
    lineWait := setAt a.lineWait l true }).grant

/-- A port asks for a SIGN_PAGE_READ block. -/
def portAsks (p : Port) (q : PageReq) (s : State) : State :=
  (s.setArbiter { s.scp.arbiter with
    portWait := setAt s.scp.arbiter.portWait (portIndex p) (s.scp.arbiter.portWait[portIndex p] ++ [q]) }).grant

/-- The holder lets the memory go and the arbiter grants the next requester. -/
def release (s : State) : State := (s.setArbiter { s.scp.arbiter with holder := none }).grant

/-! ### The composer (R142, R139) -/

/-- The first queued sign with no transfer in progress. -/
def nextToCompose (s : State) : Option (Fin 24) := s.scp.queue.find? (fun i => !s.signs[i].transfer)

/-- The composer takes sign `i` (R142): its list is derived from the latest generation, and the drawing of a MATRIX sign
begins. -/
def takeSign (i : Fin 24) (r : SignRec) (s : State) : State :=
  let l := s.elements r
  let c : Composition := ⟨i, l, s.rsv.generation, if r.matrix then drawing s.img l else []⟩
  let s1 := s.setSign i { s.signs[i] with composing := true }
  let s2 := { s1 with scp := { s1.scp with queue := s1.scp.queue.filter (· ≠ i), composer := some c } }
  if r.matrix then s2.composerAsks else s2

/-- COMPOSER_TAKE (R142). -/
def composerTake (s : State) : State :=
  if s.scp.composer.isNone && s.valid && s.hasPublication then
    match s.nextToCompose with
    | some i =>
      match s.sign? i.val with
      | some r => s.takeSign i r
      | none => s
    | none => s
  else s

/-- The check of a composed content (R139, R146). -/
def contentCheck (mem : List Host.Cell) (i : Fin 24) (bufferA : Bool) : Face → Check
  | .pages n => crc16 (memBytes mem (pageBase i bufferA 0) (1152 * n))
  | .lamps w f => crc16 [w, f]

/-- The face that a list gives (R133, R134). -/
def faceOf (m : ImgUnit) (r : SignRec) (l : List Element) : Face :=
  if r.matrix then .pages (pageCount (placement m l).1) else .lamps (r.lampWord l) (r.flashMask l)

/-- The content that a composition leaves in DRAFT (R139). -/
def composedContent (s : State) (r : SignRec) (c : Composition) : Composed :=
  let face := faceOf s.img r c.list
  { list := c.list, generation := c.generation, face, mark := r.mark c.list
    check := contentCheck s.scp.memory c.sign (!s.signs[c.sign].liveIsA) face }

/-- Make the accesses of a composition that are still to be made, and let go of page memory. -/
def finishDrawing (r : SignRec) (c : Composition) (s : State) : State :=
  let a := s.scp.arbiter
  { s with scp := { s.scp with
      memory := c.todo.foldl (fun m op => op.apply s.img c.sign (!s.signs[c.sign].liveIsA) r.turned m) s.scp.memory
      arbiter := { a with
        holder := if a.holder = some .composer then none else a.holder
        composerWait := false } } }

/-- The job of a composed content (R139). -/
def jobOf (m : ImgUnit) (i : Fin 24) (d : Composed) (level : Nat) : Job :=
  match d.face with
  | .pages n => ⟨i, .page d.generation n m.dwell, level⟩
  | .lamps _ _ => ⟨i, .lamp d.generation, level⟩

/-- The end of a composition (R139, R142). -/
def endComposition (c : Composition) (r : SignRec) (s : State) : State :=
  let i := c.sign
  let s1 := s.finishDrawing r c
  let d := s1.composedContent r c
  let dropped := if r.matrix then (placement s.img c.list).2 else 0
  let s2 := s1.setSign i { (s1.signs[i]).setDraft d with lastList := some c.list, dropped }
  let s3 := s2.placeJob r.lineIndex (jobOf s.img i d s2.signs[i].brightness) false
  let s4 := if s3.elements r = c.list then s3 else s3.joinQueue i
  let s5 := s4.setSign i { s4.signs[i] with composing := false }
  ({ s5 with scp := { s5.scp with composer := none } }).grant

/-- COMPOSITION_END. -/
def compositionEnd (s : State) : State :=
  match s.scp.composer with
  | some c =>
    match s.sign? c.sign.val with
    | some r => s.endComposition c r
    | none => s
  | none => s

/-- The composer's access ends: its mask is in page memory; others are granted before its next access (R143). -/
def composerAccessEnd (s : State) : State :=
  match s.scp.composer with
  | some c =>
    match s.sign? c.sign.val, c.todo with
    | some r, op :: rest =>
      let s1 := { s with scp := { s.scp with
        memory := op.apply s.img c.sign (!s.signs[c.sign].liveIsA) r.turned s.scp.memory
        composer := some { c with todo := rest } } }
      if rest.isEmpty then s1.release else s1.release.composerAsks
    | _, _ => s.release
  | none => s.release

/-! ### Brightness (R138) -/

/-- The smoothed value of a light channel as last published. -/
def lightOf (s : State) (channel : Nat) : Option Int :=
  (finOf 16 channel).bind (fun c => meanOf s.mea.chans[c].ring)

/-- The level of a light value: 1 plus the thresholds at or below it; 16 for none. -/
def levelOf (thresholds : List Nat) : Option Int → Nat
  | some v => 1 + (thresholds.filter (fun t => decide ((t : Int) ≤ v))).length
  | none => 16

/-- A scan hand-over reaches one sign. -/
def lightToSign (s : State) (i : Fin 24) : State :=
  match s.sign? i.val with
  | some r =>
    let v := s.lightOf r.light
    let n := levelOf s.img.thresholds v
    let s1 := s.setSign i { s.signs[i] with light := v, brightness := n }
    if n = s.signs[i].brightness then s1 else s1.placeJob r.lineIndex ⟨i, .bright, n⟩ false
  | none => s

/-- A scan hand-over reaches SCP (R59, R138). -/
def lightToSigns (s : State) : State := (List.finRange 24).foldl lightToSign s

end State

/-! ### Reads (R145, R156) -/

/-- The content of an element after its kind byte. -/
def Element.bytes : Element → List Byte
  | .closure form e =>
    put8 0 ++ (match form with
      | .roadClosed r => put8 0 ++ putOpt8 (r.map Reason.num)
      | .closedAhead => put8 1 ++ [0xFF#8]) ++ putOptFlag e
  | .announce t => put8 1 ++ put16 t
  | .avalanche n => put8 2 ++ put8 n
  | .restrict u => put8 3 ++ put8 u.num
  | .speed v => put8 4 ++ put8 v
  | .ice => put8 5
  | .notice id => put8 6 ++ put8 id

/-- A list of elements: a count byte, then the elements; an absent list as 0xFF. -/
def listBytes : Option (List Element) → List Byte
  | some l => put8 l.length ++ l.flatMap Element.bytes
  | none => [0xFF#8]

def Face.bytes : Face → List Byte
  | .pages n => put8 n
  | .lamps w f => [w, f]

/-- A buffer in a SIGN_READ reply; an empty one as an absent list alone. -/
def bufferBytes : Option Composed → List Byte
  | some c => listBytes (some c.list) ++ put16 c.generation ++ c.face.bytes ++ putFlag c.mark ++ put16 c.check.toNat
  | none => listBytes none

def PictKind.count : Nat := 13

/-- The pictogram kinds drawn from the factory set (R137). -/
def fallenKinds (m : ImgUnit) : List Nat := (List.range PictKind.count).filter (fun k => !m.siteHeld k)

/-- The library texts 1 and 2 that are not held (R136). -/
def fallenTexts (m : ImgUnit) : List Nat := [1, 2].filter (fun id => (m.noticeText id).isNone)

def JobKind.num : JobKind → Nat
  | .page _ _ _ => 0
  | .lamp _ => 1
  | .bright => 2

def TransKind.num : TransKind → Nat
  | .page _ _ _ => 0
  | .lamp _ => 1
  | .bright => 2
  | .poll => 3

def LineCounters.bytes (c : LineCounters) : List Byte :=
  put16 c.parity ++ put16 c.framing ++ put16 c.overrun ++ put16 c.check ++ put16 c.stray ++ put16 c.foreign ++
    put16 c.noReply

/-- The line part of a SIGN_READ reply; a sign without a line reads as absent. -/
def lineBytes : Option Line → List Byte
  | some x =>
    put8 x.phase.num ++ putOpt8 (x.trans.map (fun t => t.kind.num)) ++ putOpt8 (x.trans.map (fun t => t.sign.val)) ++
      put8 x.queue.length ++ x.counters.bytes
  | none => List.replicate 18 0xFF#8

/-- SCP's part of a SIGN_READ reply. A light value is 0..4095 (R70), so its field is unsigned. The place in the compose
queue counts from 0 at the head (DESIGN CHOICE, notes/assumptions/12.md). -/
def State.signScpBytes (s : State) (i : Fin 24) : List Byte :=
  let x := s.signs[i]
  put8 x.link.num ++ putFlag x.transfer ++ putFlag x.composing ++ putFlag x.confirmed ++ bufferBytes x.live ++
    bufferBytes x.draft ++ listBytes x.lastList ++ put8 x.dropped ++
    putOpt8 (if s.scp.queue.contains i then some (s.scp.queue.idxOf i) else none) ++ put8 x.brightness ++
    putOpt16 (x.light.map Int.toNat) ++ putIds (fallenKinds s.img) ++ putIds (fallenTexts s.img)

/-- FLC's part of a SIGN_READ reply (R156). The place of the job in the service queue counts from 0 at the head (DESIGN
CHOICE, notes/assumptions/12.md). -/
def State.signFlcBytes (s : State) (i : Fin 24) : List Byte :=
  let x := s.signs[i]
  let line := ((s.img.sign? i.val).bind (fun r => finOf 2 r.line)).map (fun l => s.flc[l])
  let queue := (line.map Line.queue).getD []
  let job := queue.find? (fun j => j.sign == i)
  put8 x.link.num ++ put8 x.noReply ++ put8 x.mismatch ++ put8 x.pollTimer ++ putOpt16 x.repGen ++
    putOpt16 (x.repCheck.map BitVec.toNat) ++ putOptFlag x.door ++ putOpt8 x.lampFaults ++ putFlag x.degraded ++
    putOpt8 (job.map (fun j => j.kind.num)) ++ putOpt8 (job.map (fun _ => queue.findIdx (fun j => j.sign == i))) ++
    lineBytes line

/-- SIGN_READ. Under MAP_INVALID a sign above 23 is answered BAD_RANGE (DESIGN CHOICE, notes/assumptions/30.md). -/
def signRead (a : Asker) (args : List Byte) (s : State) : State :=
  let n := get8 args 0
  match finOf 24 n with
  | some i =>
    if n < readBound s s.img.counts.signs 24 then
      s.answer a .ok (recordBytes s s.img.counts.signs rowOfSign n ++ s.signScpBytes i ++ s.signFlcBytes i ++
        mapStateTail s)
    else s.answer a .badRange []
  | none => s.answer a .badRange []

/-- The refusals of SIGN_PAGE_READ after the sign is known (R145). A bad buffer code is answered before a bad page or block
(DESIGN CHOICE, notes/assumptions/33.md). -/
def pageRefusal (lampSign : Bool) (args : List Byte) : Option ReplyCode :=
  if 1 < get8 args 1 then some .badValue
  else if 1 < get8 args 2 ∨ 8 < get8 args 3 then some .badRange
  else if lampSign ∧ get8 args 3 ≠ 0 then some .badRange
  else none

/-- The class of a sign whose record was loaded is LAMP. Under MAP_INVALID a sign that is absent or whose row failed MC01
counts as MATRIX (DESIGN CHOICE, notes/assumptions/33.md). -/
def State.lampSign (s : State) (n : Nat) : Bool := ((s.img.sign? n).map (fun r => !r.matrix)).getD false

/-- SIGN_PAGE_READ: the block is requested from the arbiter, and the port waits in SERVING; under MAP_INVALID, where no
buffer holds anything, the empty reply is given at once (R15). The sign index is tested before the buffer code (DESIGN CHOICE,
notes/assumptions/33.md). -/
def signPageRead (a : Asker) (args : List Byte) (s : State) : State :=
  let n := get8 args 0
  match finOf 24 n with
  | some i =>
    if n < readBound s s.img.counts.signs 24 then
      match pageRefusal (s.lampSign n) args with
      | some rc => s.answer a rc []
      | none =>
        let q : PageReq := ⟨true, a.tag, i, get8 args 1 == 1, get8 args 2, get8 args 3⟩
        if s.valid then s.portAsks a.port q else s.answer a .ok (s.pageData q ++ mapStateTail s)
    else s.answer a .badRange []
  | none => s.answer a .badRange []

namespace State

/-- PAGE_MEMORY_ACCESS_END (R143): a port's read is answered, a composer's mask is written; then the next requester is
granted. -/
def pageMemoryAccessEnd (s : State) : State :=
  match s.scp.arbiter.holder with
  | none => s
  | some .composer => s.composerAccessEnd
  | some (.line _) => s.release
  | some (.port p reply) =>
    match reply with
    | some body => s.release.answerBody p body
    | none => s.release

/-! ### Start (R130) -/

/-- The signs in use, ascending. -/
def signsInUse (s : State) : List (Fin 24) := (List.finRange 24).filter (fun i => (s.sign? i.val).isSome)

def startSigns (s : State) : State :=
  { s with scp := ⟨s.signsInUse, none, .atStart, []⟩, signs := Vector.replicate 24 .atStart }

end State

end Sys2Proof.Machine
end

