-- ==== Sys2Proof/Machine/Lines.lean ====
section
/-! DEFINITION. FLC (chapter 9): which job or poll a line takes, the frames of a transaction, the replies, and their
outcomes. A line's receive FIFO is empty between two commands, because FLC takes characters as they arrive (R147). -/

namespace Sys2Proof.Machine

/-! ### Counters -/

/-- Add to one line counter; each saturates at 65535. -/
def cnt (n k : Nat) : Nat := satAdd 65535 n k

namespace LineCounters

/-- The error statuses of one character (R147). -/
def addStatus (c : LineCounters) (x : CharStatus) : LineCounters :=
  { c with parity := cnt c.parity x.parity.toNat, framing := cnt c.framing x.framing.toNat
           overrun := cnt c.overrun x.overrun.toNat }

def addStray (c : LineCounters) (n : Nat) : LineCounters := { c with stray := cnt c.stray n }

def addForeign (c : LineCounters) : LineCounters := { c with foreign := cnt c.foreign 1 }

def addNoReply (c : LineCounters) : LineCounters := { c with noReply := cnt c.noReply 1 }

/-- How an invalid reply is counted (R147): a reply with an error status under that status alone. A reply cut off by a gap, and
one of another length with a right check, have no counter of their own (DESIGN CHOICE, notes/assumptions/36.md). -/
def addInvalid (c : LineCounters) : InvalidCause → LineCounters
  | .badCheck => { c with check := cnt c.check 1 }
  | .foreign => c.addForeign
  | .badLength | .gap => c
  | .status chars => chars.foldl addStatus c

end LineCounters

/-- The characters of a CONFIRM or STATUS frame (R169). -/
def replyLength : Nat := 13

namespace Line

def setCounters (c : LineCounters) (x : Line) : Line := { x with counters := c }

/-- Characters received outside a reply are stray in IDLE and after an invalid reply; in TRANSMIT the receiver is off. -/
def takesStray (x : Line) : Bool := x.phase == .idle || (x.phase == .replyWait && x.badReply)

/-- The line awaits a reply (R147). -/
def awaits (x : Line) : Bool := x.phase == .replyWait && !x.badReply

/-- An invalid reply: it is counted, and the line waits out the reply limit. -/
def invalid (cause : InvalidCause) (x : Line) : Line :=
  { x with counters := x.counters.addInvalid cause, badReply := true }

/-- The transaction is over. -/
def finished (x : Line) : Line := { x with phase := .idle, trans := none, wire := none, badReply := false }

/-- A transaction begins with a frame on the wire. -/
def begin (t : Trans) (frame : Option (List Byte)) (x : Line) : Line :=
  { x with phase := .transmit, trans := some t, wire := frame, badReply := false }

/-- The jobs of sign `i` leave the queue. -/
def dropJobs (i : Fin 24) (x : Line) : Line := { x with queue := x.queue.filter (fun j => j.sign ≠ i) }

end Line

namespace State

/-! ### What a line takes (R149) -/

/-- Sign `i` is served by line `l`: its record as FLC serves it. -/
def onLine (s : State) (l : Fin 2) (i : Fin 24) : Option SignRec :=
  match s.linedSign? i.val with
  | some r => if r.lineIndex = l then some r else none
  | none => none

/-- The poll timer of a sign has reached its poll period. -/
def due (s : State) (l : Fin 2) (i : Fin 24) : Bool :=
  match s.onLine l i with
  | some r => decide (r.poll ≤ s.signs[i].pollTimer)
  | none => false

/-- A job is takeable (R149). -/
def takeable (s : State) (l : Fin 2) (j : Job) : Bool :=
  !s.signs[j.sign].composing && (s.signs[j.sign].mismatch != 3 || s.due l j.sign)

/-- The first takeable job of a line. -/
def firstJob (s : State) (l : Fin 2) : Option Job := (s.flc[l]).queue.find? (s.takeable l)

/-- The first takeable job, when the line is IDLE. -/
def nextJob (s : State) (l : Fin 2) : Option Job := if s.flc[l].phase = .idle then s.firstJob l else none

/-- The drop addresses after the poll pointer, going round 1..31 (R149). -/
def addressRound (ptr : Option Nat) : List Nat := (List.range 31).map (fun j => (ptr.getD 0 + j) % 31 + 1)

/-- The due sign of a line at a drop address. -/
def dueAt (s : State) (l : Fin 2) (addr : Nat) : Option (Fin 24) :=
  (List.finRange 24).find? (fun i => s.due l i && s.dropOf i == addr)

/-- The sign that the line polls next, with its drop address. -/
def nextPoll (s : State) (l : Fin 2) : Option (Fin 24 × Nat) :=
  if s.flc[l].phase = .idle ∧ s.firstJob l = none then
    (addressRound s.flc[l].pollPtr).findSome? (fun addr => (s.dueAt l addr).map (fun i => (i, addr)))
  else none

/-! ### Beginning a transaction (R150, R152) -/

/-- Job `j` leaves the queue and its transaction begins. -/
def takeJob (l : Fin 2) (j : Job) (t : Trans) (frame : Option (List Byte)) (s : State) : State :=
  s.setLine l ((s.flc[l].dropJobs j.sign).begin t frame)

/-- A transfer of sign `i` begins: its transfer flag is set and PENDING reported (R150). -/
def beginTransfer (i : Fin 24) (s : State) : State :=
  (s.setSign i { s.signs[i] with transfer := true }).reportLink i .pending

/-- PAGE_TRANSFER (R150). -/
def pageTransfer (l : Fin 2) (s : State) : State :=
  match s.nextJob l with
  | some j =>
    match j.kind with
    | .page gen pages dwell =>
      (s.takeJob l j ⟨.page gen pages dwell, j.sign, j.level, 0, false⟩
        (some (fieldFrame (s.dropOf j.sign) kindPageBegin
          (put16 gen ++ put8 pages ++ put8 dwell ++ put8 j.level)))).beginTransfer j.sign
    | _ => s
  | none => s

/-- LAMP_TRANSFER (R150): the LAMPS frame follows the grant of the read (`State.lineGranted`). -/
def lampTransfer (l : Fin 2) (s : State) : State :=
  match s.nextJob l with
  | some j =>
    match j.kind with
    | .lamp gen =>
      ((s.takeJob l j ⟨.lamp gen, j.sign, j.level, 0, false⟩ none).beginTransfer j.sign).lineAsks l
    | _ => s
  | none => s

/-- BRIGHTNESS_JOB (R152). -/
def brightnessJob (l : Fin 2) (s : State) : State :=
  match s.nextJob l with
  | some j =>
    match j.kind with
    | .bright =>
      s.takeJob l j ⟨.bright, j.sign, j.level, 0, false⟩ (some (fieldFrame (s.dropOf j.sign) kindBright (put8 j.level)))
    | _ => s
  | none => s

/-- POLL (R149, R152). -/
def poll (l : Fin 2) (s : State) : State :=
  match s.nextPoll l with
  | some (i, addr) =>
    s.setLine l { (s.flc[l]).begin ⟨.poll, i, 0, 0, false⟩ (some (fieldFrame addr kindPoll [])) with pollPtr := some addr }
  | none => s

/-! ### The frames of a transaction (R150) -/

/-- The PAGE_BLOCK frame number `n` of a transfer: block n mod 9 of page n / 9 of DRAFT. -/
def blockFrame (s : State) (t : Trans) (n : Nat) : List Byte :=
  fieldFrame (s.dropOf t.sign) kindPageBlock (put8 (n / 9) ++ put8 (n % 9) ++
    memBytes s.scp.memory (pageBase t.sign (!s.signs[t.sign].liveIsA) (n / 9) + 128 * (n % 9)) 128)

/-- PAGE_BLOCK: a granted read is sent. -/
def pageBlock (l : Fin 2) (s : State) : State :=
  match s.flc[l].trans, s.flc[l].wire with
  | some t, none =>
    match t.kind, t.granted, s.flc[l].phase with
    | .page _ _ _, true, .transmit =>
      s.setLine l { s.flc[l] with
        trans := some { t with sent := t.sent + 1, granted := false }, wire := some (s.blockFrame t t.sent) }
    | _, _, _ => s
  | _, _ => s

/-- After a frame of a page transfer: the next block is requested, PAGE_END is sent, or the reply is awaited. -/
def afterPageFrame (l : Fin 2) (t : Trans) (pages : Nat) (s : State) : State :=
  if t.sent < 9 * pages then s.lineAsks l
  else if t.sent = 9 * pages then
    s.setLine l { s.flc[l] with
      trans := some { t with sent := t.sent + 1 }, wire := some (fieldFrame (s.dropOf t.sign) kindPageEnd []) }
  else s.setLine l { s.flc[l] with phase := .replyWait }

/-- FIELD_FRAME_SENT. -/
def fieldFrameSent (l : Fin 2) (s : State) : State :=
  match s.flc[l].phase, s.flc[l].trans, s.flc[l].wire with
  | .transmit, some t, some _ =>
    let s1 := s.setLine l { s.flc[l] with wire := none }
    match t.kind with
    | .page _ pages _ => s1.afterPageFrame l t pages
    | .lamp _ | .bright | .poll => s1.setLine l { s1.flc[l] with phase := .replyWait }
  | _, _, _ => s

/-! ### Outcomes (R151 to R154) -/

/-- The job that a failed transaction puts back, with the sign's present level (R148). -/
def putBackJob (l : Fin 2) (t : Trans) (s : State) : State :=
  let level := s.signs[t.sign].brightness
  match t.kind with
  | .page gen pages dwell => s.placeJob l ⟨t.sign, .page gen pages dwell, level⟩ true
  | .lamp gen => s.placeJob l ⟨t.sign, .lamp gen, level⟩ true
  | .bright => s.placeJob l ⟨t.sign, .bright, level⟩ true
  | .poll => s

/-- The line is IDLE again and the sign's poll timer restarts; a transfer's flag is cleared (R151, R152). -/
def endTransaction (l : Fin 2) (t : Trans) (s : State) : State :=
  let x := s.signs[t.sign]
  let flag := match t.kind with
    | .page _ _ _ | .lamp _ => false
    | .bright | .poll => x.transfer
  (s.setLine l (s.flc[l]).finished).setSign t.sign { x with pollTimer := 0, transfer := flag }

/-- The lamp-fault count as FLC takes it (R169). -/
def SignReply.faults (q : SignReply) : Nat := if 63 < q.lampFaults.toNat then 63 else q.lampFaults.toNat

/-- What every valid reply stores (R153, R154); its no-reply count becomes 0. -/
def takeReport (l : Fin 2) (i : Fin 24) (q : SignReply) (s : State) : State :=
  let x := s.signs[i]
  let opened := decide (q.door ≠ 0#8)
  let limit := s.img.lampFaultLimit l
  let y := { x with
    noReply := 0, repGen := some q.generation.toNat, repCheck := some q.check, door := some opened
    lampFaults := some (SignReply.faults q), degraded := decide (limit ≤ SignReply.faults q) }
  let s1 := s.setSign i y
  let s2 := if x.door = some opened then s1 else s1.record (.signDoor i.val opened)
  if y.degraded ∧ !x.degraded then s2.record (.signDegraded i.val (SignReply.faults q) limit) else s2

/-- The mismatch count after one more mismatch (R151). -/
def nextMismatch (n : Nat) : Nat := if n < 3 then n + 1 else 3

/-- A valid CONFIRM (R151). -/
def takeConfirm (l : Fin 2) (t : Trans) (q : SignReply) (s : State) : State :=
  let i := t.sign
  let s1 := (s.endTransaction l t).takeReport l i q
  if (s1.signs[i]).draft.map Composed.check = some q.check then
    (s1.setSign i { s1.signs[i] with mismatch := 0 }).exchangeRoles i
  else
    let n := nextMismatch s1.signs[i].mismatch
    ((s1.setSign i { s1.signs[i] with mismatch := n }).reportLink i (if n = 3 then .fault else .mismatch)).putBackJob l t

/-- A recomposition is requested, under a valid map (R141, R15). -/
def requestComposition (i : Fin 24) (s : State) : State := if s.valid then s.joinQueue i else s

/-- The table of R153. -/
def takeStatusLink (i : Fin 24) (check : Check) (s : State) : State :=
  match s.signs[i].link with
  | .confirmed =>
    if (s.signs[i]).live.map Composed.check = some check then s
    else (s.reportLink i .mismatch).requestComposition i
  | .offline => (s.reportLink i .pending).requestComposition i
  | .unknown | .pending | .mismatch | .fault => s

/-- A valid STATUS (R152, R153). -/
def takeStatus (l : Fin 2) (t : Trans) (q : SignReply) (s : State) : State :=
  ((s.endTransaction l t).takeReport l t.sign q).takeStatusLink t.sign q.check

/-- A reply of the wrong kind, or one that arrives when none is awaited (R147). -/
def misplacedReply (l : Fin 2) (s : State) : State :=
  let x := s.flc[l]
  if x.awaits then s.setLine l (x.invalid .foreign)
  else if x.takesStray then s.setLine l (x.setCounters (x.counters.addStray replyLength))
  else s

/-- CONFIRM. -/
def confirm (l : Fin 2) (q : SignReply) (s : State) : State :=
  match s.flc[l].awaits, s.flc[l].trans with
  | true, some t =>
    match t.kind with
    | .page _ _ _ | .lamp _ => s.takeConfirm l t q
    | .bright | .poll => s.misplacedReply l
  | _, _ => s.misplacedReply l

/-- STATUS. -/
def status (l : Fin 2) (q : SignReply) (s : State) : State :=
  match s.flc[l].awaits, s.flc[l].trans with
  | true, some t =>
    match t.kind with
    | .bright | .poll => s.takeStatus l t q
    | .page _ _ _ | .lamp _ => s.misplacedReply l
  | _, _ => s.misplacedReply l

/-- The no-reply count after one more (R151, R152). -/
def nextNoReply (n : Nat) : Nat := if n < 3 then n + 1 else 3

/-- The sign goes OFFLINE: its waiting job is discarded and the link state reported (R151, R152). -/
def goOffline (l : Fin 2) (i : Fin 24) (s : State) : State :=
  (s.setLine l (s.flc[l].dropJobs i)).reportLink i .offline

/-- A transaction ends without a valid reply (R151, R152). -/
def takeNoReply (l : Fin 2) (t : Trans) (s : State) : State :=
  let i := t.sign
  let s0 := s.endTransaction l t
  let n := nextNoReply s0.signs[i].noReply
  let s1 := (s0.setLine l (s0.flc[l].setCounters s0.flc[l].counters.addNoReply)).setSign i
    { s0.signs[i] with noReply := n }
  match t.kind with
  | .page _ _ _ | .lamp _ => if n = 3 then s1.goOffline l i else (s1.reportLink i .pending).putBackJob l t
  | .bright | .poll =>
    if n = 3 then (if s1.signs[i].link = .offline then s1 else s1.goOffline l i) else s1.putBackJob l t

/-- REPLY_LIMIT_EXPIRY. -/
def replyLimitExpiry (l : Fin 2) (s : State) : State :=
  match s.flc[l].phase, s.flc[l].trans with
  | .replyWait, some t => s.takeNoReply l t
  | _, _ => s

/-- INVALID_REPLY (R147). -/
def invalidReply (l : Fin 2) (cause : InvalidCause) (s : State) : State :=
  if (s.flc[l]).awaits then s.setLine l ((s.flc[l]).invalid cause) else s

/-- STRAY_CHARACTER (R147): in TRANSMIT the receiver is off. -/
def strayCharacter (l : Fin 2) (c : CharStatus) (s : State) : State :=
  if s.flc[l].phase = .transmit then s
  else s.setLine l ((s.flc[l]).setCounters ((s.flc[l].counters.addStatus c).addStray 1))

/-- POLL_TIMER_EXPIRY (R149): the timer stands at the poll period. -/
def pollTimerExpiry (i : Fin 24) (s : State) : State :=
  match s.linedSign? i.val with
  | some r => s.setSign i { s.signs[i] with pollTimer := r.poll }
  | none => s

/-! ### Start (R155) -/

def startLines (s : State) : State := { s with flc := Vector.replicate 2 .atStart }

end State

end Sys2Proof.Machine
end

