-- ==== Sys2Proof/Machine/Condition.lean ====
section
/-! DEFINITION. CND (chapter 5): the station class, the snow flag and the wind state, the suppression flags and the WX
requests, as a scan hand-over, a wind hand-over and an improvement expiry make them. -/

namespace Sys2Proof.Machine

/-- Severity of a class: CLEAR 0, NEAR 1, FREEZE 2 (R80). -/
def RawClass.cls : RawClass → SurfaceClass
  | .clear => .clear
  | .near => .near
  | .freeze => .freeze

/-- Raw class `r` is worse than the class in force; UNKNOWN is neither worse nor better than any (R80). -/
def RawClass.worseThan (r : RawClass) (c : SurfaceClass) : Bool :=
  match c with
  | .clear => decide (0 < r.num)
  | .near => decide (1 < r.num)
  | .freeze | .unknown => false

/-- The better of two raw classes. -/
def RawClass.better (a b : RawClass) : RawClass := if a.num ≤ b.num then a else b

/-- The raw class of a freeze margin (R80). -/
def rawClassOf (r : StationRec) (m : Int) : RawClass :=
  if m ≤ 0 then .freeze else if m ≤ r.band then .near else .clear

/-- The improvement test of the class in force (R82). -/
def improves (r : StationRec) (c : SurfaceClass) (m : Int) : Bool :=
  match c with
  | .freeze => decide ((r.hyst : Int) < m)
  | .near => decide ((r.band : Int) + r.hyst < m)
  | .clear | .unknown => false

namespace Station

/-- The class that an improvement reaches (R82). -/
def improved (x : Station) : SurfaceClass :=
  match x.cls with
  | .near => .clear
  | .freeze => if x.clearThrough then .clear else .near
  | c => c

/-- The improvement: the class becomes the better one and the timer stops (R82). -/
def improve (x : Station) : Station := { x with cls := x.improved, timer := none }

/-- A worsening result (R81). -/
def worsen (r : StationRec) (raw : RawClass) (x : Station) : Station :=
  let best := match x.runBest with
    | some b => if x.counter = 0 then raw else b.better raw
    | none => raw
  if r.wc ≤ x.counter + 1 then { x with cls := best.cls, counter := 0, runBest := none, timer := none }
  else { x with counter := x.counter + 1, runBest := some best, timer := none }

/-- A FRESH result that is not worse than the class in force (R82). -/
def judge (r : StationRec) (m : Int) (x : Station) : Station :=
  let y := { x with counter := 0, runBest := none }
  if improves r x.cls m then
    let through := if x.cls = .freeze then
        (if x.timer.isSome then x.clearThrough else true) && decide ((r.band : Int) + r.hyst < m)
      else x.clearThrough
    let z := { y with timer := some (x.timer.getD 0), clearThrough := through }
    if r.hold = 0 then z.improve else z
  else { y with timer := none }

/-- A FRESH surface result `ts` (R80 to R83). -/
def fresh (r : StationRec) (ts : Int) (x : Station) : Station :=
  let m := ts - r.tf
  let raw := rawClassOf r m
  let y := { x with raw := some raw, margin := some m }
  if x.cls = .unknown then { y with cls := raw.cls, counter := 0, runBest := none, timer := none }
  else if raw.worseThan x.cls then y.worsen r raw
  else y.judge r m

/-- A STALE surface (R83). -/
def goneStale (x : Station) : Station := { x with cls := .unknown, counter := 0, runBest := none, timer := none }

/-- The surface part of a scan hand-over (R80 to R83). -/
def classify (r : StationRec) (q : Quality) (ts : Option Int) (x : Station) : Station :=
  match q, ts with
  | .fresh, some t => x.fresh r t
  | .stale, _ => x.goneStale
  | _, _ => x

/-- The snow flag (R85). -/
def snowFrom (r : StationRec) (q : Quality) (ta : Option Int) (x : Station) : Station :=
  match q, ta with
  | .fresh, some t => { x with snow := decide (t ≤ r.snow) }
  | .stale, _ => { x with snow := false }
  | _, _ => x

/-- The wind state at a sample (R86, R87). -/
def windFrom (r : StationRec) (gust : Nat) (x : Station) : Station :=
  if r.storm ≤ gust ∧ x.wind ≠ .storm then { x with wind := .storm, windCount := none }
  else if r.strong ≤ gust ∧ x.wind = .normal then { x with wind := .strong, windCount := none }
  else
    let below (limit : Nat) : Bool := decide ((gust : Int) < (limit : Int) - r.windHyst)
    let passes := match x.wind with
      | .storm => below r.storm
      | .strong => below r.strong
      | .normal => false
    if passes then
      let n := match x.windCount with
        | none => 0
        | some c => c + 1
      let through := if x.wind = .storm then
          (if x.windCount.isSome then x.normalThrough else true) && below r.strong
        else x.normalThrough
      if 60 * r.windHold ≤ n then
        { x with wind := if x.wind = .storm ∧ !through then .strong else .normal, windCount := none
                 normalThrough := through }
      else { x with windCount := some n, normalThrough := through }
    else { x with windCount := none }

/-- The suppression flags whose cause is clear are cleared (R91). -/
def clearSuppression (x : Station) : Station :=
  { x with
    supSpeed := x.supSpeed && decide (x.cls ≠ .clear)
    supRestrict := x.supRestrict && !(decide (x.cls = .clear ∨ x.cls = .near) && decide (x.wind = .normal))
    supClose := x.supClose && decide (x.wind = .storm) }

/-- The value wanted for each kind (section 5.5). -/
def wantedSpeed (r : StationRec) (x : Station) : Option Content :=
  match x.cls with
  | .freeze => r.freezeSpeed.map .speed
  | .near => r.nearSpeed.map .speed
  | .clear | .unknown => none

def wantedRestrict (x : Station) : Option Content :=
  let set : Restrictions := ⟨x.snow && decide (x.cls = .freeze), decide (x.wind ≠ .normal), false⟩
  if set.isEmpty then none else some (.restrict set)

def wantedClose (x : Station) : Option Content := if x.wind = .storm then some (.close .wind) else none

end Station

namespace State

/-- The station's wind record is in use: it has a wind input (R74). -/
def windInUse (r : StationRec) : Bool := r.wind.isSome

/-- The station may make WX requests, but for its ready flag (R88). -/
def mayRequest (s : State) (k : Fin 6) : Bool :=
  s.valid && (s.img.span k.val).isSome && decide (s.cnd[k].cls ≠ .unknown)

/-- The ready flag is set at the first hand-over with a known class and, for a station with wind, a sample (R88). -/
def readyNow (s : State) (k : Fin 6) (r : StationRec) : Bool :=
  decide (s.cnd[k].cls ≠ .unknown) && (!windInUse r || !(s.mea.wind[k]).isEmpty)

def setReady (k : Fin 6) (r : StationRec) (s : State) : State :=
  if s.readyNow k r then s.setStation k { s.cnd[k] with ready := true } else s

/-- One WX request (R89). -/
def wxRequest (k : Fin 6) (kind : Kind) (wanted : Option Content) (s : State) : State :=
  match wanted with
  | some c => if s.cnd[k].suppressed kind then s else wxRaise k c s
  | none => wxRetire k kind s

/-- Step 4 of R79: the three requests in the order SPEED, RESTRICT, CLOSE (R88, R89). -/
def wxRequests (k : Fin 6) (r : StationRec) (s : State) : State :=
  if s.mayRequest k && s.cnd[k].ready then
    let x := s.cnd[k]
    ((s.wxRequest k .speed (x.wantedSpeed r)).wxRequest k .restrict x.wantedRestrict).wxRequest k .close x.wantedClose
  else s

/-- Steps 3 and 4 of R79, with the ready flag before them (R88, R91). -/
def conclude (k : Fin 6) (r : StationRec) (s : State) : State :=
  let s1 := s.setReady k r
  (s1.setStation k (s1.cnd[k]).clearSuppression).wxRequests k r

/-- A change of class is recorded and marks RSV dirty (R84). -/
def noteClass (k : Fin 6) (old : SurfaceClass) (margin : Option Int) (s : State) : State :=
  if s.cnd[k].cls = old then s
  else (s.record (.stationClass k.val old s.cnd[k].cls (if s.cnd[k].cls = .unknown then none else margin))).markDirty

/-- Step 1 of R79: the station quality. -/
def noteQuality (k : Fin 6) (surface air : Quality) (s : State) : State :=
  let x := s.cnd[k]
  if x.surface = surface ∧ x.air = air then s
  else (s.setStation k { x with surface := surface, air := air }).record (.stationQuality k.val surface air)

/-- A scan hand-over of one station (R79). -/
def scanHandOver (k : Fin 6) (r : StationRec) (surface air : Quality) (ts ta : Option Int) (s : State) : State :=
  let s1 := s.noteQuality k surface air
  let x := s1.cnd[k]
  let s2 := (s1.setStation k ((x.classify r surface ts).snowFrom r air ta))
  (s2.noteClass k x.cls s2.cnd[k].margin).conclude k r

/-- A wind hand-over of one station (R79, R86, R87). -/
def windHandOver (k : Fin 6) (r : StationRec) (gust mean : Nat) (s : State) : State :=
  let x := s.cnd[k]
  let y := x.windFrom r gust
  let s1 := s.setStation k y
  (if y.wind = x.wind then s1 else s1.record (.windState k.val y.wind gust mean)).conclude k r

/-- IMPROVEMENT_TIMER_EXPIRY (R82). -/
def improvementExpiry (k : Fin 6) (s : State) : State :=
  match s.station? k.val with
  | none => s
  | some r =>
    let x := s.cnd[k]
    if x.timer.isSome then
      ((s.setStation k x.improve).noteClass k x.cls x.margin).conclude k r
    else s

end State

end Sys2Proof.Machine
end

