-- ==== Sys2Proof/Machine/Measure.lean ====
section
/-! DEFINITION. MEA (chapter 4): scans and their stages, the cabinet code, anemometers and wind samples, TRIM_SET, and the
reads of channels and stations. -/

namespace Sys2Proof.Machine

/-! ### The stages (R62, R63, R66, R68 to R70) -/

/-- Channels 2..13 are the temperature channels of the stations (section 4.1). -/
def stationChannel (c : Nat) : Bool := decide (2 ≤ c ∧ c ≤ 13)

/-- Stage 1: N before its clamp (R62). -/
def ratioOf (count cref : Nat) : Int := roundDiv (count * 8192) cref

/-- Stage 2 (R63). -/
def trimmed (t : Trim) (n : Int) : Int := roundDiv ((n - t.offset) * t.gain) 2048

/-- The correction E of stage 3, in 64ths (R68). -/
def driftOf (t : Trim) (k : Nat) : Int :=
  if 130 ≤ k then t.sd * ((k : Int) - 130)
  else if 90 ≤ k then -t.sc * (130 - (k : Int))
  else if 50 ≤ k then -t.sc * 40 - t.sb * (90 - (k : Int))
  else -t.sc * 40 - t.sb * 40 - t.sa * (50 - (k : Int))

/-- Stage 3: V = T − D (R68). -/
def corrected (t : Trim) (k : Nat) (v : Int) : Int := v - roundDiv (driftOf t k) 64

/-- The range of stage 4 (R69). -/
def resultRange (c : Nat) : Int × Int := if c = 14 ∨ c = 15 then (0, 4095) else (-600, 800)

/-- The value of a channel before stage 4. -/
def beforeClamp (c : Nat) (t : Trim) (k : Nat) (n : Int) : Int :=
  if stationChannel c then corrected t k (trimmed t n) else trimmed t n

/-- Stage 5: a result enters a ring of depth `n` (R70). -/
def intoRing {α : Type} (n : Nat) (ring : List α) (x : α) : List α :=
  if ring.length < n then ring ++ [x] else (ring ++ [x]).drop (ring.length + 1 - n)

/-- One conversion of channel `c`, 1..15, through its stages: the count, N, the result with its flags, and the ring. -/
def Chan.convert (c depth cref k : Nat) (cfg : ChanCfg) (uncorrected ovf : Bool) (count : Nat) (x : Chan) : Chan :=
  let raw := ratioOf count cref
  let n := clampInt 0 32767 raw
  let v := beforeClamp c cfg.trim k n
  let r := clampInt (resultRange c).1 (resultRange c).2 v
  { x with
    lastCount := some count
    lastN := some n.toNat
    result := some r
    flags := ⟨ovf, decide (n ≠ raw ∨ r ≠ v), cfg.defaulted, stationChannel c && uncorrected⟩
    ring := intoRing depth x.ring r }

/-- The cabinet code of a smoothed cabinet value (R66). -/
def cabinetCode (v : Int) : Nat := (clampInt 0 199 (roundDiv (v + 450) 5)).toNat

/-- One more miss (R61). -/
def nextMiss (n : Nat) : Nat := if n < 3 then n + 1 else 3

/-- The quality of a channel that received no result, by its ring and its incremented miss count (R61). -/
def missQuality (ring : List Int) (miss : Nat) : Quality := if ring.isEmpty ∨ miss = 3 then .stale else .held

/-- Quality and miss count of a channel at a completion (R61). -/
def Chan.judge (enabled got : Bool) (x : Chan) : Chan :=
  if got then { x with quality := .fresh, miss := 0 }
  else if enabled then { x with quality := missQuality x.ring (nextMiss x.miss), miss := nextMiss x.miss }
  else { x with quality := .stale, miss := 3 }

/-! ### Scans (R58 to R61, R65, R67) -/

/-- Cref is in its window (R60). -/
def goodReference (count : Nat) : Bool := decide (8192 ≤ count ∧ count ≤ 60000)

/-- The scan list of a copy (R59). -/
def scanList (copy : Vector ChanCfg 16) : List (Fin 16) :=
  (List.finRange 16).filter (fun c => decide (c.val ≤ 1) || copy[c].enable)

/-- The working set at the beginning of a scan: a channel enabled now and not in the scan before has its ring emptied and
its miss count 0 (R65). -/
def scanWork (copy : Vector ChanCfg 16) (before : Vector Bool 16) (chans : Vector Chan 16) : Vector Chan 16 :=
  Vector.ofFn fun c : Fin 16 =>
    if 2 ≤ c.val ∧ copy[c].enable = true ∧ before[c] = false then { chans[c] with ring := [], miss := 0 } else chans[c]

/-- A scan begins (R59). -/
def MeaUnit.beginScan (m : MeaUnit) : MeaUnit :=
  { m with
    lastEnables := Vector.ofFn (fun c : Fin 16 => m.table[c].enable)
    scan := some ⟨m.table, scanWork m.table m.lastEnables m.chans, none, scanList m.table, [], m.k, false⟩ }

/-- The published channels of a completed scan (R59, R61). -/
def Scan.publish (n : Scan) : Vector Chan 16 :=
  Vector.ofFn fun c : Fin 16 =>
    if c = 0 then n.work[c] else (n.work[c]).judge (decide (c.val ≤ 1) || n.copy[c].enable) (n.got.contains c)

/-- The reference conversion (R60): Cref, and the rest of the list only in a good scan. -/
def Scan.reference (count : Nat) (rest : List (Fin 16)) (n : Scan) : Scan :=
  { n with
    work := setAt n.work 0 { n.work[(0 : Fin 16)] with lastCount := some count }
    cref := some count
    todo := if goodReference count then rest else [] }

/-- The cabinet conversion (R66, R67). One that overranges is a missing result: its count is kept for reading (R57) and
its N stays that of the last result (DESIGN CHOICE, notes/assumptions/29.md). -/
def Scan.cabinet (depth cref count : Nat) (ovf : Bool) (rest : List (Fin 16)) (n : Scan) : Scan :=
  let x := n.work[(1 : Fin 16)]
  if ovf then
    let stale := decide (missQuality x.ring (nextMiss x.miss) = .stale)
    { n with
      work := setAt n.work 1 { x with lastCount := some count }
      todo := rest, k := if stale then 130 else n.k, uncorrected := stale }
  else
    let y := x.convert 1 depth cref n.k n.copy[(1 : Fin 16)] false false count
    { n with
      work := setAt n.work 1 y, todo := rest, got := n.got ++ [1]
      k := cabinetCode ((meanOf y.ring).getD 0), uncorrected := false }

/-- The conversion of a channel 2..15. -/
def Scan.channel (c : Fin 16) (depth cref count : Nat) (ovf : Bool) (rest : List (Fin 16)) (n : Scan) : Scan :=
  { n with
    work := setAt n.work c ((n.work[c]).convert c.val depth cref n.k n.copy[c] n.uncorrected ovf count)
    todo := rest, got := n.got ++ [c] }

/-- The conversion in flight ends with a count (R57). -/
def Scan.convert (m : ImgUnit) (count : Nat) (ovf : Bool) (n : Scan) : Scan :=
  match n.todo with
  | [] => n
  | c :: rest =>
    if c = 0 then n.reference count rest
    else if c = 1 then n.cabinet (m.depth 1) (n.cref.getD 8192) count ovf rest
    else n.channel c (m.depth c.val) (n.cref.getD 8192) count ovf rest

/-- The scan was good (R60). -/
def Scan.good (n : Scan) : Bool := (n.cref.map goodReference).getD false

/-- MEA publishes a completed scan (R59, R60). -/
def MeaUnit.complete (n : Scan) (m : MeaUnit) : MeaUnit :=
  { m with
    scan := none, chans := n.publish, scanNumber := (m.scanNumber + 1) % 65536, lastGood := some n.good
    refFaults := if n.good then 0 else satAdd 255 m.refFaults 1
    k := if n.good then n.k else m.k }

/-! ### Wind samples (R73, R74) -/

/-- A speed sample of constant `a` at period `p`; in CALM and before the first period the speed is 0 (R73, R77). -/
def windSampleOf (a : Nat) (p : Option Nat) : WindSample :=
  match p with
  | some p =>
    let v := (roundDiv a p).toNat
    if 750 < v then ⟨750, true⟩ else ⟨v, false⟩
  | none => ⟨0, false⟩

def windMean (ring : List WindSample) : Option Nat := (meanOf (ring.map (fun w => (w.speed : Int)))).map Int.toNat

def windGust (ring : List WindSample) : Option Nat :=
  if ring.isEmpty then none else some (ring.foldl (fun n w => max n w.speed) 0)

/-- The wind input of a station record. -/
def windInput (r : StationRec) : Option (Fin 3) := r.wind.bind (finOf 3)

namespace State

/-- The surface and air channels of station `k`. -/
def surfaceChan (s : State) (k : Fin 6) : Chan := s.mea.chans[2 + 2 * k.val]'(by omega)

def airChan (s : State) (k : Fin 6) : Chan := s.mea.chans[3 + 2 * k.val]'(by omega)

/-- The scan hand-over to one station (R59, R79). -/
def handStation (s : State) (k : Fin 6) : State :=
  match s.station? k.val with
  | some r =>
    s.scanHandOver k r (s.surfaceChan k).quality (s.airChan k).quality (meanOf (s.surfaceChan k).ring)
      (meanOf (s.airChan k).ring)
  | none => s

/-- The hand-over of a completed scan: CND, stations in ascending order, then SCP. -/
def handOver (s : State) : State := ((List.finRange 6).foldl handStation s).lightToSigns

/-- A conversion ends with a count; after the last one the scan is published and handed on (R57, R59). -/
def conversionEnd (count : Nat) (ovf : Bool) (s : State) : State :=
  match s.mea.scan with
  | none => s
  | some n =>
    let n1 := n.convert s.img count ovf
    if n1.todo.isEmpty then ({ s with mea := s.mea.complete n1 }).handOver
    else { s with mea := { s.mea with scan := some n1 } }

/-- SCAN_TIMER_EXPIRY (R58): it begins a scan in IDLE and is dropped in SCANNING. -/
def scanTimerExpiry (s : State) : State :=
  let m := { s.mea with scanTimer := 0 }
  { s with mea := if m.scan.isNone then m.beginScan else m }

/-! ### Wind (R72 to R74) -/

def setAnemometer (i : Fin 3) (x : Anemometer) (s : State) : State :=
  { s with mea := { s.mea with anemometers := setAt s.mea.anemometers i x } }

/-- ANEMOMETER_EDGE (R72): `count` is the timer's count since the previous accepted edge, `highUs` how long the input then
stays high. -/
def anemometerEdge (i : Fin 3) (count highUs : Nat) (s : State) : State :=
  if highUs < 50 then s
  else
    let x := s.mea.anemometers[i]
    s.setAnemometer i
      { timer := 0, timing := true, period := if x.timing then some (if count = 0 then 1 else count) else none }

/-- ANEMOMETER_CALM (R72). -/
def anemometerCalm (i : Fin 3) (s : State) : State := s.setAnemometer i ⟨65535, false, none⟩

/-- One station samples and hands its gust and mean to CND (R74). -/
def sampleStation (s : State) (k : Fin 6) : State :=
  match s.station? k.val with
  | some r =>
    match windInput r with
    | some i =>
      let ring := intoRing 10 s.mea.wind[k] (windSampleOf r.a s.mea.anemometers[i].period)
      ({ s with mea := { s.mea with wind := setAt s.mea.wind k ring } }).windHandOver k r ((windGust ring).getD 0)
        ((windMean ring).getD 0)
    | none => s
  | none => s

/-- WIND_SAMPLE: the stations in ascending order. -/
def windSample (s : State) : State := (List.finRange 6).foldl sampleStation s

end State

/-! ### TRIM_SET (R64) -/

/-- The trim that a TRIM_SET carries. -/
def trimArg (args : List Byte) : Trim :=
  ⟨get16 args 1, getInt16 args 3, getInt8 args 5, getInt8 args 6, getInt8 args 7, getInt8 args 8⟩

/-- The first test of R64 that fails. Slopes of one byte are always in range; an enable byte other than 0 is yes
(notes/assumptions/12.md). -/
def trimRefusal (args : List Byte) : Option ReplyCode :=
  if ¬(1 ≤ get8 args 0 ∧ get8 args 0 ≤ 15) then some .badRange
  else if 16383 < get16 args 1 ∨ getInt16 args 3 < -4096 ∨ 4095 < getInt16 args 3 then some .badValue
  else if get8 args 0 = 1 ∧ get8 args 9 = 0 then some .badValue
  else none

def trimSet (a : Asker) (args : List Byte) (s : State) : State :=
  match trimRefusal args, finOf 16 (get8 args 0) with
  | none, some c =>
    ({ s with mea := { s.mea with
        table := setAt s.mea.table c ⟨get8 args 9 != 0, trimArg args, false⟩ } }).answer a .ok []
  | some rc, _ => s.answer a rc []
  | none, none => s.answer a .badRange []

/-! ### CHANNEL_READ (R75) -/

/-- The set of flags of a result as one byte, in the order of R69. -/
def ResultFlags.num (f : ResultFlags) : Nat :=
  f.overrange.toNat + 2 * f.clamped.toNat + 4 * f.trimDefault.toNat + 8 * f.uncorrected.toNat

/-- The flags of the last result; absent before the first (R77). -/
def Chan.flagBytes (x : Chan) : List Byte := putOpt8 (x.result.map (fun _ => x.flags.num))

def Trim.bytes (t : Trim) : List Byte :=
  put16 t.gain ++ putInt16 t.offset ++ putInt8 t.sa ++ putInt8 t.sb ++ putInt8 t.sc ++ putInt8 t.sd

/-- The reply of channel 0: last Cref, GOOD 0 or REF_FAULT 1, the REF_FAULT count. Before the first completed scan the
second is absent, 0xFF (DESIGN CHOICE, notes/assumptions/12.md). -/
def MeaUnit.referenceBytes (m : MeaUnit) : List Byte :=
  putOpt16 (m.chans[(0 : Fin 16)]).lastCount ++ putOpt8 (m.lastGood.map (fun g => (!g).toNat)) ++ put8 m.refFaults

/-- The reply of channels 1..15. The last result and the smoothed value are signed fields on every channel, on the light
channels 14 and 15 too, so an absent one is 0x8000 (DESIGN CHOICE, notes/assumptions/12.md). -/
def MeaUnit.channelBytes (m : MeaUnit) (depth : Nat) (c : Fin 16) : List Byte :=
  let x := m.chans[c]
  putFlag m.table[c].enable ++ put8 depth ++ (m.table[c]).trim.bytes ++ putOpt16 x.lastCount ++ putOpt16 x.lastN ++
    putOptInt16 x.result ++ putOptInt16 (meanOf x.ring) ++ put8 x.quality.num ++ put8 x.miss ++ put8 x.ring.length ++
    x.flagBytes ++ (if c = 1 then put8 m.k else [])

def channelRead (a : Asker) (args : List Byte) (s : State) : State :=
  match finOf 16 (get8 args 0) with
  | some c =>
    s.answer a .ok ((if c = 0 then s.mea.referenceBytes else s.mea.channelBytes (s.img.depth c.val) c) ++
      put16 s.mea.scanNumber)
  | none => s.answer a .badRange []

/-! ### STATION_READ (R76, R92) -/

/-- CND's part. -/
def Station.bytes (x : Station) : List Byte :=
  put8 x.cls.num ++ putOpt8 (x.raw.map RawClass.num) ++ putOptInt16 x.margin ++ put8 x.counter ++
    putOpt8 (x.runBest.map RawClass.num) ++ putOpt16 x.timer ++ putFlag x.clearThrough ++ putFlag x.snow ++
    put8 x.wind.num ++ putOpt16 x.windCount ++ putFlag x.normalThrough ++ putFlag x.ready ++ putFlag x.supSpeed ++
    putFlag x.supRestrict ++ putFlag x.supClose

def spanBytes (span : Option (Nat × Nat)) : List Byte :=
  putOpt8 (span.map Prod.fst) ++ putOpt8 (span.map Prod.snd)

/-- A channel of MEA's part: smoothed value, quality and flags. -/
def Chan.stationBytes (x : Chan) : List Byte := putOptInt16 (meanOf x.ring) ++ put8 x.quality.num ++ x.flagBytes

/-- The wind of MEA's part: input, P or CALM, last speed with its flag, mean, gust and ring length; wind none as an absent
input alone. A station whose record is not in use is reported as one with wind none (DESIGN CHOICE,
notes/assumptions/12.md). -/
def State.windBytes (s : State) (k : Fin 6) : List Byte :=
  match (s.station? k.val).bind windInput with
  | some i =>
    let ring := s.mea.wind[k]
    put8 i.val ++ putOpt16 s.mea.anemometers[i].period ++ putOpt16 (ring.getLast?.map WindSample.speed) ++
      putOptFlag (ring.getLast?.map WindSample.clamped) ++ putOpt16 (windMean ring) ++
      putOpt16 (windGust ring) ++ put8 ring.length
  | none => [0xFF#8]

/-- STATION_READ. Under MAP_INVALID a station above 5 is answered BAD_RANGE, and the span is that of `ImgUnit.span` for an
absent station and a broken run too (DESIGN CHOICE, notes/assumptions/30.md and 34.md). -/
def stationRead (a : Asker) (args : List Byte) (s : State) : State :=
  let n := get8 args 0
  match finOf 6 n with
  | some k =>
    if n < readBound s s.img.counts.stations 6 then
      s.answer a .ok (recordBytes s s.img.counts.stations rowOfStation n ++ (s.cnd[k]).bytes ++ spanBytes (s.img.span n) ++
        (s.surfaceChan k).stationBytes ++ (s.airChan k).stationBytes ++ put16 s.mea.scanNumber ++ s.windBytes k ++
        mapStateTail s)
    else s.answer a .badRange []
  | none => s.answer a .badRange []

/-! ### Start (R77) -/

/-- The runtime channel table that a start loads (R3, R56, R63). -/
def channelTable (m : ImgUnit) : Vector ChanCfg 16 :=
  Vector.ofFn fun c : Fin 16 => ⟨m.startEnable c.val, (m.trim c.val).1, (m.trim c.val).2⟩

def State.startMeasure (s : State) : State :=
  { s with mea := .atStart (channelTable s.img) (scanList (channelTable s.img)) }

end Sys2Proof.Machine
end

