-- ==== Sys2Proof/Machine/Ports.lean ====
section
/-! DEFINITION. PRT (chapter 10): the byte decoder, flow control and break, the placing and sending of replies and notices,
the bytes of the events (R167), and PORT_STATUS. -/

namespace Sys2Proof.Machine

/-! ### Events as bytes (R167) -/

def EndReason.num : EndReason → Nat
  | .lifted _ => 0
  | .cancelled => 1
  | .expired => 2
  | .conditionCleared => 3
  | .pathCleared => 4
  | .holdEnded => 5
  | .purged => 6

/-- The map state and the map fault record: VALID 0 or INVALID 1; check, record kind, index, failure count. -/
def MapUnit.bytes (m : MapUnit) : List Byte :=
  putFlag (!m.valid) ++ put8 ((m.first.map (fun f => f.code.num)).getD 0) ++
    putOpt8 (m.first.map (fun f => f.kind.num)) ++ putOpt8 (m.first.map MapFailure.index) ++ put8 m.count

/-- The kind of an event (R167). -/
def Event.kind : Event → Nat
  | .restarted .. => 0x01
  | .portReset .. => 0x02
  | .orderAdmitted .. => 0x03
  | .orderRenewed .. => 0x04
  | .orderState .. => 0x05
  | .orderEnded .. => 0x06
  | .aspectChanged .. => 0x07
  | .stationQuality .. => 0x08
  | .stationClass .. => 0x09
  | .windState .. => 0x0A
  | .loopZone .. => 0x0B
  | .pathTripped .. => 0x0C
  | .pathLineFault .. => 0x0D
  | .holdConfirmed .. => 0x0E
  | .holdFailed .. => 0x0F
  | .holdBroken .. => 0x10
  | .pathReleased .. => 0x11
  | .gateState .. => 0x12
  | .gateFault .. => 0x13
  | .gateSignsUnconfirmed .. => 0x14
  | .signDoor .. => 0x15
  | .signDegraded .. => 0x16

/-- The data of an event: the fields that its chapter lists. -/
def Event.data : Event → List Byte
  | .restarted c m trims policies notices pictograms gen unset =>
    put8 c.num ++ m.bytes ++ put8 trims ++ put8 policies ++ put8 notices ++ put8 pictograms ++ put16 gen ++ putFlag unset
  | .portReset p => put8 p.num
  | .orderAdmitted o => o.bytes
  | .orderRenewed o => o.bytes
  | .orderState n st stamp => put16 n ++ put8 st.num ++ put32 stamp
  | .orderEnded n i k r =>
    put16 n ++ put8 i.num ++ put8 k.num ++ put8 r.num ++
      (match r with
        | .lifted p => put8 p.num
        | _ => [])
  | .aspectChanged gen mask => put16 gen ++ put32 mask.toNat
  | .stationQuality k a b => put8 k ++ put8 a.num ++ put8 b.num
  | .stationClass k a b m => put8 k ++ put8 a.num ++ put8 b.num ++ putOptInt16 m
  | .windState k w gust mean => put8 k ++ put8 w.num ++ put16 gust ++ put16 mean
  | .loopZone l p z st => put8 l ++ put8 p ++ put8 z.num ++ put8 st.num
  | .pathTripped p o n => put8 p ++ putOrderNumber o ++ put16 n
  | .pathLineFault p l z => put8 p ++ put8 l ++ put8 z.num
  | .holdConfirmed p o gen => put8 p ++ putOrderNumber o ++ put16 gen
  | .holdFailed p o c => put8 p ++ putOrderNumber o ++ Unmet.bytes c
  | .holdBroken p o i => put8 p ++ putOrderNumber o ++ Unmet.bytes (some i)
  | .pathReleased p o n => put8 p ++ putOrderNumber o ++ put16 n
  | .gateState g st c inh d e n =>
    put8 g ++ put8 st.num ++ putOpt8 (c.map FaultCause.num) ++ putFlag inh ++ putOpt8 (d.map Demand.num) ++ putFlag e ++
      put8 n
  | .gateFault g c => put8 g ++ put8 c.num
  | .gateSignsUnconfirmed g l => put8 g ++ putIds l
  | .signDoor i opened => put8 i ++ putFlag opened
  | .signDegraded i n limit => put8 i ++ put8 n ++ put8 limit

/-- The body of a notice frame (R167): CODE 0xC0, the lost count, the event kind with bit 7 for TIME_UNSET, the corridor
time and the event data. -/
def Notice.body (lost : Nat) (n : Notice) : List Byte :=
  [0xC0#8] ++ put8 lost ++ put8 (n.event.kind + 128 * n.unset.toNat) ++ put32 n.time ++ n.event.data

/-! ### The decoder (R157, R158) -/

namespace PortUnit

/-- The bytes held in the RX FIFO: passed frames that wait, and the bytes of the frame being gathered. -/
def rxFill (q : PortUnit) : Nat :=
  (q.passed.map (fun b => b.length + 4)).sum +
    (match q.rx with
      | .hunt => 0
      | .inFrame g => g.length + 1)

/-- The bytes held in the TX FIFO. -/
def txFill (q : PortUnit) : Nat := (q.tx.map List.length).sum

/-- A character that finds the RX FIFO full is lost (R157). -/
def overrun (q : PortUnit) : PortUnit :=
  { q with overrunNext := true, counters := { q.counters with overrun := cnt q.counters.overrun 1 } }

/-- A frame is discarded: the counter of its cause increments and the phase is HUNT (R158). -/
def discard (cause : DiscardCause) (q : PortUnit) : PortUnit :=
  let c := q.counters
  { q with
    rx := .hunt
    counters := match cause with
      | .gap _ => { c with gap := cnt c.gap 1 }
      | .check => { c with check := cnt c.check 1 }
      | .length => { c with length := cnt c.length 1 }
      | .character => { c with character := cnt c.character 1 }
      | .overrun => { c with overrun := cnt c.overrun 1 } }

/-- A byte in HUNT (R158, R159); `ovr` says that it carries the overrun status. -/
def huntByte (b : Byte) (ovr : Bool) (q : PortUnit) : PortUnit :=
  if b = masterLead then (if ovr then q.discard .overrun else { q with rx := .inFrame [] })
  else if b = xoffByte then { q with xoff := true }
  else if b = xonByte then { q with xoff := false }
  else { q with counters := { q.counters with stray := cnt q.counters.stray 1 } }

/-- The bytes after the lead, once one more has been gathered: LEN is judged, then the whole frame (R158). -/
def frameBytes (g : List Byte) (q : PortUnit) : PortUnit :=
  match g with
  | [] => q
  | len :: rest =>
    if len.toNat < 2 ∨ 240 < len.toNat then q.discard .length
    else if rest.length < len.toNat + 2 then { q with rx := .inFrame g }
    else if put16 (crc16 (len :: rest.take len.toNat)).toNat = rest.drop len.toNat then
      { q with rx := .hunt, passed := q.passed ++ [rest.take len.toNat] }
    else q.discard .check

/-- A received byte is judged (R157, R158). -/
def rxByte (b : Byte) (q : PortUnit) : PortUnit :=
  if q.spacing then q
  else if 256 ≤ q.rxFill then q.overrun
  else
    let y := { q with overrunNext := false }
    match q.rx with
    | .hunt => y.huntByte b q.overrunNext
    | .inFrame g => if q.overrunNext then y.discard .overrun else y.frameBytes (g ++ [b])

/-- The bytes of a whole frame arrive one after the other. -/
def rxBytes (bytes : List Byte) (q : PortUnit) : PortUnit := bytes.foldl (fun q b => q.rxByte b) q

/-- Nothing stands in the way of a frame with this body: the port hunts, and the RX FIFO has room for it all. -/
def clearFor (body : List Byte) (q : PortUnit) : Bool :=
  decide (q.rx = .hunt) && !q.overrunNext && !q.spacing && decide (q.rxFill + body.length + 4 ≤ 256) &&
    decide (2 ≤ body.length ∧ body.length ≤ 240)

/-- A frame with a good check arrives: it passes whole when nothing stands in its way (the decoder then does the same,
byte by byte), and is judged byte by byte otherwise. -/
def rxFrame (body : List Byte) (q : PortUnit) : PortUnit :=
  if q.clearFor body then { q with passed := q.passed ++ [body] } else q.rxBytes (masterFrame body)

/-! ### Sending (R161, R163) -/

/-- The formed reply is placed when the TX FIFO has room for its frame (R161). -/
def placeReply (q : PortUnit) : PortUnit :=
  match q.service, q.reply with
  | .replyWait, some body =>
    if q.txFill + (masterFrame body).length ≤ 256 then
      { q with tx := q.tx ++ [masterFrame body], reply := none, service := .ready }
    else q
  | _, _ => q

/-- The oldest notice is framed with the lost count (R163). -/
def sendNotice (q : PortUnit) : PortUnit :=
  match q.tx, q.xoff, q.notices with
  | [], false, n :: t => { q with tx := [masterFrame (n.body q.lost)], notices := t, lost := 0 }
  | _, _, _ => q

/-- A frame has been sent. -/
def frameSent (q : PortUnit) : PortUnit := { q with tx := q.tx.tail }

/-- A break resets the port (R160), the overrun status that the next character would carry included (DESIGN CHOICE,
notes/assumptions/37.md). -/
def reset (q : PortUnit) : PortUnit :=
  { q with
    rx := .hunt, passed := [], overrunNext := false, spacing := true, tx := [], service := .ready, reply := none
    xoff := false, notices := [], lost := satAdd 255 q.lost q.notices.length }

end PortUnit

namespace State

/-- A request of IMG whose reply is discarded, when it is one of port `p`. -/
def dropImg (p : Port) (q : ImgReq) : ImgReq := if q.port = some p then { q with port := none } else q

/-- The holder of page memory once port `p` has lost its reply. -/
def dropHolder (p : Port) : Option Holder → Option Holder
  | some (.port q r) => some (.port q (if q = p then none else r))
  | h => h

/-- The reply that an owner still owes port `p` is discarded; the owner carries the request to its end (R160). -/
def dropReplies (p : Port) (s : State) : State :=
  let a := s.scp.arbiter
  { s with
    img := { s.img with writing := s.img.writing.map (dropImg p), waiting := s.img.waiting.map (dropImg p) }
    scp := { s.scp with arbiter := { a with
      holder := dropHolder p a.holder
      portWait := setAt a.portWait (portIndex p) (a.portWait[portIndex p].map (fun q => { q with owed := false })) } } }

/-- A break resets port `p` and PORT_RESET is recorded (R160). -/
def resetPort (p : Port) (s : State) : State :=
  ((s.dropReplies p).setPort p (s.port p).reset).record (.portReset p)

def breakEnd (p : Port) (s : State) : State := s.setPort p { s.port p with spacing := false }

/-- RX_FIFO_OVERRUN (R157); characters are not taken while the line stays spacing. The command states the loss: the character
is lost and counted whatever the model's own fill, also below 256 bytes (DESIGN CHOICE, notes/assumptions/11.md). -/
def rxFifoOverrun (p : Port) (s : State) : State :=
  if (s.port p).spacing then s else s.setPort p (s.port p).overrun

def noticeSend (p : Port) (s : State) : State := s.setPort p (s.port p).sendNotice

def portFrameSent (p : Port) (s : State) : State := s.setPort p (s.port p).frameSent

end State

/-! ### PORT_STATUS (R165) -/

def RxPhase.num : RxPhase → Nat
  | .hunt => 0
  | .inFrame _ => 1

def DiscardCounters.bytes (c : DiscardCounters) : List Byte :=
  put16 c.gap ++ put16 c.check ++ put16 c.length ++ put16 c.character ++ put16 c.overrun ++ put16 c.stray

/-- A 24-bit number. -/
def put24 (n : Nat) : List Byte := [byteOf (n / 65536), byteOf (n / 256), byteOf n]

def portStatus (a : Asker) (s : State) : State :=
  let q := s.port a.port
  let line := s.img.lineSettings a.port
  s.answer a .ok (s.map.bytes ++ put32 line.1 ++ putFlag line.2 ++ putFlag q.xoff ++ put8 q.rx.num ++ put16 q.rxFill ++
    put16 q.txFill ++ put8 q.notices.length ++ put8 q.lost ++ q.counters.bytes ++ put24 (s.img.permissions a.port) ++
    put8 s.ord.portPool ++ put8 (s.ord.held .ctr) ++ put8 (s.ord.held .avs) ++ put8 (s.ord.held .site) ++
    put8 (s.ord.held .wx) ++ put8 (s.ord.held .trip) ++ put16 s.ord.counter)

end Sys2Proof.Machine
end

