-- ==== Sys2Proof/Machine/Start.lean ====
section
/-! DEFINITION. IMG (chapter 11): the starts and their order, power, the corridor clock, and the reading and writing of
rows. -/

namespace Sys2Proof.Machine

namespace State

/-! ### Starts (R174) -/

/-- The retained items after a cold start, with a good retained check (R174, R40, R55). -/
def clearRetained (s : State) : State :=
  { s with
    ord := ⟨[], 0, 0⟩
    rsv := { s.rsv with generation := 0 }
    img := { s.img with clock := 0, timeUnset := true, retained := true } }

/-- The bytes that a row write that was cut off leaves: free values (R174, notes/assumptions/5.md). -/
def cutRow (n : Nat) : Row :=
  ⟨(List.range 32).map (Config.cutByte n), Config.cutByte n 32 ++ Config.cutByte n 33⟩

/-- A row write in flight is cut off (R174). -/
def cutWrite (s : State) : State :=
  match s.img.writing with
  | some q =>
    { s with img := { s.img with rows := s.img.rows.set q.row (cutRow s.cuts), writing := none }, cuts := s.cuts + 1 }
  | none => s

/-- IMG runs the row checks and the rows are loaded; MAP gives the map state (R1, R170). -/
def loadImage (s : State) : State :=
  let img : ImgUnit :=
    { rows := s.img.rows, loaded := s.img.rows, failed := s.img.rows.failing, written := [], writing := none
      waiting := [], restarting := false, replyTo := none, clock := s.img.clock, timeUnset := s.img.timeUnset
      retained := s.img.retained }
  { s with img, map := img.mapUnit }

/-- RESTARTED as this start records it (R174, R170). -/
def restartedEvent (c : StartCause) (s : State) : Event :=
  .restarted c s.map (countFailed s.img.failed 67 81) (countFailed s.img.failed 82 85) (countFailed s.img.failed 86 340)
    (countFailed s.img.failed 341 457) s.rsv.generation s.img.timeUnset

/-- The ports are set and RESTARTED stands first in every queue (R166, R174). -/
def startPorts (c : StartCause) (s : State) : State :=
  ({ s with prt := Vector.replicate 3 .atStart }).record (s.restartedEvent c)

/-- RSV at a start: only the generation is kept (R55). -/
def startAspects (s : State) : State := { s with rsv := ⟨Vector.replicate 32 .unknown, s.rsv.generation, false, none⟩ }

/-- CND at a start (R78). -/
def startStations (s : State) : State := { s with cnd := Vector.replicate 6 .atStart }

/-- The start actions of the blocks, after RESTARTED: ORD, then AVP, then GTC (R174); the others record nothing. -/
def startBlocks (s : State) : State :=
  s.startMeasure.startAspects.startStations.startSigns.startLines.startOrders.startPaths.startGates

/-- A start (R174). -/
def start (c : StartCause) (s : State) : State :=
  let s0 := ({ s with powered := true }).cutWrite
  let s1 := if c = .powerCold then s0.clearRetained else s0
  (s1.loadImage.startPorts c).startBlocks

/-- The retained memory after a time on the backup supply: where that did not keep it, its check is bad (section 11.3). -/
def afterBackup (kept : Bool) (s : State) : State :=
  if kept then s else { s with img := { s.img with retained := false } }

/-- POWER_UP: the retained check is tested, and the start is warm when it is good and cold otherwise (R174). `kept` says
whether the backup supply kept the retained memory (notes/assumptions/19.md). -/
def powerUp (kept : Bool) (s : State) : State :=
  (s.afterBackup kept).start (if (s.afterBackup kept).img.retained then .powerWarm else .powerCold)

/-- RESET_PIN: it acts on a powered device. -/
def resetPin (s : State) : State := if s.powered then s.start .pin else s

/-- A gate without supply: its outputs are off. -/
def unpoweredGate (x : Gate) : Gate := { x with drive := .off, waitingLine := none, periods := 0, duty := 0, lantern := .dark }

/-- MAIN_POWER_LOSS: the device stops; a row write in progress is cut off. -/
def mainPowerLoss (s : State) : State :=
  if s.powered then
    { s.cutWrite with powered := false, gtc := Vector.ofFn (fun g : Fin 8 => unpoweredGate s.gtc[g]) }
  else s

/-! ### The corridor clock (R173) -/

def setClock (t : Nat) (s : State) : State := { s with img := { s.img with clock := t } }

/-- CLOCK_TICK: at 4294967295 the clock holds; without main power it runs alone. -/
def clockTick (s : State) : State :=
  if s.img.clock < 4294967295 then
    let s1 := s.setClock (s.img.clock + 1)
    if s.powered then s1.advanceOrders (s.img.clock + 1) else s1
  else s

/-- The jump of a TIME_SET is handed to ORD (R35, R36). -/
def jumpTo (t : Nat) (s : State) : State :=
  let s1 := s.setClock t
  if s.img.clock < t then s1.advanceOrders t else if t < s.img.clock then s1.rewindOrders t else s1

def clearTimeUnset (s : State) : State := { s with img := { s.img with timeUnset := false } }

end State

/-- TIME_SET (R173). -/
def timeSet (a : Asker) (args : List Byte) (s : State) : State :=
  ((s.jumpTo (get32 args 0)).clearTimeUnset).answer a .ok (put32 (get32 args 0))

/-- TIME_READ (R173). -/
def timeRead (a : Asker) (s : State) : State := s.answer a .ok (put32 s.img.clock ++ putFlag s.img.timeUnset)

/-! ### Rows (R172) -/

/-- The last start loaded row `r` (R172): the header, the present map rows, and the trim, policy, notice and pictogram
rows. -/
def ImgUnit.loads (m : ImgUnit) (r : Nat) : Bool := r == 0 || m.counts.rows.contains r || decide (67 ≤ r ∧ r ≤ 457)

/-- The row differs from the content loaded at the last start; a row that start did not load has been written since. A row's
content is its data with its stored check (DESIGN CHOICE, notes/assumptions/38.md). -/
def ImgUnit.differs (m : ImgUnit) (r : Nat) : Bool :=
  if m.loads r then decide (m.rows.get r ≠ m.loaded.get r) else m.written.contains r

def imageReadCode : Nat := 0x14
def imageWriteCode : Nat := 0x15

/-- Reply to a request of IMG, unless a break has discarded the reply. -/
def State.imgAnswer (q : ImgReq) (rc : ReplyCode) (data : List Byte) (s : State) : State :=
  match q.port with
  | some p => s.answer ⟨p, if q.data.isSome then imageWriteCode else imageReadCode, q.tag⟩ rc data
  | none => s

/-- The stored check matches the stored bytes. -/
def Row.checkFlag (x : Row) : List Byte := putFlag x.passes

/-- The reply of an IMAGE_READ. -/
def ImgUnit.readBytes (m : ImgUnit) (r : Nat) : List Byte :=
  (m.rows.get r).data ++ (m.rows.get r).checkFlag ++ putFlag (m.differs r)

/-- IMG takes the oldest waiting requests, one after the other, until a row write is in flight or none waits. -/
def State.takeWaiting : List ImgReq → State → State
  | [], s => { s with img := { s.img with waiting := [] } }
  | q :: t, s =>
    if 1023 < q.row then State.takeWaiting t (s.imgAnswer q .badRange [])
    else match q.data with
      | none => State.takeWaiting t (s.imgAnswer q .ok (s.img.readBytes q.row))
      | some _ => { s with img := { s.img with writing := some q, waiting := t } }

/-- IMG serves no further request: a row write is in flight, or a RESTART waits for the reply of the last one (R172,
R174). -/
def ImgUnit.busy (m : ImgUnit) : Bool := m.writing.isSome || m.replyTo.isSome

/-- IMG takes a request: at once when none is in service, and behind the others otherwise. -/
def State.imgTake (q : ImgReq) (s : State) : State :=
  if s.img.busy then { s with img := { s.img with waiting := s.img.waiting ++ [q] } }
  else State.takeWaiting [q] s

def imageRead (a : Asker) (args : List Byte) (s : State) : State := s.imgTake ⟨some a.port, a.tag, get16 args 0, none⟩

def imageWrite (a : Asker) (args : List Byte) (s : State) : State :=
  s.imgTake ⟨some a.port, a.tag, get16 args 0, some (args.drop 2)⟩

/-- The row of new bytes with its check (R172). -/
def Row.of (data : List Byte) : Row := ⟨data, crc16 data⟩

/-- The row and its check are in the stored image. -/
def State.storeRow (r : Nat) (data : List Byte) (s : State) : State :=
  { s with img := { s.img with
      rows := s.img.rows.set r (.of data), writing := none
      written := if s.img.written.contains r then s.img.written else s.img.written ++ [r] } }

/-- A RESTART that waited for the row write now waits for its reply to be queued (R174); when a break has discarded the
reply, it begins. -/
def State.restartAfterWrite (q : ImgReq) (s : State) : State :=
  match q.port with
  | some p => { s with img := { s.img with replyTo := some p } }
  | none => s.start .request

/-- ROW_WRITE_COMPLETE (R172, R174): the row is read back and answered; a waiting RESTART follows the reply, else the next
waiting request is taken. -/
def State.rowWriteComplete (s : State) : State :=
  match s.img.writing with
  | some q =>
    let s1 := s.storeRow q.row (q.data.getD [])
    let s2 := s1.imgAnswer q .ok (s1.img.rows.get q.row).checkFlag
    if s2.img.restarting then s2.restartAfterWrite q else State.takeWaiting s2.img.waiting s2
  | none => s

/-- RESTART as IMG takes it (R174): behind a row write in flight, else at once. -/
def State.restartRequest (s : State) : State :=
  if s.img.writing.isSome then { s with img := { s.img with restarting := true } } else s.start .request

/-- A RESTART that waits for a reply on port `p` begins; without one nothing happens (R174). -/
def State.restartFor (p : Port) (s : State) : State := if s.img.replyTo = some p then s.start .request else s

/-- PORT_BREAK (R160): no effect until the line has marked again. It discards the reply that a RESTART waits for. -/
def State.portBreak (p : Port) (s : State) : State :=
  if (s.port p).spacing then s else (s.resetPort p).restartFor p

end Sys2Proof.Machine
end

