-- ==== Sys2Proof/Machine/Requests.lean ====
section
/-! DEFINITION. Request service (R161): the tests of a passed frame, the owners, and the meanings of the 23 request
commands. A request command is the arrival of its whole frame on a port; it is served at once when the port is READY and
no frame waits, and waits in the RX FIFO otherwise. -/

namespace Sys2Proof.Machine

/-- The owner of a request that passed the tests of R161. -/
def serveOwner (r : Request) (a : Asker) (args : List Byte) (s : State) : State :=
  match r with
  | .orderPost => orderPost a args s
  | .orderLift => orderLift a args s
  | .orderRead => orderRead a args s
  | .orderList => orderList a args s
  | .aspectRead => aspectRead a args s
  | .stationRead => stationRead a args s
  | .channelRead => channelRead a args s
  | .trimSet => trimSet a args s
  | .pathRead => pathRead a args s
  | .pathHold => pathHold a args s
  | .pathEndHold => pathEndHold a args s
  | .pathClear => pathClear a args s
  | .gateRead => gateRead a args s
  | .gateInhibit => gateInhibit a args s
  | .gateReset => gateReset a args s
  | .signRead => signRead a args s
  | .signPageRead => signPageRead a args s
  | .timeSet => timeSet a args s
  | .timeRead => timeRead a s
  | .imageRead => imageRead a args s
  | .imageWrite => imageWrite a args s
  | .restart => s.restartRequest
  | .portStatus => portStatus a s

namespace State

/-- The three tests of R161 on a frame, in order, and the owner of a request that passes. -/
def serve (p : Port) (body : List Byte) (s : State) : State :=
  let a : Asker := ⟨p, get8 body 0, body.getD 1 0#8⟩
  match Request.ofCode (get8 body 0) with
  | none => s.answer a .badRequest []
  | some r =>
    if !s.img.permits p r.code then s.answer a .notPermitted []
    else if body.length ≠ 2 + r.argBytes then s.answer a .badRequest []
    else serveOwner r a (body.drop 2) s

/-- In READY the port takes the oldest passed frame (R161). -/
def serveNext (p : Port) (s : State) : State :=
  match (s.port p).service, (s.port p).passed with
  | .ready, body :: rest => (s.setPort p { s.port p with passed := rest, service := .serving }).serve p body
  | _, _ => s

/-- A whole frame arrives on a port. -/
def receiveFrame (p : Port) (body : List Byte) (s : State) : State :=
  (s.setPort p ((s.port p).rxFrame body)).serveNext p

/-- A byte arrives on a port. -/
def receiveByte (p : Port) (b : Byte) (s : State) : State := (s.setPort p ((s.port p).rxByte b)).serveNext p

/-- A request frame arrives on a port of a powered device. -/
def receiveRequest (r : Request) (p : Port) (tag : Byte) (args : List Byte) (s : State) : State :=
  if s.powered then s.receiveFrame p (r.body tag args) else s

/-- A frame is discarded (R158): the byte that ended a gap is then judged. An overrun status that is pending is used up by the
cause OVERRUN alone: of CHARACTER, CHECK and LENGTH it stays for the next character (DESIGN CHOICE,
notes/assumptions/37.md). -/
def frameDiscard (p : Port) (cause : DiscardCause) (s : State) : State :=
  if (s.port p).spacing then s
  else
    let s1 := s.setPort p ((s.port p).discard cause)
    match cause with
    | .gap b => s1.receiveByte p b
    | .overrun => s1.setPort p { s1.port p with overrunNext := false }
    | .check | .length | .character => s1

/-- A placed reply lets a RESTART begin that waits for it (R174), and else the next request be taken (R161). -/
def replyPlaced (p : Port) (s : State) : State := if s.img.replyTo = some p then s.start .request else s.serveNext p

/-- REPLY_PLACE: the reply is placed when the TX FIFO has room for its frame (R161). -/
def replyPlace (p : Port) (s : State) : State :=
  if (s.port p).service = .replyWait ∧ (s.port p).placeReply.service = .ready then
    (s.setPort p (s.port p).placeReply).replyPlaced p
  else s

end State

/-! ### The request commands -/

def execOrderPost (p : Port) (tag : Byte) (args : List Byte) (s : State) : Host.Outcome State Fault Refusal :=
  .next (s.receiveRequest .orderPost p tag args)
def execOrderLift (p : Port) (tag : Byte) (args : List Byte) (s : State) : Host.Outcome State Fault Refusal :=
  .next (s.receiveRequest .orderLift p tag args)
def execOrderRead (p : Port) (tag : Byte) (args : List Byte) (s : State) : Host.Outcome State Fault Refusal :=
  .next (s.receiveRequest .orderRead p tag args)
def execOrderList (p : Port) (tag : Byte) (args : List Byte) (s : State) : Host.Outcome State Fault Refusal :=
  .next (s.receiveRequest .orderList p tag args)
def execAspectRead (p : Port) (tag : Byte) (args : List Byte) (s : State) : Host.Outcome State Fault Refusal :=
  .next (s.receiveRequest .aspectRead p tag args)
def execStationRead (p : Port) (tag : Byte) (args : List Byte) (s : State) : Host.Outcome State Fault Refusal :=
  .next (s.receiveRequest .stationRead p tag args)
def execChannelRead (p : Port) (tag : Byte) (args : List Byte) (s : State) : Host.Outcome State Fault Refusal :=
  .next (s.receiveRequest .channelRead p tag args)
def execTrimSet (p : Port) (tag : Byte) (args : List Byte) (s : State) : Host.Outcome State Fault Refusal :=
  .next (s.receiveRequest .trimSet p tag args)
def execPathRead (p : Port) (tag : Byte) (args : List Byte) (s : State) : Host.Outcome State Fault Refusal :=
  .next (s.receiveRequest .pathRead p tag args)
def execPathHold (p : Port) (tag : Byte) (args : List Byte) (s : State) : Host.Outcome State Fault Refusal :=
  .next (s.receiveRequest .pathHold p tag args)
def execPathEndHold (p : Port) (tag : Byte) (args : List Byte) (s : State) : Host.Outcome State Fault Refusal :=
  .next (s.receiveRequest .pathEndHold p tag args)
def execPathClear (p : Port) (tag : Byte) (args : List Byte) (s : State) : Host.Outcome State Fault Refusal :=
  .next (s.receiveRequest .pathClear p tag args)
def execGateRead (p : Port) (tag : Byte) (args : List Byte) (s : State) : Host.Outcome State Fault Refusal :=
  .next (s.receiveRequest .gateRead p tag args)
def execGateInhibit (p : Port) (tag : Byte) (args : List Byte) (s : State) : Host.Outcome State Fault Refusal :=
  .next (s.receiveRequest .gateInhibit p tag args)
def execGateReset (p : Port) (tag : Byte) (args : List Byte) (s : State) : Host.Outcome State Fault Refusal :=
  .next (s.receiveRequest .gateReset p tag args)
def execSignRead (p : Port) (tag : Byte) (args : List Byte) (s : State) : Host.Outcome State Fault Refusal :=
  .next (s.receiveRequest .signRead p tag args)
def execSignPageRead (p : Port) (tag : Byte) (args : List Byte) (s : State) : Host.Outcome State Fault Refusal :=
  .next (s.receiveRequest .signPageRead p tag args)
def execTimeSet (p : Port) (tag : Byte) (args : List Byte) (s : State) : Host.Outcome State Fault Refusal :=
  .next (s.receiveRequest .timeSet p tag args)
def execTimeRead (p : Port) (tag : Byte) (args : List Byte) (s : State) : Host.Outcome State Fault Refusal :=
  .next (s.receiveRequest .timeRead p tag args)
def execImageRead (p : Port) (tag : Byte) (args : List Byte) (s : State) : Host.Outcome State Fault Refusal :=
  .next (s.receiveRequest .imageRead p tag args)
def execImageWrite (p : Port) (tag : Byte) (args : List Byte) (s : State) : Host.Outcome State Fault Refusal :=
  .next (s.receiveRequest .imageWrite p tag args)
def execRestart (p : Port) (tag : Byte) (args : List Byte) (s : State) : Host.Outcome State Fault Refusal :=
  .next (s.receiveRequest .restart p tag args)
def execPortStatus (p : Port) (tag : Byte) (args : List Byte) (s : State) : Host.Outcome State Fault Refusal :=
  .next (s.receiveRequest .portStatus p tag args)

end Sys2Proof.Machine
end

