-- ==== Sys2Proof/Machine/Events.lean ====
section
/-! DEFINITION. The meanings of the events: of the port lines, the clock, the resolver, the sensors, the paths, the gates,
the signs, the field lines, the stored image and the supply. An event whose timer does not run, or whose phase is not the
present one, has no effect (notes/assumptions/6.md). Without main power only the pins, the corridor clock and POWER_UP
act. -/

namespace Sys2Proof.Machine

namespace State

/-- A powered device acts; without main power the device has stopped (R174). -/
def whenPowered (f : State → State) (s : State) : State := if s.powered then f s else s

/-- PASS_COMPLETION (R52, R53): a work copy that differs is published and handed on; the pass is then idle. -/
def passCompletion (s : State) : State :=
  match s.rsv.pass with
  | none => s
  | some p =>
    let w := p.work s.rsv.published
    if w = s.rsv.published then s.passIdle
    else (((s.passIdle.publishTable w).publishToGates).publishToSigns).publishToPaths

end State

/-! ### Port lines -/

def execFrameDiscard (p : Port) (cause : DiscardCause) (s : State) : Host.Outcome State Fault Refusal :=
  .next (s.whenPowered (State.frameDiscard p cause))
def execStrayByte (p : Port) (b : Byte) (s : State) : Host.Outcome State Fault Refusal :=
  .next (s.whenPowered (State.receiveByte p b))
def execXoff (p : Port) (s : State) : Host.Outcome State Fault Refusal :=
  .next (s.whenPowered (State.receiveByte p xoffByte))
def execXon (p : Port) (s : State) : Host.Outcome State Fault Refusal :=
  .next (s.whenPowered (State.receiveByte p xonByte))
def execPortBreak (p : Port) (s : State) : Host.Outcome State Fault Refusal :=
  .next (s.whenPowered (State.portBreak p))
def execReplyPlace (p : Port) (s : State) : Host.Outcome State Fault Refusal :=
  .next (s.whenPowered (State.replyPlace p))
def execNoticeSend (p : Port) (s : State) : Host.Outcome State Fault Refusal :=
  .next (s.whenPowered (State.noticeSend p))
def execPortFrameSent (p : Port) (s : State) : Host.Outcome State Fault Refusal :=
  .next (s.whenPowered (State.portFrameSent p))
def execRxFifoOverrun (p : Port) (s : State) : Host.Outcome State Fault Refusal :=
  .next (s.whenPowered (State.rxFifoOverrun p))
def execBreakEnd (p : Port) (s : State) : Host.Outcome State Fault Refusal :=
  .next (s.whenPowered (State.breakEnd p))

/-! ### The corridor clock and the aspect resolver -/

def execClockTick (s : State) : Host.Outcome State Fault Refusal := .next s.clockTick
def execPassBegin (s : State) : Host.Outcome State Fault Refusal := .next (s.whenPowered State.passBegin)
def execPassCompletion (s : State) : Host.Outcome State Fault Refusal := .next (s.whenPowered State.passCompletion)

/-! ### Measurement, condition and wind -/

def execScanTimerExpiry (s : State) : Host.Outcome State Fault Refusal := .next (s.whenPowered State.scanTimerExpiry)
def execComparatorTrip (count : Fin 65535) (s : State) : Host.Outcome State Fault Refusal :=
  .next (s.whenPowered (State.conversionEnd count.val false))
def execCountOverflow (s : State) : Host.Outcome State Fault Refusal :=
  .next (s.whenPowered (State.conversionEnd 65535 true))
def execImprovementTimerExpiry (k : Fin 6) (s : State) : Host.Outcome State Fault Refusal :=
  .next (s.whenPowered (State.improvementExpiry k))
def execAnemometerEdge (i : Fin 3) (count : Fin 65536) (highUs : Nat) (s : State) : Host.Outcome State Fault Refusal :=
  .next (s.whenPowered (State.anemometerEdge i count.val highUs))
def execAnemometerCalm (i : Fin 3) (s : State) : Host.Outcome State Fault Refusal :=
  .next (s.whenPowered (State.anemometerCalm i))
def execWindSample (s : State) : Host.Outcome State Fault Refusal := .next (s.whenPowered State.windSample)

/-! ### Avalanche paths -/

def execAcceptedZone (loop : Fin 12) (z : Zone) (s : State) : Host.Outcome State Fault Refusal :=
  .next (s.whenPowered (State.acceptedZone loop z))
def execConfirmTimerExpiry (k : Fin 12) (s : State) : Host.Outcome State Fault Refusal :=
  .next (s.whenPowered (State.confirmExpiry k))
def execLoopSample (v : Vector Nat 12) (s : State) : Host.Outcome State Fault Refusal :=
  .next (s.whenPowered (State.loopSample v))

/-! ### Snow gates: the pins keep their levels without supply -/

def execOpenLimitAccepted (g : Fin 8) (v : Bool) (s : State) : Host.Outcome State Fault Refusal :=
  .next (s.openLimitAccepted g v)
def execClosedLimitAccepted (g : Fin 8) (v : Bool) (s : State) : Host.Outcome State Fault Refusal :=
  .next (s.closedLimitAccepted g v)
def execObstructionAccepted (g : Fin 8) (v : Bool) (s : State) : Host.Outcome State Fault Refusal :=
  .next (s.obstructionAccepted g v)
def execSignWaitExpiry (g : Fin 8) (s : State) : Host.Outcome State Fault Refusal :=
  .next (s.whenPowered (State.signWaitExpiry g))
def execCountdownEnd (g : Fin 8) (s : State) : Host.Outcome State Fault Refusal :=
  .next (s.whenPowered (State.countdownExpiry g))
def execTravelTimerExpiry (g : Fin 8) (s : State) : Host.Outcome State Fault Refusal :=
  .next (s.whenPowered (State.travelExpiry g))
def execRetryDelayExpiry (g : Fin 8) (s : State) : Host.Outcome State Fault Refusal :=
  .next (s.whenPowered (State.retryExpiry g))
def execDeadTimeEnd (g : Fin 8) (s : State) : Host.Outcome State Fault Refusal :=
  .next (s.whenPowered (State.deadTimeEnd g))
def execDutyPeriodEnd (g : Fin 8) (s : State) : Host.Outcome State Fault Refusal :=
  .next (s.whenPowered (State.dutyPeriodEnd g))
def execLanternFrameBoundary (s : State) : Host.Outcome State Fault Refusal :=
  .next (s.whenPowered State.lanternBoundary)

/-! ### Sign composition -/

def execComposerTake (s : State) : Host.Outcome State Fault Refusal := .next (s.whenPowered State.composerTake)
def execCompositionEnd (s : State) : Host.Outcome State Fault Refusal := .next (s.whenPowered State.compositionEnd)
def execPageMemoryAccessEnd (s : State) : Host.Outcome State Fault Refusal :=
  .next (s.whenPowered State.pageMemoryAccessEnd)

/-! ### Field lines -/

def execPollTimerExpiry (i : Fin 24) (s : State) : Host.Outcome State Fault Refusal :=
  .next (s.whenPowered (State.pollTimerExpiry i))
def execPageTransfer (l : Fin 2) (s : State) : Host.Outcome State Fault Refusal :=
  .next (s.whenPowered (State.pageTransfer l))
def execLampTransfer (l : Fin 2) (s : State) : Host.Outcome State Fault Refusal :=
  .next (s.whenPowered (State.lampTransfer l))
def execBrightnessJob (l : Fin 2) (s : State) : Host.Outcome State Fault Refusal :=
  .next (s.whenPowered (State.brightnessJob l))
def execPoll (l : Fin 2) (s : State) : Host.Outcome State Fault Refusal := .next (s.whenPowered (State.poll l))
def execPageBlock (l : Fin 2) (s : State) : Host.Outcome State Fault Refusal :=
  .next (s.whenPowered (State.pageBlock l))
def execFieldFrameSent (l : Fin 2) (s : State) : Host.Outcome State Fault Refusal :=
  .next (s.whenPowered (State.fieldFrameSent l))
def execConfirm (l : Fin 2) (q : SignReply) (s : State) : Host.Outcome State Fault Refusal :=
  .next (s.whenPowered (State.confirm l q))
def execStatus (l : Fin 2) (q : SignReply) (s : State) : Host.Outcome State Fault Refusal :=
  .next (s.whenPowered (State.status l q))
def execReplyLimitExpiry (l : Fin 2) (s : State) : Host.Outcome State Fault Refusal :=
  .next (s.whenPowered (State.replyLimitExpiry l))
def execInvalidReply (l : Fin 2) (cause : InvalidCause) (s : State) : Host.Outcome State Fault Refusal :=
  .next (s.whenPowered (State.invalidReply l cause))
def execStrayCharacter (l : Fin 2) (c : CharStatus) (s : State) : Host.Outcome State Fault Refusal :=
  .next (s.whenPowered (State.strayCharacter l c))

/-! ### Stored image and supply -/

def execRowWriteComplete (s : State) : Host.Outcome State Fault Refusal := .next (s.whenPowered State.rowWriteComplete)
def execPowerUp (kept : Bool) (s : State) : Host.Outcome State Fault Refusal := .next (s.powerUp kept)
def execResetPin (s : State) : Host.Outcome State Fault Refusal := .next s.resetPin
def execMainPowerLoss (s : State) : Host.Outcome State Fault Refusal := .next s.mainPowerLoss

end Sys2Proof.Machine
end

