-- ==== Sys2Proof/Machine/Dispatch.lean ====
section
/-! DEFINITION. The meaning of each command, one arm per constructor of `Instr`. -/

namespace Sys2Proof.Machine

/-- The effect of a command on the device (everything but the queue). -/
def exec (i : Instr) (s : State) : Host.Outcome State Fault Refusal :=
  match i with
  | .orderPost p tag args => Sys2Proof.Machine.execOrderPost p tag args s
  | .orderLift p tag args => Sys2Proof.Machine.execOrderLift p tag args s
  | .orderRead p tag args => Sys2Proof.Machine.execOrderRead p tag args s
  | .orderList p tag args => Sys2Proof.Machine.execOrderList p tag args s
  | .aspectRead p tag args => Sys2Proof.Machine.execAspectRead p tag args s
  | .stationRead p tag args => Sys2Proof.Machine.execStationRead p tag args s
  | .channelRead p tag args => Sys2Proof.Machine.execChannelRead p tag args s
  | .trimSet p tag args => Sys2Proof.Machine.execTrimSet p tag args s
  | .pathRead p tag args => Sys2Proof.Machine.execPathRead p tag args s
  | .pathHold p tag args => Sys2Proof.Machine.execPathHold p tag args s
  | .pathEndHold p tag args => Sys2Proof.Machine.execPathEndHold p tag args s
  | .pathClear p tag args => Sys2Proof.Machine.execPathClear p tag args s
  | .gateRead p tag args => Sys2Proof.Machine.execGateRead p tag args s
  | .gateInhibit p tag args => Sys2Proof.Machine.execGateInhibit p tag args s
  | .gateReset p tag args => Sys2Proof.Machine.execGateReset p tag args s
  | .signRead p tag args => Sys2Proof.Machine.execSignRead p tag args s
  | .signPageRead p tag args => Sys2Proof.Machine.execSignPageRead p tag args s
  | .timeSet p tag args => Sys2Proof.Machine.execTimeSet p tag args s
  | .timeRead p tag args => Sys2Proof.Machine.execTimeRead p tag args s
  | .imageRead p tag args => Sys2Proof.Machine.execImageRead p tag args s
  | .imageWrite p tag args => Sys2Proof.Machine.execImageWrite p tag args s
  | .restart p tag args => Sys2Proof.Machine.execRestart p tag args s
  | .portStatus p tag args => Sys2Proof.Machine.execPortStatus p tag args s
  | .frameDiscard p cause => Sys2Proof.Machine.execFrameDiscard p cause s
  | .strayByte p b => Sys2Proof.Machine.execStrayByte p b s
  | .xoff p => Sys2Proof.Machine.execXoff p s
  | .xon p => Sys2Proof.Machine.execXon p s
  | .portBreak p => Sys2Proof.Machine.execPortBreak p s
  | .replyPlace p => Sys2Proof.Machine.execReplyPlace p s
  | .noticeSend p => Sys2Proof.Machine.execNoticeSend p s
  | .portFrameSent p => Sys2Proof.Machine.execPortFrameSent p s
  | .clockTick => Sys2Proof.Machine.execClockTick s
  | .passBegin => Sys2Proof.Machine.execPassBegin s
  | .passCompletion => Sys2Proof.Machine.execPassCompletion s
  | .scanTimerExpiry => Sys2Proof.Machine.execScanTimerExpiry s
  | .comparatorTrip count => Sys2Proof.Machine.execComparatorTrip count s
  | .countOverflow => Sys2Proof.Machine.execCountOverflow s
  | .improvementTimerExpiry station => Sys2Proof.Machine.execImprovementTimerExpiry station s
  | .anemometerEdge input count highUs => Sys2Proof.Machine.execAnemometerEdge input count highUs s
  | .anemometerCalm input => Sys2Proof.Machine.execAnemometerCalm input s
  | .windSample => Sys2Proof.Machine.execWindSample s
  | .acceptedZone loop zone => Sys2Proof.Machine.execAcceptedZone loop zone s
  | .confirmTimerExpiry path => Sys2Proof.Machine.execConfirmTimerExpiry path s
  | .openLimitAccepted gate level => Sys2Proof.Machine.execOpenLimitAccepted gate level s
  | .closedLimitAccepted gate level => Sys2Proof.Machine.execClosedLimitAccepted gate level s
  | .obstructionAccepted gate level => Sys2Proof.Machine.execObstructionAccepted gate level s
  | .signWaitExpiry gate => Sys2Proof.Machine.execSignWaitExpiry gate s
  | .countdownEnd gate => Sys2Proof.Machine.execCountdownEnd gate s
  | .travelTimerExpiry gate => Sys2Proof.Machine.execTravelTimerExpiry gate s
  | .retryDelayExpiry gate => Sys2Proof.Machine.execRetryDelayExpiry gate s
  | .deadTimeEnd gate => Sys2Proof.Machine.execDeadTimeEnd gate s
  | .dutyPeriodEnd gate => Sys2Proof.Machine.execDutyPeriodEnd gate s
  | .lanternFrameBoundary => Sys2Proof.Machine.execLanternFrameBoundary s
  | .composerTake => Sys2Proof.Machine.execComposerTake s
  | .compositionEnd => Sys2Proof.Machine.execCompositionEnd s
  | .pageMemoryAccessEnd => Sys2Proof.Machine.execPageMemoryAccessEnd s
  | .pollTimerExpiry sign => Sys2Proof.Machine.execPollTimerExpiry sign s
  | .pageTransfer line => Sys2Proof.Machine.execPageTransfer line s
  | .lampTransfer line => Sys2Proof.Machine.execLampTransfer line s
  | .brightnessJob line => Sys2Proof.Machine.execBrightnessJob line s
  | .poll line => Sys2Proof.Machine.execPoll line s
  | .pageBlock line => Sys2Proof.Machine.execPageBlock line s
  | .fieldFrameSent line => Sys2Proof.Machine.execFieldFrameSent line s
  | .confirm line reply => Sys2Proof.Machine.execConfirm line reply s
  | .status line reply => Sys2Proof.Machine.execStatus line reply s
  | .replyLimitExpiry line => Sys2Proof.Machine.execReplyLimitExpiry line s
  | .invalidReply line cause => Sys2Proof.Machine.execInvalidReply line cause s
  | .strayCharacter line chr => Sys2Proof.Machine.execStrayCharacter line chr s
  | .rowWriteComplete => Sys2Proof.Machine.execRowWriteComplete s
  | .powerUp kept => Sys2Proof.Machine.execPowerUp kept s
  | .resetPin => Sys2Proof.Machine.execResetPin s
  | .loopSample perMille => Sys2Proof.Machine.execLoopSample perMille s
  | .mainPowerLoss => Sys2Proof.Machine.execMainPowerLoss s
  | .rxFifoOverrun p => Sys2Proof.Machine.execRxFifoOverrun p s
  | .breakEnd p => Sys2Proof.Machine.execBreakEnd p s

end Sys2Proof.Machine
end

