-- ==== Sys2Proof/Machine/Clock.lean ====
section
/-! DEFINITION. One second of the device clock, which is what a step does when no command waits: every running timer
counts, up to its limit. What happens at a limit is a command of its own (notes/assumptions/7.md). -/

namespace Sys2Proof.Machine

/-- A running timer counts one second, up to its limit. -/
def tickTo (limit : Nat) : Option Nat → Option Nat
  | some n => some (if n < limit then n + 1 else n)
  | none => none

/-- The timers of a gate (R115, R116, R119, R121). -/
def Gate.second (r : GateRec) (x : Gate) : Gate :=
  { x with
    remaining := if x.phase = some .countdown then x.remaining - 1 else x.remaining
    signTimer := tickTo r.signWait x.signTimer
    travel := tickTo r.travel x.travel
    retryTimer := tickTo r.retryDelay x.retryTimer }

/-- The confirm timer of a path (R103). -/
def Path.second (r : PathRec) (x : Path) : Path := { x with timer := tickTo r.confirm x.timer }

/-- The improvement timer of a station (R82). -/
def Station.second (r : StationRec) (x : Station) : Station := { x with timer := tickTo (60 * r.hold) x.timer }

/-- The poll timer of a sign (R149). -/
def Sign.second (r : SignRec) (x : Sign) : Sign :=
  { x with pollTimer := if x.pollTimer < r.poll then x.pollTimer + 1 else x.pollTimer }

/-- The period timer of an anemometer, in units of 100 µs (R72). It stands until an accepted edge has started it, after a
start (R77) as in CALM. -/
def Anemometer.second (x : Anemometer) : Anemometer :=
  { x with timer := if x.timing then (if 65535 < x.timer + 10000 then 65535 else x.timer + 10000) else x.timer }

/-- The scan timer and the anemometers (R58, R72). -/
def MeaUnit.second (period : Nat) (m : MeaUnit) : MeaUnit :=
  { m with
    scanTimer := if m.scanTimer < period then m.scanTimer + 1 else m.scanTimer
    anemometers := Vector.ofFn fun i : Fin 3 => (m.anemometers[i]).second }

namespace State

/-- One second of the device clock. -/
def second (s : State) : State :=
  { s with
    mea := s.mea.second s.img.scanPeriod
    cnd := Vector.ofFn fun k : Fin 6 => match s.station? k.val with
      | some r => (s.cnd[k]).second r
      | none => s.cnd[k]
    avp := Vector.ofFn fun k : Fin 12 => match s.path? k.val with
      | some r => (s.avp[k]).second r
      | none => s.avp[k]
    gtc := Vector.ofFn fun g : Fin 8 => match s.gate? g.val with
      | some r => if s.valid then (s.gtc[g]).second r else s.gtc[g]
      | none => s.gtc[g]
    signs := Vector.ofFn fun i : Fin 24 => match s.linedSign? i.val with
      | some r => (s.signs[i]).second r
      | none => s.signs[i] }

/-- No command waits: a second passes on a powered device. -/
def idle (s : State) : State := s.whenPowered State.second

end State

end Sys2Proof.Machine
end

