-- ==== Sys2Proof/Safety.lean ====
section
/-! DEFINITION. The terms that statements about the device use: when a port takes a request at once, what a gate is that
enters a state, and the invariants that every step keeps (page memory and the rows in canonical form, the ports, the order
table, the queues, a device without a valid map, the drives of the gates, the items of the paths). -/

namespace Sys2Proof.Machine

/-! ### Requests -/

/-- The command that brings request `r` to a port (R167). -/
def Request.command (p : Port) (tag : Byte) (args : List Byte) : Request → Instr
  | .orderPost => .orderPost p tag args
  | .orderLift => .orderLift p tag args
  | .orderRead => .orderRead p tag args
  | .orderList => .orderList p tag args
  | .aspectRead => .aspectRead p tag args
  | .stationRead => .stationRead p tag args
  | .channelRead => .channelRead p tag args
  | .trimSet => .trimSet p tag args
  | .pathRead => .pathRead p tag args
  | .pathHold => .pathHold p tag args
  | .pathEndHold => .pathEndHold p tag args
  | .pathClear => .pathClear p tag args
  | .gateRead => .gateRead p tag args
  | .gateInhibit => .gateInhibit p tag args
  | .gateReset => .gateReset p tag args
  | .signRead => .signRead p tag args
  | .signPageRead => .signPageRead p tag args
  | .timeSet => .timeSet p tag args
  | .timeRead => .timeRead p tag args
  | .imageRead => .imageRead p tag args
  | .imageWrite => .imageWrite p tag args
  | .restart => .restart p tag args
  | .portStatus => .portStatus p tag args

/-! ### Conversions -/

/-- The count that ends a conversion, and whether it is an overflow (R57). -/
def conversionOf : Instr → Option (Nat × Bool)
  | .comparatorTrip count => some (count.val, false)
  | .countOverflow => some (65535, true)
  | _ => none

/-! ### Jobs -/

/-- The kind of the job that a transaction carries out; a poll carries out none (R148). -/
def TransKind.job : TransKind → Option JobKind
  | .page generation pages dwell => some (.page generation pages dwell)
  | .lamp generation => some (.lamp generation)
  | .bright => some .bright
  | .poll => none

/-! ### Gates, pixels and parts -/

/-- The gate at the end of a transition: the last state that it enters, or the gate as it stands when it enters none. -/
def Gate.final (m : Gate × List Gate) : Gate := (m.2.getLast?).getD m.1

/-- The running drive of a line (R124). -/
def DriveLine.running : DriveLine → Drive
  | .lower => .lower
  | .raise => .raise

/-- Gate `x` entered into `st` with fault cause `c` and its drive stopped: no item of the state before is kept (R112, R120,
R121), a running line gives way to the dead time, a stop in DEAD cancels the waiting request, and one in OFF changes nothing
(R124). -/
def Gate.halted (st : GatePos) (c : Option FaultCause) (x : Gate) : Gate :=
  { x with
    state := st, cause := c, phase := none, countKind := none, remaining := 0, signTimer := none, travel := none
    retryTimer := none
    drive := if x.drive = .off then .off else .dead
    waitingLine := if x.drive = .off then x.waitingLine else none
    periods := if x.drive = .off ∨ x.drive = .dead then x.periods else 0
    duty := if x.drive = .off ∨ x.drive = .dead then x.duty else 0 }

/-- Gate `x` entered into `st` with line `l` requested: from OFF the line starts at once, with its first duty and the travel
timer at 0; a line that runs goes on; in DEAD the line waits; and from the other line the drive is reversed through the dead
time (R118 to R120, R124, R125). From BLOCKED into OPENING the travel timer runs on (R119). -/
def Gate.driven (r : GateRec) (l : DriveLine) (st : GatePos) (x : Gate) : Gate :=
  { x with
    state := st, cause := none, phase := none, countKind := none, remaining := 0, signTimer := none, retryTimer := none
    travel := if x.drive = .off then some 0 else if x.state = .blocked ∧ st = .opening then x.travel else none
    drive := if x.drive = .off ∨ x.drive = l.running then l.running else .dead
    waitingLine := if x.drive = .off then none else if x.drive = l.running then x.waitingLine else some l
    periods := if x.drive = .dead ∨ x.drive = l.running then x.periods else 0
    duty := if x.drive = .off then (if r.ramp = 0 then 100 else r.startDuty)
      else if x.drive = .dead ∨ x.drive = l.running then x.duty else 0 }

/-- Gate `x` entered into PREWARN, where `signs` says that every approach sign is closure-confirmed (R115 to R117): the
emergency countdown, the normal one, or the wait for the signs. An emergency prewarn time of 0 ends at once: with the
obstruction asserted the phase is OBSTRUCTED, and otherwise the gate goes on from here into CLOSING. That OBSTRUCTED has no
countdown kind and no remaining time is DEDUCED, notes/assumptions/31.md. -/
def Gate.prewarned (r : GateRec) (signs : Bool) (x : Gate) : Gate :=
  if x.emergency then
    if r.emergency = 0 ∧ x.obstruction = true then { x.halted .prewarn none with phase := some .obstructed }
    else { x.halted .prewarn none with
      phase := some .countdown, countKind := some .emergency, remaining := r.emergency }
  else if signs then { x.halted .prewarn none with
    phase := some .countdown, countKind := some .normal, remaining := r.prewarn }
  else { x.halted .prewarn none with phase := some .signWait, signTimer := some 0 }

/-- Gate `x` entered into `st` with its drive as it is and no item of the state before kept (R112). -/
def Gate.passing (st : GatePos) (x : Gate) : Gate :=
  { x with
    state := st, cause := none, phase := none, countKind := none, remaining := 0, signTimer := none, travel := none
    retryTimer := none }

/-- The states that gate `x` enters, in order, when it is to open (R120): OPENING with the raise line requested, or, at the
open limit already, OPENING and then OPEN. -/
def Gate.opens (r : GateRec) (x : Gate) : List Gate :=
  if x.openLimit then
    [{ x.passing .opening with travel := if x.state = .blocked then x.travel else none },
      { x.halted .opened none with retries := 0 }]
  else [x.driven r .raise .opening]

/-- Gate `x` at rest in CLOSED with the retry count 0 (R120). -/
def Gate.shut (x : Gate) : Gate := { x.halted .closed none with retries := 0 }

/-- The states that gate `x` enters, in order, when it is to close (R118): CLOSING with the lower line requested, or, at the
closed limit already, CLOSING and then CLOSED, where a demand OPEN opens it again unless it is inhibited (R120). -/
def Gate.closes (r : GateRec) (x : Gate) : List Gate :=
  if x.closedLimit then
    x.passing .closing :: x.shut :: (if x.demand = some .opened ∧ x.inhibit = false then x.shut.opens r else [])
  else [x.driven r .lower .closing]

/-- The colour code at pixel (x, y) of the page of memory at `base`: 24 bytes a row, four pixels a byte, the leftmost in
bits 7 and 6 (R169). -/
def pixelAt (mem : List Host.Cell) (base x y : Nat) : Nat :=
  (memRead mem (base + 24 * y + x / 4)).toNat / 4 ^ (3 - x % 4) % 4

/-- The three kinds of part (R131). -/
def Part.isPict : Part → Bool
  | .pict _ _ _ => true
  | .text _ _ | .wide _ _ => false

def Part.isText : Part → Bool
  | .text _ _ => true
  | .pict _ _ _ | .wide _ _ => false

def Part.isWide : Part → Bool
  | .wide _ _ => true
  | .pict _ _ _ | .text _ _ => false

/-! ### Entries that count for a record -/

/-- Entry `o` of a pass is in state `st` and covers the record (seg, d) (R42). -/
def PassOrder.counts (st : OrderState) (seg : Nat) (d : Dir) (o : PassOrder) : Prop :=
  o.state = st ∧ o.first ≤ seg ∧ seg ≤ o.last ∧ (match o.dirs with
    | .both => True
    | .S => d = .S
    | .N => d = .N)

namespace State

/-- A powered port hunts, is READY and has no frame waiting: a frame that arrives is served at once (R158, R161). -/
def listening (s : State) (p : Port) : Prop :=
  s.powered = true ∧ (s.port p).service = .ready ∧ (s.port p).passed = [] ∧ (s.port p).rx = .hunt ∧
    (s.port p).overrunNext = false ∧ (s.port p).spacing = false

/-- The port takes request `r` at once: it listens, the code is permitted and the body has the length of R167. -/
def takes (s : State) (p : Port) (r : Request) (args : List Byte) : Prop :=
  s.listening p ∧ s.img.permits p r.code = true ∧ args.length = r.argBytes

/-- Port `p` has handed a request to its owner (R161). -/
def serving (p : Port) (s : State) : State := s.setPort p { s.port p with service := .serving }

/-- A path of the map by its request byte. -/
def pathIs (s : State) (args : List Byte) (k : Fin 12) (r : PathRec) : Prop :=
  get8 args 0 = k.val ∧ s.path? k.val = some r

/-- A gate of the map by its request byte. -/
def gateIs (s : State) (args : List Byte) (g : Fin 8) (r : GateRec) : Prop :=
  get8 args 0 = g.val ∧ s.gate? g.val = some r

/-! ### Orders and the clock -/

/-- What a clock that goes forward to `t` leaves of entry `o`, the first case of R35 that fits: nothing, the entry ACTIVE
with a stamp, the entry ANNOUNCED, or the entry as it was (R29, R30, R35). -/
def carried (t : Nat) (o : Order) (r : Option Order) : Prop :=
  if o.ended t = true then r = none
  else if o.state ≠ .active ∧ o.started t = true then
    ∃ stamp, r = some { o with state := .active, stamp := stamp }
  else if o.state = .scheduled ∧ o.windowOpen t = true then r = some { o with state := .announced }
  else r = some o

/-- What a clock that goes back to `t` leaves of entry `o` (R36). -/
def takenBack (t : Nat) (o : Order) (r : Option Order) : Prop :=
  if o.state = .announced ∧ o.windowOpen t = false then r = some { o with state := .scheduled } else r = some o

/-- The numbers of the table stand in strictly ascending order. -/
def ascending (s : State) : Prop := s.ord.table.Pairwise (fun a b => a.number < b.number)

/-! ### Invariants -/

/-- Page memory, the stored image and the rows loaded at the last start are in canonical form. -/
def canonical (s : State) : Prop :=
  memWf s.scp.memory = true ∧ s.img.rows.wf = true ∧ s.img.loaded.wf = true

/-- One port: a READY port has no frame waiting, a reply waits exactly in REPLY_WAIT, the RX FIFO holds at most 256 bytes,
the notice queue at most 32 notices, and the lost count at most 255 (R157, R161, R163). -/
def portOk (q : PortUnit) : Prop :=
  (q.service = .ready → q.passed = []) ∧ (q.reply.isSome = true ↔ q.service = .replyWait) ∧ q.rxFill ≤ 256 ∧
    q.notices.length ≤ 32 ∧ q.lost ≤ 255

def portsOk (s : State) : Prop := ∀ p : Port, portOk (s.port p)

/-- The path link of a TRIP order and the station link of a WX order (R17, R27, R28). -/
def linked (o : Order) : Prop :=
  (o.issuer = .trip → ∃ k, o.path = some k ∧ k < 12) ∧
    (o.issuer = .wx → (∃ k, o.station = some k ∧ k < 6) ∧
      (o.content.kind = .speed ∨ o.content.kind = .restrict ∨ o.content.kind = .close))

/-- Two TRIP orders have different paths; two WX orders differ in station or kind (R27, R28). -/
def apart (a b : Order) : Prop :=
  (a.issuer = .trip ∧ b.issuer = .trip → a.path ≠ b.path) ∧
    (a.issuer = .wx ∧ b.issuer = .wx → a.station ≠ b.station ∨ a.content.kind ≠ b.content.kind)

/-- The order table: numbers 1..65535 in strictly ascending order, the links of R27 and R28, the quotas and the pool of R18,
and the counter in its range. -/
def ordersOk (s : State) : Prop :=
  s.ascending ∧ s.ord.table.Pairwise apart ∧
    (∀ o ∈ s.ord.table, 1 ≤ o.number ∧ o.number ≤ 65535 ∧ linked o) ∧ s.ord.counter ≤ 65535 ∧
    s.ord.held .ctr ≤ 20 ∧ s.ord.held .avs ≤ 20 ∧ s.ord.held .site ≤ 10 ∧ s.ord.portPool ≤ 34

/-- A sign stands at most once in the compose queue and has at most one job on each line (R141, R148). -/
def queuesOk (s : State) : Prop :=
  s.scp.queue.Nodup ∧ ∀ l : Fin 2, ((s.flc[l]).queue.map Job.sign).Nodup

/-- The transaction of a line is a poll, or there is none. -/
def pollsOnly (x : Line) : Prop := ∀ t, x.trans = some t → t.kind = .poll

/-- What a device without a valid map does not do (R14 to R16): nothing is resolved or published, nothing is composed,
stored for a sign or transferred, no gate is driven or lit, and no path is held. -/
def quietWithoutMap (s : State) : Prop :=
  s.map.valid = false →
    s.rsv.published = Vector.replicate 32 .unknown ∧ s.rsv.pass = none ∧ s.scp.queue = [] ∧ s.scp.composer = none ∧
      s.scp.memory = [] ∧
      (∀ i : Fin 24, (s.signs[i]).bufA = none ∧ (s.signs[i]).bufB = none ∧ (s.signs[i]).confirmed = false) ∧
      (∀ l : Fin 2, (s.flc[l]).queue = [] ∧ pollsOnly s.flc[l]) ∧
      (∀ g : Fin 8, (s.gtc[g]).drive = .off ∧ (s.gtc[g]).lantern = .dark) ∧
      (∀ k : Fin 12, (s.avp[k]).state = .quiet ∨ (s.avp[k]).state = .latched)

/-- The line that runs, or waits for the dead time to end, is `l`. -/
def drives (l : DriveLine) (x : Gate) : Prop :=
  x.drive = (match l with
    | .lower => .lower
    | .raise => .raise) ∨ (x.drive = .dead ∧ x.waitingLine = some l)

/-- No line runs or waits. -/
def rests (x : Gate) : Prop := (x.drive = .off ∨ x.drive = .dead) ∧ x.waitingLine = none

/-- The drive of a gate fits its state (R116 to R121, R124): LOWER in CLOSING, RAISE in OPENING and in BLOCKED outside its
waiting phase, and rest in every other case. -/
def driveFits (x : Gate) : Prop :=
  match x.state with
  | .closing => drives .lower x
  | .opening => drives .raise x
  | .blocked => if x.retryTimer.isSome then rests x else drives .raise x
  | .opened | .prewarn | .closed | .fault => rests x

def drivesOk (s : State) : Prop := s.powered = true → s.map.valid = true → ∀ g : Fin 8, driveFits s.gtc[g]

/-- The order links and the confirm timer of a path fit its state (R97, R101, R103 to R107). -/
def pathFits (x : Path) : Prop :=
  match x.state with
  | .quiet => x.tripOrder = none ∧ x.holdOrder = none ∧ x.timer = none
  | .tripped | .latched => x.tripOrder.isSome = true ∧ x.holdOrder = none ∧ x.timer = none
  | .holdPending => x.tripOrder = none ∧ x.holdOrder.isSome = true ∧ x.timer.isSome = true
  | .hold => x.tripOrder = none ∧ x.holdOrder.isSome = true ∧ x.timer = none

def pathsOk (s : State) : Prop := ∀ k : Fin 12, pathFits s.avp[k]

end State

end Sys2Proof.Machine
end

