-- ==== Sys2Proof/Certificates/Slice0/Obligations.lean ====
section
/-! DEFINITION. The statements about the ZD-418. A statement about a command says, for every state and operands that meet
its hypotheses, that `exec` answers the next state it names; what that state does not name is as before. -/

section

open Sys2Proof Sys2Proof.Machine

/-! ### The step, the queue and the supply -/

/-- A step takes the command at the front of the queue and runs it with the queue's rest. -/
def Obligations.StepRunsFrontCommand : Prop :=
  ∀ (c : Instr) (s : State), step { s with pending := c :: s.pending } = exec c s

/-- Every command completes from every state, which no rule of the manual contradicts (the model's inference,
notes/assumptions/23.md), and leaves the queue to the step (the queue is the model's own, notes/assumptions/22.md). -/
def Obligations.EveryCommandAnswersAndKeepsQueue : Prop :=
  ∀ (c : Instr) (s : State), ∃ t, exec c s = .next t ∧ t.pending = s.pending

/-- On an empty queue one second of the device clock passes on a powered device (the model's choice,
notes/assumptions/7.md): every running timer counts it up to its limit, and nothing else changes. -/
def Obligations.EmptyQueueIsOneSecond : Prop :=
  ∀ s : State, s.pending = [] →
    (s.powered = false → step s = .next s) ∧
    (s.powered = true → ∃ t, step s = .next t ∧
      t = { s with
        mea := { s.mea with
          scanTimer := if s.mea.scanTimer < s.img.scanPeriod then s.mea.scanTimer + 1 else s.mea.scanTimer
          anemometers := t.mea.anemometers }
        cnd := t.cnd, avp := t.avp, gtc := t.gtc, signs := t.signs } ∧
      (∀ i : Fin 3, t.mea.anemometers[i] = { s.mea.anemometers[i] with
        timer := if (s.mea.anemometers[i]).timing then min 65535 ((s.mea.anemometers[i]).timer + 10000)
          else (s.mea.anemometers[i]).timer }) ∧
      (∀ k : Fin 6, t.cnd[k] = (match s.station? k.val with
        | none => s.cnd[k]
        | some r => { s.cnd[k] with
          timer := (s.cnd[k]).timer.map (fun n => if n < 60 * r.hold then n + 1 else n) })) ∧
      (∀ k : Fin 12, t.avp[k] = (match s.path? k.val with
        | none => s.avp[k]
        | some r => { s.avp[k] with
          timer := (s.avp[k]).timer.map (fun n => if n < r.confirm then n + 1 else n) })) ∧
      (∀ g : Fin 8, t.gtc[g] = (match s.map.valid, s.gate? g.val with
        | true, some r => { s.gtc[g] with
          remaining := if (s.gtc[g]).phase = some .countdown then (s.gtc[g]).remaining - 1 else (s.gtc[g]).remaining
          signTimer := (s.gtc[g]).signTimer.map (fun n => if n < r.signWait then n + 1 else n)
          travel := (s.gtc[g]).travel.map (fun n => if n < r.travel then n + 1 else n)
          retryTimer := (s.gtc[g]).retryTimer.map (fun n => if n < r.retryDelay then n + 1 else n) }
        | _, _ => s.gtc[g])) ∧
      (∀ i : Fin 24, t.signs[i] = (match s.linedSign? i.val with
        | none => s.signs[i]
        | some r => { s.signs[i] with
          pollTimer := if (s.signs[i]).pollTimer < r.poll then (s.signs[i]).pollTimer + 1
            else (s.signs[i]).pollTimer })))

/-- Without main power nothing acts but the pins' levels, the corridor clock and POWER_UP, and every other command leaves the
state as it was (the model's choice, notes/assumptions/19.md). -/
def Obligations.UnpoweredDeviceStands : Prop :=
  ∀ s : State, s.powered = false →
    (∀ c : Instr, match c with
      | .powerUp _ | .clockTick | .openLimitAccepted _ _ | .closedLimitAccepted _ _ | .obstructionAccepted _ _ => True
      | _ => exec c s = .next s) ∧
    (∀ (g : Fin 8) (v : Bool),
      exec (.openLimitAccepted g v) s =
          .next { s with pins := setAt s.pins g { s.pins[g] with openLimit := v } } ∧
        exec (.closedLimitAccepted g v) s =
          .next { s with pins := setAt s.pins g { s.pins[g] with closedLimit := v } } ∧
        exec (.obstructionAccepted g v) s =
          .next { s with pins := setAt s.pins g { s.pins[g] with obstruction := v } }) ∧
    (s.img.clock < 4294967295 → exec .clockTick s = .next { s with img := { s.img with clock := s.img.clock + 1 } })

/-- A cold start with an erased stored image gives the reset state, at the levels of the pins (the model's choice of the
reset state, notes/assumptions/1.md and 2.md), and the reset state meets every invariant. -/
def Obligations.ColdStartIsResetAndLawful : Prop :=
  (∀ s : State, s.img.rows = [] → s.img.writing = none →
    exec (.powerUp false) s = .next { State.reset with pins := s.pins, cuts := s.cuts, pending := s.pending }) ∧
  State.reset.canonical ∧ State.reset.portsOk ∧ State.reset.ordersOk ∧ State.reset.queuesOk ∧
    State.reset.quietWithoutMap ∧ State.reset.drivesOk ∧ State.reset.pathsOk

/-! ### Invariants -/

/-- Every step keeps page memory and the rows in canonical form, and each sign at most once in the compose queue and with at
most one job on a line. -/
def Obligations.FormsAndQueuesKept : Prop :=
  ∀ s t : State, step s = .next t → (s.canonical → t.canonical) ∧ (s.queuesOk → t.queuesOk)

/-- Every step keeps the ports in order: 32 notices, 256 bytes, a reply exactly in REPLY_WAIT. -/
def Obligations.PortsKept : Prop := ∀ s t : State, s.portsOk → step s = .next t → t.portsOk

/-- Every step keeps the order table lawful: distinct numbers, quotas, pools and links. -/
def Obligations.OrderTableKept : Prop := ∀ s t : State, s.ordersOk → step s = .next t → t.ordersOk

/-- Without a valid map nothing is resolved, composed, transferred, driven or held. -/
def Obligations.QuietWithoutMapKept : Prop :=
  ∀ s t : State, s.quietWithoutMap → step s = .next t → t.quietWithoutMap

/-- A gate is driven only in the direction of its state, and the order links and the confirm timer of a path fit its state. -/
def Obligations.DrivesAndPathsKept : Prop :=
  ∀ s t : State, step s = .next t → (s.drivesOk → t.drivesOk) ∧ (s.pathsOk → t.pathsOk)

/-! ### Master ports -/

/-- The decoder gives back every body that a master frame carries. -/
def Obligations.DecoderPassesEveryFrame : Prop :=
  ∀ (q : PortUnit) (body : List Byte), q.clearFor body = true →
    q.rxBytes (masterFrame body) = { q with passed := q.passed ++ [body] }

/-- A frame whose check does not match is discarded under CHECK and nothing of it is kept. -/
def Obligations.DecoderDiscardsBadCheck : Prop :=
  ∀ (q : PortUnit) (body : List Byte) (hi lo : Byte), q.clearFor body = true →
    [hi, lo] ≠ put16 (crc16 (lenBody body)).toNat →
    q.rxBytes (masterLead :: (lenBody body ++ [hi, lo])) =
      { q with counters := { q.counters with
          check := if 65535 < q.counters.check + 1 then 65535 else q.counters.check + 1 } }

/-- A request that is not permitted is answered NOT_PERMITTED, one of the wrong length BAD_REQUEST, in that order, and a
body whose code is no request BAD_REQUEST. At a port that hunts but is SERVING or in REPLY_WAIT, the frame of a request
joins the passed frames, while the RX FIFO has room for it, and waits. -/
def Obligations.RequestTestsInOrder : Prop :=
  (∀ (r : Request) (p : Port) (tag : Byte) (args : List Byte) (s : State), s.listening p → args.length ≤ 238 →
    (s.img.permits p r.code = false →
      exec (r.command p tag args) s = .next (s.answer ⟨p, r.code, tag⟩ .notPermitted [])) ∧
    (s.img.permits p r.code = true → args.length ≠ r.argBytes →
      exec (r.command p tag args) s = .next (s.answer ⟨p, r.code, tag⟩ .badRequest []))) ∧
  (∀ (p : Port) (code tag : Byte) (args : List Byte) (s : State), Request.ofCode code.toNat = none →
    s.serve p (code :: tag :: args) = s.answer ⟨p, code.toNat, tag⟩ .badRequest []) ∧
  (∀ (r : Request) (p : Port) (tag : Byte) (args : List Byte) (s : State), s.powered = true →
    (s.port p).service = .serving ∨ (s.port p).service = .replyWait → (s.port p).rx = .hunt →
    (s.port p).overrunNext = false → (s.port p).spacing = false → args.length ≤ 238 →
    (s.port p).rxFill + args.length + 6 ≤ 256 →
    exec (r.command p tag args) s = .next (s.setPort p { s.port p with
      passed := (s.port p).passed ++ [byteOf r.code :: tag :: args] }))

/-- An answer puts the port in REPLY_WAIT with the reply body of R167; an event joins the tail of all three notice queues,
and a queue of 32 discards its oldest and counts it lost. Neither changes anything else. -/
def Obligations.AnswersAndEvents : Prop :=
  (∀ (a : Asker) (rc : ReplyCode) (data : List Byte) (s : State),
    s.answer a rc data = { s with prt := setAt s.prt (portIndex a.port) { s.port a.port with
      service := .replyWait, reply := some ((byteOf a.code ||| 0x80#8) :: a.tag :: byteOf rc.code :: data) } }) ∧
  (∀ (e : Event) (s : State), (s.record e) = { s with prt := (s.record e).prt } ∧ ∀ p : Port,
    ((s.port p).notices.length < 32 →
      (s.record e).port p =
        { s.port p with notices := (s.port p).notices ++ [⟨e, s.img.clock, s.img.timeUnset⟩] }) ∧
    ((s.port p).notices.length = 32 →
      (s.record e).port p =
        { s.port p with
          notices := (s.port p).notices.tail ++ [⟨e, s.img.clock, s.img.timeUnset⟩]
          lost := if 255 < (s.port p).lost + 1 then 255 else (s.port p).lost + 1 }))

/-- Between frames, whatever the service state, XOFF and XON set and clear the flag, another byte is stray, and the lead
opens a frame; inside a frame XOFF and XON are bytes of the frame. -/
def Obligations.BytesBetweenFrames : Prop :=
  (∀ (p : Port) (s : State), s.powered = true → (s.port p).rx = .hunt → (s.port p).overrunNext = false →
    (s.port p).spacing = false → (s.port p).rxFill < 256 → (s.port p).service ≠ .ready ∨ (s.port p).passed = [] →
    exec (.xoff p) s = .next (s.setPort p { s.port p with xoff := true }) ∧
    exec (.xon p) s = .next (s.setPort p { s.port p with xoff := false }) ∧
    (∀ b : Byte, b ≠ masterLead → b ≠ xoffByte → b ≠ xonByte →
      exec (.strayByte p b) s = .next (s.setPort p { s.port p with counters := { (s.port p).counters with
        stray := if 65535 < (s.port p).counters.stray + 1 then 65535 else (s.port p).counters.stray + 1 } })) ∧
    exec (.strayByte p masterLead) s = .next (s.setPort p { s.port p with rx := .inFrame [] })) ∧
  (∀ (p : Port) (s : State) (len : Byte) (rest : List Byte), s.powered = true → (s.port p).spacing = false →
    (s.port p).overrunNext = false → (s.port p).passed = [] → (s.port p).rx = .inFrame (len :: rest) →
    2 ≤ len.toNat → len.toNat ≤ 240 → rest.length + 1 < len.toNat + 2 →
    exec (.xoff p) s = .next (s.setPort p { s.port p with rx := .inFrame (len :: rest ++ [xoffByte]) }) ∧
      exec (.xon p) s = .next (s.setPort p { s.port p with rx := .inFrame (len :: rest ++ [xonByte]) }))

/-- A discarded frame counts under its cause and leaves the port in HUNT; the byte that ends a gap is judged there. That the
command does so in every receive phase, HUNT included, where R158 discards a frame being gathered, is the model's choice
(notes/assumptions/6.md), as is that the cause CHARACTER, CHECK or LENGTH leaves a pending overrun status
(notes/assumptions/37.md). -/
def Obligations.DiscardCountsItsCause : Prop :=
  ∀ (p : Port) (s : State), s.powered = true → (s.port p).spacing = false → (s.port p).passed = [] →
    (∀ cause : DiscardCause, cause = .check ∨ cause = .length ∨ cause = .character →
      exec (.frameDiscard p cause) s = .next (s.setPort p ((s.port p).discard cause))) ∧
    exec (.frameDiscard p .overrun) s = .next (s.setPort p { (s.port p).discard .overrun with overrunNext := false }) ∧
    ((s.port p).overrunNext = false →
      exec (.frameDiscard p (.gap masterLead)) s =
        .next (s.setPort p { (s.port p).discard (.gap masterLead) with rx := .inFrame [] })) ∧
    (∀ cause : DiscardCause, (s.port p).discard cause = { s.port p with
      rx := .hunt
      counters := match cause with
        | .gap _ => { (s.port p).counters with gap := cnt (s.port p).counters.gap 1 }
        | .check => { (s.port p).counters with check := cnt (s.port p).counters.check 1 }
        | .length => { (s.port p).counters with length := cnt (s.port p).counters.length 1 }
        | .character => { (s.port p).counters with character := cnt (s.port p).counters.character 1 }
        | .overrun => { (s.port p).counters with overrun := cnt (s.port p).counters.overrun 1 } })

/-- A break resets the port, discards the replies that the owners still owe it while they carry its requests to their ends,
records PORT_RESET, and lets a RESTART begin that waited for such a reply (the model's choice, notes/assumptions/26.md); it
acts once until it ends. The requests of the port that wait for page memory stay in their turn (notes/assumptions/10.md), and
a pending overrun status is cleared (notes/assumptions/37.md). -/
def Obligations.BreakResetsThePort : Prop :=
  ∀ (p : Port) (s : State), s.powered = true →
    ((s.port p).spacing = true → exec (.portBreak p) s = .next s) ∧
    ((s.port p).spacing = false → ∀ (dropped t : State) (noReply : ImgReq → ImgReq),
      (∀ q, noReply q = if q.port = some p then { q with port := none } else q) →
      dropped = { s with
        img := { s.img with writing := s.img.writing.map noReply, waiting := s.img.waiting.map noReply }
        scp := { s.scp with arbiter := { s.scp.arbiter with
          holder := (match s.scp.arbiter.holder with
            | some (.port q reply) => some (.port q (if q = p then none else reply))
            | h => h)
          portWait := setAt s.scp.arbiter.portWait (portIndex p)
            (s.scp.arbiter.portWait[portIndex p].map (fun q => { q with owed := false })) } } } →
      t = (dropped.setPort p { s.port p with
        rx := .hunt, passed := [], overrunNext := false, spacing := true, tx := [], service := .ready, reply := none
        xoff := false, notices := []
        lost := if 255 < (s.port p).lost + (s.port p).notices.length then 255
          else (s.port p).lost + (s.port p).notices.length }).record (.portReset p) →
      (s.img.replyTo ≠ some p → exec (.portBreak p) s = .next t) ∧
      (s.img.replyTo = some p → exec (.portBreak p) s = .next (t.start .request))) ∧
    exec (.breakEnd p) s = .next (s.setPort p { s.port p with spacing := false })

/-- A formed reply joins the TX FIFO when its whole frame has room, and the port is then READY and takes the next frame, or a
RESTART that waits for this reply begins; the oldest notice is framed with the lost count when the TX FIFO is empty and the
partner takes frames; a sent frame leaves; a character that finds the RX FIFO full is counted. That REPLY_PLACE outside
REPLY_WAIT does nothing (notes/assumptions/6.md) and that RX_FIFO_OVERRUN acts whatever the model's own fill
(notes/assumptions/11.md) are the model's choices. -/
def Obligations.FramesLeaveThePort : Prop :=
  (∀ (p : Port) (body : List Byte) (s : State), s.powered = true → (s.port p).service = .replyWait →
    (s.port p).reply = some body →
    (256 < (s.port p).txFill + (masterFrame body).length → exec (.replyPlace p) s = .next s) ∧
    ((s.port p).txFill + (masterFrame body).length ≤ 256 →
      (s.img.replyTo ≠ some p → (s.port p).passed = [] → exec (.replyPlace p) s =
        .next (s.setPort p { s.port p with
          tx := (s.port p).tx ++ [masterFrame body], reply := none, service := .ready })) ∧
      (∀ (b : List Byte) (rest : List (List Byte)), s.img.replyTo ≠ some p → (s.port p).passed = b :: rest →
        exec (.replyPlace p) s = .next ((s.setPort p { s.port p with
          tx := (s.port p).tx ++ [masterFrame body], reply := none, service := .serving, passed := rest }).serve p b)) ∧
      (s.img.replyTo = some p → exec (.replyPlace p) s =
        .next ((s.setPort p { s.port p with
          tx := (s.port p).tx ++ [masterFrame body], reply := none, service := .ready }).start .request)))) ∧
  (∀ (p : Port) (s : State), s.powered = true → (s.port p).service ≠ .replyWait →
    exec (.replyPlace p) s = .next s) ∧
  (∀ (p : Port) (s : State), s.powered = true →
    (∀ (n : Notice) (t : List Notice), (s.port p).tx = [] → (s.port p).xoff = false → (s.port p).notices = n :: t →
      exec (.noticeSend p) s = .next (s.setPort p { s.port p with
        tx := [masterFrame ([0xC0#8] ++ put8 (s.port p).lost ++ put8 (n.event.kind + 128 * n.unset.toNat) ++
          put32 n.time ++ n.event.data)]
        notices := t, lost := 0 })) ∧
    ((s.port p).tx ≠ [] ∨ (s.port p).xoff = true ∨ (s.port p).notices = [] → exec (.noticeSend p) s = .next s) ∧
    (∀ (f : List Byte) (t : List (List Byte)), (s.port p).tx = f :: t →
      exec (.portFrameSent p) s = .next (s.setPort p { s.port p with tx := t })) ∧
    ((s.port p).spacing = false → exec (.rxFifoOverrun p) s = .next (s.setPort p { s.port p with
      overrunNext := true
      counters := { (s.port p).counters with overrun := cnt (s.port p).counters.overrun 1 } })))

/-- PORT_STATUS replies with the map state, the line settings, the states and counters of the port and the counts of the
order table, and changes nothing else. The RX FIFO fill is 0 there, since the request has left it (the model's choice,
notes/assumptions/11.md), and the reply's layout is the model's (notes/assumptions/12.md). -/
def Obligations.PortStatusReplies : Prop :=
  ∀ (p : Port) (tag : Byte) (s : State), s.takes p .portStatus [] →
    exec (.portStatus p tag []) s = .next (s.answer ⟨p, 0x17, tag⟩ .ok
      (s.map.bytes ++ put32 (s.img.lineSettings p).1 ++ putFlag (s.img.lineSettings p).2 ++ putFlag (s.port p).xoff ++
        put8 0 ++ put16 0 ++ put16 (s.port p).txFill ++ put8 (s.port p).notices.length ++ put8 (s.port p).lost ++
        (s.port p).counters.bytes ++ put24 (s.img.permissions p) ++ put8 s.ord.portPool ++ put8 (s.ord.held .ctr) ++
        put8 (s.ord.held .avs) ++ put8 (s.ord.held .site) ++ put8 (s.ord.held .wx) ++ put8 (s.ord.held .trip) ++
        put16 s.ord.counter))

/-! ### Orders -/

/-- The draft of a post takes its values as adjusted by R23, its end by R24 and its state by R29; the mask of the reply
marks exactly the fields that R23 adjusted. -/
def Obligations.DraftFollowsThePost : Prop :=
  ∀ (p : Port) (c : Content) (d : Dirs) (x : PostArgs) (now : Nat),
    ((draftOrder p c d x now).issuer = p.issuer ∧
      (draftOrder p c d x now).content = (match c with
        | .speed v => .speed (max 20 (min 120 (v / 10 * 10)))
        | .avwarn n => .avwarn (min 5 n)
        | c => c) ∧
      (draftOrder p c d x now).first = x.first ∧ (draftOrder p c d x now).last = x.last ∧
      (draftOrder p c d x now).dirs = d ∧ (draftOrder p c d x now).path = none ∧
      (draftOrder p c d x now).station = none ∧ (draftOrder p c d x now).start = x.start ∧
      (draftOrder p c d x now).emergency = (decide (c.kind = .close) && x.emergency) ∧
      (draftOrder p c d x now).lead = (if c.kind = .close then min 720 x.lead else 0) ∧
      (draftOrder p c d x now).finish =
        x.duration.map (fun n => min 4294967295 (x.start.getD now + 60 * min 10080 n)) ∧
      (draftOrder p c d x now).state =
        (match x.start with
          | none => .active
          | some t =>
            if t ≤ now then .active
            else if c.kind = .close ∧ 0 < min 720 x.lead ∧ t ≤ now + 60 * min 720 x.lead then .announced
            else .scheduled)) ∧
    (adjustMask c x).testBit 0 = (match c with
      | .speed v => decide (max 20 (min 120 (v / 10 * 10)) ≠ v)
      | _ => false) ∧
    (adjustMask c x).testBit 1 = (match c with
      | .avwarn n => decide (5 < n)
      | _ => false) ∧
    (adjustMask c x).testBit 2 = decide (x.lead ≠ if c.kind = .close then min 720 x.lead else 0) ∧
    (adjustMask c x).testBit 3 = (decide (c.kind ≠ .close) && x.emergency) ∧
    (adjustMask c x).testBit 4 = (match x.duration with
      | some n => decide (10080 < n)
      | none => false) ∧
    adjustMask c x < 32

/-- A post that passes every test is admitted: the next free number, a stamp when ACTIVE, the entry in the table,
ORDER_ADMITTED on every port, RSV dirty, and the reply with the number and state. -/
def Obligations.PostAdmitsAnOrder : Prop :=
  ∀ (p : Port) (tag : Byte) (args : List Byte) (s : State) (x : PostArgs) (c : Content) (d : Dirs) (o e : Order),
    s.takes p .orderPost args → x = parsePost args → s.map.valid = true → x.first ≤ x.last → x.last < s.img.nseg →
    contentOf x.kind x.value = some c → dirsOf x.dirs = some d → x.duration ≠ some 0 →
    (∀ id, c = .notice id → (s.img.noticeText id).isSome = true) →
    (x.start.isSome = true → s.img.timeUnset = false) → o = draftOrder p c d x s.img.clock →
    o.ended s.img.clock = false → s.ord.renewal o = none → s.ord.held p.issuer < p.issuer.quota → s.ord.portPool < 34 →
    e = { o with
      number := freeNumber s.ord 65 s.ord.counter
      stamp := if o.state = .active then nextStamp s.ord.stamps else 0 } →
    exec (.orderPost p tag args) s = .next ((({ s with
      ord := { table := insertOrder e s.ord.table, counter := e.number
               stamps := if o.state = .active then nextStamp s.ord.stamps else s.ord.stamps }
      rsv := { s.rsv with dirty := true } } : State).record (.orderAdmitted e)).answer ⟨p, 0x01, tag⟩
        (if adjustMask c x = 0 then .admitted else .adjusted)
        (if adjustMask c x = 0 then put16 e.number ++ put8 e.state.num
          else put16 e.number ++ [0#8] ++ put8 e.state.num ++ put8 (adjustMask c x)))

/-- A post that matches an entry of its issuer renews it: same number, issuer, kind, range and directions; the new value,
emergency flag, start, end, lead and state; a new stamp exactly when it enters ACTIVE; and no room or number used. -/
def Obligations.PostRenewsItsEntry : Prop :=
  ∀ (p : Port) (tag : Byte) (args : List Byte) (s : State) (x : PostArgs) (c : Content) (d : Dirs) (o e e' : Order),
    s.takes p .orderPost args → x = parsePost args → s.map.valid = true → x.first ≤ x.last → x.last < s.img.nseg →
    contentOf x.kind x.value = some c → dirsOf x.dirs = some d → x.duration ≠ some 0 →
    (∀ id, c = .notice id → (s.img.noticeText id).isSome = true) →
    (x.start.isSome = true → s.img.timeUnset = false) → o = draftOrder p c d x s.img.clock →
    o.ended s.img.clock = false → s.ord.renewal o = some e →
    e' = { e with
      content := o.content, emergency := o.emergency, start := o.start, finish := o.finish, lead := o.lead
      state := o.state
      stamp := if o.state = .active ∧ e.state ≠ .active then nextStamp s.ord.stamps else e.stamp } →
    (e.issuer = p.issuer ∧ e.content.kind = o.content.kind ∧ e.first = x.first ∧ e.last = x.last ∧ e.dirs = d ∧
      e.path = none) ∧
    exec (.orderPost p tag args) s = .next ((({ s with
      ord := { table := s.ord.table.map (fun y => if y.number = e.number then e' else y), counter := s.ord.counter
               stamps := if o.state = .active ∧ e.state ≠ .active then nextStamp s.ord.stamps else s.ord.stamps }
      rsv := { s.rsv with dirty := true } } : State).record (.orderRenewed e')).answer ⟨p, 0x01, tag⟩
        (if adjustMask c x = 0 then .renewed else .adjusted)
        (if adjustMask c x = 0 then put16 e.number ++ put8 o.state.num
          else put16 e.number ++ [1#8] ++ put8 o.state.num ++ put8 (adjustMask c x)))

/-- The first test of R21 that fails gives the reply, and nothing but the reply happens. -/
def Obligations.PostRefusedInOrder : Prop :=
  ∀ (p : Port) (tag : Byte) (args : List Byte) (s : State) (x : PostArgs), s.takes p .orderPost args →
    x = parsePost args →
    (s.map.valid = false → exec (.orderPost p tag args) s = .next (s.answer ⟨p, 0x01, tag⟩ .mapInvalid [])) ∧
    (s.map.valid = true →
      (¬(x.first ≤ x.last ∧ x.last < s.img.nseg) →
        exec (.orderPost p tag args) s = .next (s.answer ⟨p, 0x01, tag⟩ .badRange [])) ∧
      (x.first ≤ x.last ∧ x.last < s.img.nseg →
        (contentOf x.kind x.value = none ∨ dirsOf x.dirs = none ∨ x.duration = some 0 →
          exec (.orderPost p tag args) s = .next (s.answer ⟨p, 0x01, tag⟩ .badValue [])) ∧
        (∀ (c : Content) (d : Dirs), contentOf x.kind x.value = some c → dirsOf x.dirs = some d →
          x.duration ≠ some 0 →
          (∀ id, c = .notice id → s.img.noticeText id = none →
            exec (.orderPost p tag args) s = .next (s.answer ⟨p, 0x01, tag⟩ .noText [])) ∧
          ((∀ id, c = .notice id → (s.img.noticeText id).isSome = true) →
            (x.start.isSome = true ∧ s.img.timeUnset = true →
              exec (.orderPost p tag args) s = .next (s.answer ⟨p, 0x01, tag⟩ .timeUnset [])) ∧
            (¬(x.start.isSome = true ∧ s.img.timeUnset = true) →
              ((draftOrder p c d x s.img.clock).ended s.img.clock = true →
                exec (.orderPost p tag args) s = .next (s.answer ⟨p, 0x01, tag⟩ .alreadyEnded [])) ∧
              ((draftOrder p c d x s.img.clock).ended s.img.clock = false →
                s.ord.renewal (draftOrder p c d x s.img.clock) = none →
                (p.issuer.quota ≤ s.ord.held p.issuer →
                  exec (.orderPost p tag args) s = .next (s.answer ⟨p, 0x01, tag⟩ .quota [])) ∧
                (s.ord.held p.issuer < p.issuer.quota → 34 ≤ s.ord.portPool →
                  exec (.orderPost p tag args) s = .next (s.answer ⟨p, 0x01, tag⟩ .tableFull []))))))))

/-- The number search: at most 65 advances lead to a number 1..65535 that no entry carries, the first such after the
counter. -/
def Obligations.FreshNumberIsFree : Prop :=
  ∀ (u : OrdUnit) (c : Nat), u.table.length ≤ 64 → c ≤ 65535 → ∃ k, k ≤ 64 ∧
    freeNumber u 65 c = nextCount^[k + 1] c ∧ 1 ≤ freeNumber u 65 c ∧ freeNumber u 65 c ≤ 65535 ∧
    u.find (freeNumber u 65 c) = none ∧ ∀ j, j < k → (u.find (nextCount^[j + 1] c)).isSome = true

/-- A permitted lift of an entry without a path link retires it: CANCELLED before it is ACTIVE, LIFTED with the port when
it is; the lift of a WX order sets the suppression flag of its station and kind. -/
def Obligations.LiftRetiresAPlainOrder : Prop :=
  ∀ (p : Port) (tag : Byte) (args : List Byte) (s : State) (o : Order), s.takes p .orderLift args →
    s.ord.find (get16 args 0) = some o → s.img.mayLift p o.issuer = true → o.path = none →
    o.number = get16 args 0 ∧
    ∃ t : State, t = ({ s with
        ord := { s.ord with table := s.ord.table.filter (fun y => y.number != o.number) }
        rsv := { s.rsv with dirty := true } } : State).record
          (.orderEnded o.number o.issuer o.content.kind (if o.state = .active then .lifted p else .cancelled)) ∧
      (o.issuer ≠ .wx → exec (.orderLift p tag args) s = .next (t.answer ⟨p, 0x02, tag⟩ .ok (put16 o.number))) ∧
      (∀ k : Fin 6, o.issuer = .wx → o.station = some k.val →
        exec (.orderLift p tag args) s = .next ((t.setStation k (match o.content.kind with
          | .speed => { s.cnd[k] with supSpeed := true }
          | .restrict => { s.cnd[k] with supRestrict := true }
          | .close => { s.cnd[k] with supClose := true }
          | .avwarn | .notice => s.cnd[k])).answer ⟨p, 0x02, tag⟩ .ok (put16 o.number)))

/-- A lift is answered NOT_FOUND, then NOT_PERMITTED by the lift matrix, then MAP_INVALID for a path-linked entry; a
path-linked entry under a valid map is decided from the state of its path. A retired entry leaves the table, ORDER_ENDED is
recorded and RSV is dirty. -/
def Obligations.LiftOfALinkedOrder : Prop :=
  (∀ (p : Port) (tag : Byte) (args : List Byte) (s : State), s.takes p .orderLift args →
    (s.ord.find (get16 args 0) = none →
      exec (.orderLift p tag args) s = .next (s.answer ⟨p, 0x02, tag⟩ .notFound [])) ∧
    (∀ o : Order, s.ord.find (get16 args 0) = some o →
      (s.img.mayLift p o.issuer = false →
        exec (.orderLift p tag args) s = .next (s.answer ⟨p, 0x02, tag⟩ .notPermitted [])) ∧
      (s.img.mayLift p o.issuer = true → ∀ k : Fin 12, o.path = some k.val →
        (s.map.valid = false →
          exec (.orderLift p tag args) s = .next (s.answer ⟨p, 0x02, tag⟩ .mapInvalid [])) ∧
        (s.map.valid = true → s.avp[k].tripOrder = some o.number →
          (s.avp[k].state = .latched →
            exec (.orderLift p tag args) s = .next (((s.retire o.number .pathCleared).setPath k
              { s.avp[k] with state := .quiet, tripOrder := none, released := false }).answer ⟨p, 0x02, tag⟩ .ok
                (put16 o.number))) ∧
          (s.avp[k].state ≠ .latched →
            exec (.orderLift p tag args) s = .next (s.answer ⟨p, 0x02, tag⟩ .pathActive []))) ∧
        (s.map.valid = true → s.avp[k].tripOrder = none → s.avp[k].holdOrder = some o.number →
          s.avp[k].state = .hold ∨ s.avp[k].state = .holdPending →
          (s.avp[k].released = true ∧ s.avp[k].zone = some .trip →
            exec (.orderLift p tag args) s = .next (s.answer ⟨p, 0x02, tag⟩ .pathActive [])) ∧
          (¬(s.avp[k].released = true ∧ s.avp[k].zone = some .trip) →
            exec (.orderLift p tag args) s = .next (((s.retire o.number .holdEnded).setPath k
              { s.avp[k] with state := .quiet, holdOrder := none, timer := none, released := false }).answer
                ⟨p, 0x02, tag⟩ .ok (put16 o.number)))) ∧
        (s.map.valid = true → s.avp[k].tripOrder ≠ some o.number → s.avp[k].holdOrder ≠ some o.number →
          exec (.orderLift p tag args) s =
            .next ((s.retire o.number (.lifted p)).answer ⟨p, 0x02, tag⟩ .ok (put16 o.number)))))) ∧
  (∀ (n : Nat) (r : EndReason) (s : State),
    (s.ord.find n = none → s.retire n r = s) ∧
    (∀ o : Order, s.ord.find n = some o →
      s.retire n r = ({ s with
        ord := { s.ord with table := s.ord.table.filter (fun y => y.number != n) }
        rsv := { s.rsv with dirty := true } } : State).record (.orderEnded n o.issuer o.content.kind r) ∧
      (s.retire n r).ord.find n = none ∧
      ∀ m, m ≠ n → (s.retire n r).ord.find m = s.ord.find m))

/-- Each second the corridor clock counts one, up to its last value, and every entry is carried by R29 and R30, in
ascending order of number (the model's choice, notes/assumptions/28.md): an entry that has ended is retired, one whose start
comes at that same second included (R24 caps an end at 4294967295; the same entry of the log), one that enters
ACTIVE takes the next stamp, and a change of state records ORDER_STATE and marks RSV dirty; nothing but the clock, the table,
the dirty flag and the ports changes. -/
def Obligations.ClockTickCarriesTheOrders : Prop :=
  (∀ s : State,
    (s.img.clock = 4294967295 → exec .clockTick s = .next s) ∧
    (s.img.clock < 4294967295 → s.powered = true → s.ascending → ∃ t, exec .clockTick s = .next t ∧
      t = { s with img := { s.img with clock := s.img.clock + 1 }, ord := t.ord
                   rsv := { s.rsv with dirty := t.rsv.dirty }, prt := t.prt } ∧
      t.ord.counter = s.ord.counter ∧
      (∀ o ∈ s.ord.table, State.carried (s.img.clock + 1) o (t.ord.find o.number)) ∧
      t = s.ord.table.foldl (State.advanceOrder (s.img.clock + 1))
        { s with img := { s.img with clock := s.img.clock + 1 } })) ∧
  (∀ (now : Nat) (o e : Order) (s : State),
    (o.ended now = true → State.advanceOrder now s o = s.retire o.number .expired) ∧
    (o.ended now = false → o.state ≠ .active → o.started now = true →
      e = { o with state := .active, stamp := if s.ord.stamps < 4294967295 then s.ord.stamps + 1 else 1 } →
      State.advanceOrder now s o = ({ s with
        ord := { s.ord with
          table := s.ord.table.map (fun y => if y.number = o.number then e else y), stamps := e.stamp }
        rsv := { s.rsv with dirty := true } } : State).record (.orderState o.number .active e.stamp)) ∧
    (o.ended now = false → o.state = .scheduled → o.started now = false → o.windowOpen now = true →
      e = { o with state := .announced } →
      State.advanceOrder now s o = ({ s with
        ord := { s.ord with table := s.ord.table.map (fun y => if y.number = o.number then e else y) }
        rsv := { s.rsv with dirty := true } } : State).record (.orderState o.number .announced o.stamp)) ∧
    (o.ended now = false →
      o.state = .active ∨ (o.started now = false ∧ (o.state = .announced ∨ o.windowOpen now = false)) →
      State.advanceOrder now s o = s))

/-- TIME_SET sets the clock, clears TIME_UNSET, carries every entry by R35 or R36 in ascending order of number, and replies
with the time. The notices of the jump carry the new time and the TIME_UNSET flag as it was, since the flag is cleared after
them (the model's inference, notes/assumptions/13.md). An ANNOUNCED entry whose window no longer holds returns to SCHEDULED
with its event; TIME_READ replies with the clock and the flag. -/
def Obligations.TimeSetJumpsTheClock : Prop :=
  (∀ (p : Port) (tag : Byte) (args : List Byte) (s : State), s.takes p .timeSet args → s.ascending →
    ∃ t : State, exec (.timeSet p tag args) s = .next (t.answer ⟨p, 0x12, tag⟩ .ok (put32 (get32 args 0))) ∧
      t = { s with img := { s.img with clock := get32 args 0, timeUnset := false }, ord := t.ord
                   rsv := { s.rsv with dirty := t.rsv.dirty }, prt := t.prt } ∧
      (get32 args 0 = s.img.clock → t.ord = s.ord ∧ t.rsv = s.rsv ∧ t.prt = s.prt) ∧
      (s.img.clock < get32 args 0 →
        (∀ o ∈ s.ord.table, State.carried (get32 args 0) o (t.ord.find o.number)) ∧
        ∀ u, u = s.ord.table.foldl (State.advanceOrder (get32 args 0))
            { s with img := { s.img with clock := get32 args 0 } } →
          t = { u with img := { u.img with timeUnset := false } }) ∧
      (get32 args 0 < s.img.clock →
        (∀ o ∈ s.ord.table, State.takenBack (get32 args 0) o (t.ord.find o.number)) ∧
        ∀ u, u = s.ord.table.foldl (State.rewindOrder (get32 args 0))
            { s with img := { s.img with clock := get32 args 0 } } →
          t = { u with img := { u.img with timeUnset := false } })) ∧
  (∀ (now : Nat) (o e : Order) (s : State), e = { o with state := .scheduled } →
    (o.state = .announced → o.windowOpen now = false →
      State.rewindOrder now s o = ({ s with
        ord := { s.ord with table := s.ord.table.map (fun y => if y.number = o.number then e else y) }
        rsv := { s.rsv with dirty := true } } : State).record (.orderState o.number .scheduled o.stamp)) ∧
    (o.state ≠ .announced ∨ o.windowOpen now = true → State.rewindOrder now s o = s)) ∧
  (∀ (p : Port) (tag : Byte) (s : State), s.takes p .timeRead [] →
    exec (.timeRead p tag []) s =
      .next (s.answer ⟨p, 0x13, tag⟩ .ok (put32 s.img.clock ++ putFlag s.img.timeUnset)))

/-- ORDER_READ replies with the record of an entry, ORDER_LIST with up to 8 records in ascending order and a flag for more,
ASPECT_READ with the generation, the map state and up to eight segments, each with its S and then its N record; none
changes anything else. -/
def Obligations.OrderAndAspectReads : Prop :=
  ((∀ (p : Port) (tag : Byte) (args : List Byte) (s : State), s.takes p .orderRead args →
    (∀ o, s.ord.find (get16 args 0) = some o →
      exec (.orderRead p tag args) s = .next (s.answer ⟨p, 0x03, tag⟩ .ok o.bytes)) ∧
    (s.ord.find (get16 args 0) = none →
      exec (.orderRead p tag args) s = .next (s.answer ⟨p, 0x03, tag⟩ .notFound []))) ∧
  (∀ (p : Port) (tag : Byte) (args : List Byte) (s : State) (l : List Order), s.takes p .orderList args →
    l = s.ord.table.filter (fun o => decide (get16 args 0 ≤ o.number)) →
    exec (.orderList p tag args) s = .next (s.answer ⟨p, 0x04, tag⟩ .ok
      (put8 (min 8 l.length) ++ putFlag (decide (8 < l.length)) ++ (l.take 8).flatMap Order.bytes))) ∧
  (∀ o : Order, o.bytes.length = 26)) ∧
  ((∀ (p : Port) (tag : Byte) (args : List Byte) (s : State) (first last n : Nat), s.takes p .aspectRead args →
    first = get8 args 0 → last = get8 args 1 → n = min 8 (last + 1 - first) →
    (first ≤ last → last < (if s.map.valid then s.img.nseg else 16) →
      exec (.aspectRead p tag args) s = .next (s.answer ⟨p, 0x05, tag⟩ .ok
        (put16 s.rsv.generation ++ putFlag (!s.map.valid) ++ put8 first ++ put8 (2 * n) ++
          putFlag (decide (first + n ≤ last)) ++
          (List.range n).flatMap (fun j =>
            (s.aspectAt (first + j) .S).bytes ++ (s.aspectAt (first + j) .N).bytes)))) ∧
    (¬(first ≤ last ∧ last < (if s.map.valid then s.img.nseg else 16)) →
      exec (.aspectRead p tag args) s = .next (s.answer ⟨p, 0x05, tag⟩ .badRange []))) ∧
  (∀ a : Aspect, a.bytes.length = 13))
/-! ### The aspect resolver -/

/-- R45: a record that no ACTIVE CLOSE entry covers is open; otherwise it is closed by order, with the highest-ranked
reason of those entries, and the emergency flag of any of them. -/
def Obligations.ClosureByOrder : Prop :=
  ∀ (p : PassCopy) (seg : Nat) (d : Dir),
    ((¬∃ o ∈ p.orders, o.counts .active seg d ∧ ∃ r, o.content = .close r) →
      p.byOrder seg d = ⟨.no, none, false⟩) ∧
    ((∃ o ∈ p.orders, o.counts .active seg d ∧ ∃ r, o.content = .close r) →
      (p.byOrder seg d).closed = .byOrder ∧
      (∃ r, (p.byOrder seg d).reason = some r ∧
        (∃ o ∈ p.orders, o.counts .active seg d ∧ o.content = .close r) ∧
        ∀ o ∈ p.orders, o.counts .active seg d → ∀ r', o.content = .close r' → r.num ≤ r'.num) ∧
      ((p.byOrder seg d).emergency = true ↔
        ∃ o ∈ p.orders, o.counts .active seg d ∧ (∃ r, o.content = .close r) ∧ o.emergency = true))

/-- R46: in direction S the last record stands as the first step set it; a record without a turn point whose record ahead
is closed is closed by propagation, or keeps its own closure and takes the emergency flag; direction N is the mirror image.
The computed record of a present segment is RESOLVED with that closure, and stands in the work copy at its index; an absent
segment has no computed record. -/
def Obligations.ClosureCarriesBack : Prop :=
  (∀ p : PassCopy,
    (p.closures .S).length = p.segments.length ∧
    (∀ n, p.segments.length = n + 1 → (p.closures .S)[n]? = some (p.byOrder n .S)) ∧
    (∀ (s : Nat) (g : PassSegment) (ahead : Closure), s + 1 < p.segments.length → p.segments[s]? = some g →
      (p.closures .S)[s + 1]? = some ahead →
      (ahead.closed = .no ∨ g.turn = true → (p.closures .S)[s]? = some (p.byOrder s .S)) ∧
      (ahead.closed ≠ .no → g.turn = false →
        ((p.byOrder s .S).closed = .no →
          (p.closures .S)[s]? = some ⟨.byPropagation, ahead.reason, ahead.emergency⟩) ∧
        ((p.byOrder s .S).closed = .byOrder →
          (p.closures .S)[s]? = some ⟨.byOrder, (p.byOrder s .S).reason,
            (p.byOrder s .S).emergency || ahead.emergency⟩)))) ∧
  (∀ p : PassCopy,
    (p.closures .N).length = p.segments.length ∧
    (0 < p.segments.length → (p.closures .N)[0]? = some (p.byOrder 0 .N)) ∧
    (∀ (s : Nat) (g : PassSegment) (ahead : Closure), p.segments[s + 1]? = some g →
      (p.closures .N)[s]? = some ahead →
      (ahead.closed = .no ∨ g.turn = true → (p.closures .N)[s + 1]? = some (p.byOrder (s + 1) .N)) ∧
      (ahead.closed ≠ .no → g.turn = false →
        ((p.byOrder (s + 1) .N).closed = .no →
          (p.closures .N)[s + 1]? = some ⟨.byPropagation, ahead.reason, ahead.emergency⟩) ∧
        ((p.byOrder (s + 1) .N).closed = .byOrder →
          (p.closures .N)[s + 1]? = some ⟨.byOrder, (p.byOrder (s + 1) .N).reason,
            (p.byOrder (s + 1) .N).emergency || ahead.emergency⟩)))) ∧
  (∀ (p : PassCopy) (published : Vector Aspect 32) (seg : Nat) (d : Dir),
    (p.segments[seg]? = none → p.record seg d = none) ∧
    (∀ g, p.segments[seg]? = some g → ∃ (c : Closure) (a : Aspect),
      (p.closures d)[seg]? = some c ∧ p.record seg d = some a ∧ a.resolved = true ∧ a.closed = c.closed ∧
      a.reason = c.reason ∧ a.emergency = c.emergency ∧
      ∀ i : Fin 32, i.val = (match d with
          | .S => 2 * seg
          | .N => 2 * seg + 1) → (p.work published)[i] = a))

/-- R47: the avalanche level is the highest of the ACTIVE AVWARN entries that cover a record, and the restrictions are the
union of the ACTIVE RESTRICT entries that cover it, whatever its closed field. -/
def Obligations.LevelAndRestrictions : Prop :=
  ∀ (p : PassCopy) (seg : Nat) (d : Dir) (a : Aspect), p.record seg d = some a →
    (∀ o ∈ p.orders, o.counts .active seg d → ∀ v, o.content = .avwarn v → v ≤ a.level) ∧
    (a.level = 0 ∨ ∃ o ∈ p.orders, o.counts .active seg d ∧ o.content = .avwarn a.level) ∧
    (a.restr.chains = true ↔
      ∃ o ∈ p.orders, o.counts .active seg d ∧ ∃ r, o.content = .restrict r ∧ r.chains = true) ∧
    (a.restr.noHgv = true ↔
      ∃ o ∈ p.orders, o.counts .active seg d ∧ ∃ r, o.content = .restrict r ∧ r.noHgv = true) ∧
    (a.restr.noTrailer = true ↔
      ∃ o ∈ p.orders, o.counts .active seg d ∧ ∃ r, o.content = .restrict r ∧ r.noTrailer = true)

/-- R48, R50 and R51: the speed is the lowest of the base speed and the ACTIVE SPEED entries, the announced closure the
earliest start of the ANNOUNCED CLOSE entries, and the condition the class of the segment's station. -/
def Obligations.SpeedAnnouncementAndCondition : Prop :=
  ∀ (p : PassCopy) (seg : Nat) (d : Dir) (a : Aspect) (g : PassSegment), p.record seg d = some a →
    p.segments[seg]? = some g →
    (∀ v, g.base = some v → ∃ n, a.speed = some n ∧ n ≤ v) ∧
    (∀ o ∈ p.orders, o.counts .active seg d → ∀ v, o.content = .speed v → ∃ n, a.speed = some n ∧ n ≤ v) ∧
    (∀ n, a.speed = some n →
      g.base = some n ∨ ∃ o ∈ p.orders, o.counts .active seg d ∧ o.content = .speed n) ∧
    (∀ o ∈ p.orders, o.counts .announced seg d → (∃ r, o.content = .close r) → ∀ t, o.start = some t →
      ∃ n, a.announced = some n ∧ n ≤ t) ∧
    (∀ n, a.announced = some n →
      ∃ o ∈ p.orders, o.counts .announced seg d ∧ (∃ r, o.content = .close r) ∧ o.start = some n) ∧
    (g.station = none → a.condition = .none) ∧
    (∀ k, g.station = some k → a.condition = (match p.classes.getD k .unknown with
      | .clear => .clear
      | .near => .near
      | .freeze => .freeze
      | .unknown => .unknown))

/-- R49: the notice is that of the covering ACTIVE NOTICE entry with the highest stamp, then the highest number, with that
stamp; it is none when no such entry covers the record. -/
def Obligations.NoticeOfTheHighestStamp : Prop :=
  ∀ (p : PassCopy) (seg : Nat) (d : Dir) (a : Aspect), p.record seg d = some a →
    ((¬∃ o ∈ p.orders, o.counts .active seg d ∧ ∃ id, o.content = .notice id) → a.notice = none) ∧
    ((∃ o ∈ p.orders, o.counts .active seg d ∧ ∃ id, o.content = .notice id) →
      ∃ o ∈ p.orders, o.counts .active seg d ∧ (∃ id, o.content = .notice id ∧ a.notice = some (id, o.stamp)) ∧
        ∀ q ∈ p.orders, q.counts .active seg d → (∃ id, q.content = .notice id) →
          q.stamp < o.stamp ∨ (q.stamp = o.stamp ∧ q.number ≤ o.number))

/-- A pass begins when the dirty flag is set, no pass is in flight and the map is valid: the flag is cleared and the
inputs are copied. Otherwise nothing begins. -/
def Obligations.PassBeginsWhenDirty : Prop :=
  ∀ s : State, s.powered = true →
    (s.rsv.dirty = true → s.rsv.pass = none → s.map.valid = true → ∃ p : PassCopy,
      exec .passBegin s = .next { s with rsv := { s.rsv with dirty := false, pass := some p } } ∧
      p.orders = s.ord.table.map (fun o => { number := o.number, content := o.content, first := o.first, last := o.last
                                             dirs := o.dirs, emergency := o.emergency, start := o.start
                                             state := o.state, stamp := o.stamp }) ∧
      p.segments.length = s.img.nseg ∧
      (∀ (i : Nat) (g : PassSegment), s.img.segment? i = some g → p.segments[i]? = some g) ∧
      (∀ k : Fin 6, p.classes[k.val]? = some (s.cnd[k]).cls)) ∧
    (s.rsv.dirty = false ∨ s.rsv.pass ≠ none ∨ s.map.valid = false → exec .passBegin s = .next s)

/-- A completed pass that differs is published with the next generation, recorded as ASPECT_CHANGED and handed to the gates in
use, to the signs whose element list it changes and to the paths in HOLD_PENDING; one that does not differ changes nothing but
the pass. The mask of ASPECT_CHANGED marks exactly the records that differ. What each part does is spelled for every state:
the table and its event; each gate in use, which acts on a new demand, or on a new emergency flag in PREWARN, by R113, R115 and
R117 to R120, the states that it enters carried out one by one as `GateInputsMoveTheGate` says of `State.enterGate`; the signs
that join; the paths are tested as `HoldIsConfirmedOrFails` says of `State.publishToPaths`. That GTC, SCP and AVP act in this
order and gates in ascending order (notes/assumptions/9.md) and that each state of a chain is reported before the next is
entered (notes/assumptions/14.md) are the model's choices; that no countdown kind and no remaining time stand in phase
OBSTRUCTED is its inference (notes/assumptions/31.md). -/
def Obligations.PassCompletionPublishes : Prop :=
  (∀ (s t u : State) (p : PassCopy), s.powered = true → s.rsv.pass = some p →
    (p.work s.rsv.published = s.rsv.published →
      exec .passCompletion s = .next { s with rsv := { s.rsv with pass := none } }) ∧
    (p.work s.rsv.published ≠ s.rsv.published →
      u = ({ s with rsv := { s.rsv with pass := none } } : State).publishTable (p.work s.rsv.published) →
      t = u.publishToGates.publishToSigns.publishToPaths → exec .passCompletion s = .next t ∧
      t = { s with rsv := { published := p.work s.rsv.published, generation := (s.rsv.generation + 1) % 65536
                            dirty := s.rsv.dirty, pass := none }
                   scp := { s.scp with queue := t.scp.queue }, gtc := t.gtc, avp := t.avp, prt := t.prt } ∧
      (∀ (g : Fin 8) (r : GateRec), s.map.valid = true → s.gate? g.val = some r →
        (t.gtc[g]).demand = some (if (t.aspectAt r.seg r.dir).closed = .no then .opened else .closed) ∧
        (t.gtc[g]).emergency = (t.aspectAt r.seg r.dir).emergency ∧
        (t.gtc[g]).demandGen = some t.rsv.generation ∧
        t.gtc[g] = Gate.final ((s.gtc[g]).publish r (r.approach.all s.signConfirmed)
          (if (t.aspectAt r.seg r.dir).closed = .no then .opened else .closed) (t.aspectAt r.seg r.dir).emergency
          t.rsv.generation)) ∧
      (∀ g : Fin 8, s.map.valid = false ∨ s.gate? g.val = none → t.gtc[g] = s.gtc[g]) ∧
      (∀ i : Fin 24, i ∈ t.scp.queue ↔
        i ∈ s.scp.queue ∨ ∃ r, s.sign? i.val = some r ∧ (s.signs[i]).lastList ≠ some (t.elements r)) ∧
      (∀ (k : Fin 12) (r : PathRec), s.path? k.val = some r → (t.avp[k]).state = .holdPending →
        t.unmetItem r ≠ none)) ∧
    (∀ (i : Fin 32), p.record (i.val / 2) (if i.val % 2 = 0 then .S else .N) = none →
      (p.work s.rsv.published)[i] = s.rsv.published[i])) ∧
  (∀ (w : Vector Aspect 32) (s : State), ∃ mask : BitVec 32,
    s.publishTable w = ({ s with rsv := { s.rsv with
      published := w, generation := (s.rsv.generation + 1) % 65536 } } : State).record
        (.aspectChanged ((s.rsv.generation + 1) % 65536) mask) ∧
    ∀ i : Fin 32, mask.getLsbD i.val = true ↔ s.rsv.published[i] ≠ w[i]) ∧
  (∀ s : State, s.publishToGates = (List.finRange 8).foldl State.publishToGate s ∧
    (∀ g : Fin 8, s.map.valid = false ∨ s.gate? g.val = none → s.publishToGate g = s) ∧
    (∀ (g : Fin 8) (r : GateRec) (m : Gate × List Gate), s.map.valid = true → s.gate? g.val = some r →
      m = (s.gtc[g]).publish r (r.approach.all s.signConfirmed)
        (if (s.aspectAt r.seg r.dir).closed = .no then .opened else .closed) (s.aspectAt r.seg r.dir).emergency
        s.rsv.generation →
      (m.2 = [] → s.publishToGate g = s.setGate g m.1) ∧
      (m.2 ≠ [] → s.publishToGate g = m.2.foldl (State.enterGate g) s)) ∧
    s.publishToSigns = { s with scp := { s.scp with
      queue := s.scp.queue ++ (List.finRange 24).filter (fun i => match s.sign? i.val with
        | some r => decide (i ∉ s.scp.queue ∧ (s.signs[i]).lastList ≠ some (s.elements r))
        | none => false) } }) ∧
  (∀ (r : GateRec) (signs e : Bool) (gen : Nat) (d : Demand) (x y : Gate) (m : Gate × List Gate),
    y = { x with demand := some d, emergency := e, demandGen := some gen } → m = x.publish r signs d e gen →
    (x.demand = some d → e = false ∨ x.emergency = true ∨ x.state ≠ .prewarn → m = (y, [])) ∧
    (x.demand = some d → e = true → x.emergency = false → x.state = .prewarn →
      (∀ n : Nat, (x.phase = some .signWait ∧ n = min r.prewarn r.emergency) ∨
          (x.phase = some .countdown ∧ x.countKind = some .normal ∧ n = min x.remaining r.emergency) →
        (0 < n → m = ({ y with phase := some .countdown, countKind := some .emergency, remaining := n
                               signTimer := none }, [])) ∧
        (n = 0 → x.obstruction = true → m = ({ y with phase := some .obstructed, countKind := none, remaining := 0
                                                      signTimer := none }, [])) ∧
        (n = 0 → x.obstruction = false → m.2 = y.closes r)) ∧
      (x.phase ≠ some .signWait → x.phase ≠ some .countdown ∨ x.countKind ≠ some .normal → m = (y, []))) ∧
    (x.demand ≠ some d → d = .closed →
      ((x.state = .opened ∧ x.inhibit = false) ∨ x.state = .opening → ∀ z : Gate, z = y.prewarned r signs →
        (e = false ∨ 0 < r.emergency ∨ x.obstruction = true → m.2 = [z]) ∧
        (e = true → r.emergency = 0 → x.obstruction = false → m.2 = z :: z.closes r)) ∧
      ((x.state = .opened ∧ x.inhibit = true) ∨ (x.state ≠ .opened ∧ x.state ≠ .opening) → m = (y, []))) ∧
    (x.demand ≠ some d → d = .opened →
      ((x.state = .prewarn ∧ x.openLimit = true) ∨ (x.state = .blocked ∧ x.retryTimer.isSome = true) →
        m.2 = [{ y.halted .opened none with retries := 0 }]) ∧
      ((x.state = .prewarn ∧ x.openLimit = false) ∨ x.state = .closing ∨ (x.state = .blocked ∧ x.retryTimer = none) ∨
          (x.state = .closed ∧ x.inhibit = false) → m.2 = y.opens r) ∧
      ((x.state = .closed ∧ x.inhibit = true) ∨ x.state = .opened ∨ x.state = .opening ∨ x.state = .fault →
        m = (y, []))))

/-! ### Measurement and condition -/

/-- The scan timer restarts at its expiry; in IDLE a scan begins on a copy of the channel table, with channels 0 and 1 and
then each enabled channel ascending, and with the ring of a channel newly enabled emptied. -/
def Obligations.ScanTimerBeginsAScan : Prop :=
  ∀ s : State, s.powered = true →
    (s.mea.scan ≠ none → exec .scanTimerExpiry s = .next { s with mea := { s.mea with scanTimer := 0 } }) ∧
    (s.mea.scan = none → ∃ n : Scan,
      exec .scanTimerExpiry s = .next { s with mea := { s.mea with
        scanTimer := 0, lastEnables := Vector.ofFn (fun c : Fin 16 => (s.mea.table[c]).enable), scan := some n } } ∧
      n.copy = s.mea.table ∧ n.cref = none ∧ n.got = [] ∧ n.k = s.mea.k ∧ n.uncorrected = false ∧
      (∀ c : Fin 16, c ∈ n.todo ↔ c.val ≤ 1 ∨ (s.mea.table[c]).enable = true) ∧
      n.todo.Pairwise (fun a b => a.val < b.val) ∧
      (∀ c : Fin 16, n.work[c] =
        (if 2 ≤ c.val ∧ (s.mea.table[c]).enable = true ∧ s.mea.lastEnables[c] = false then
          { s.mea.chans[c] with ring := [], miss := 0 } else s.mea.chans[c])))

/-- A conversion that is not the last of its scan: the reference gives Cref and decides whether the scan is good; a
channel passes the five stages; channel 1 then gives the cabinet code, and a cabinet conversion that overranges gives no
result but its count (the model's choice for the last N, notes/assumptions/29.md). -/
def Obligations.ConversionPassesTheStages : Prop :=
  ∀ (s : State) (n n' : Scan) (c : Fin 16) (rest : List (Fin 16)) (i : Instr) (count : Nat) (ovf : Bool),
    s.powered = true → s.mea.scan = some n → n.todo = c :: rest → conversionOf i = some (count, ovf) →
    n' = n.convert s.img count ovf →
    (n'.todo ≠ [] → exec i s = .next { s with mea := { s.mea with scan := some n' } }) ∧
    (c = 0 → n' = { n with
      work := setAt n.work 0 { n.work[(0 : Fin 16)] with lastCount := some count }
      cref := some count, todo := if 8192 ≤ count ∧ count ≤ 60000 then rest else [] }) ∧
    (2 ≤ c.val → ∃ ratio N T V R : Int,
      ratio = roundDiv (count * 8192) (n.cref.getD 8192) ∧ N = max 0 (min 32767 ratio) ∧
      T = roundDiv ((N - (n.copy[c]).trim.offset) * (n.copy[c]).trim.gain) 2048 ∧
      V = (if c.val ≤ 13 then T - roundDiv (driftOf (n.copy[c]).trim n.k) 64 else T) ∧
      R = (if c.val ≤ 13 then max (-600) (min 800 V) else max 0 (min 4095 V)) ∧
      n' = { n with
        todo := rest, got := n.got ++ [c]
        work := setAt n.work c { n.work[c] with
          lastCount := some count, lastN := some N.toNat, result := some R
          flags := ⟨ovf, decide (N ≠ ratio ∨ R ≠ V), (n.copy[c]).defaulted, decide (c.val ≤ 13) && n.uncorrected⟩
          ring := ((n.work[c]).ring ++ [R]).drop ((n.work[c]).ring.length + 1 - s.img.depth c.val) } }) ∧
    (c = 1 → ovf = false → ∃ ratio N T R : Int, ∃ x : Chan,
      ratio = roundDiv (count * 8192) (n.cref.getD 8192) ∧ N = max 0 (min 32767 ratio) ∧
      T = roundDiv ((N - (n.copy[c]).trim.offset) * (n.copy[c]).trim.gain) 2048 ∧ R = max (-600) (min 800 T) ∧
      x = { n.work[c] with
        lastCount := some count, lastN := some N.toNat, result := some R
        flags := ⟨false, decide (N ≠ ratio ∨ R ≠ T), (n.copy[c]).defaulted, false⟩
        ring := ((n.work[c]).ring ++ [R]).drop ((n.work[c]).ring.length + 1 - s.img.depth 1) } ∧
      n' = { n with
        todo := rest, got := n.got ++ [1], work := setAt n.work 1 x, uncorrected := false
        k := (max 0 (min 199 (roundDiv ((meanOf x.ring).getD 0 + 450) 5))).toNat }) ∧
    (c = 1 → ovf = true → n' = { n with
      todo := rest, work := setAt n.work 1 { n.work[c] with lastCount := some count }
      k := if (n.work[c]).ring = [] ∨ 2 ≤ (n.work[c]).miss then 130 else n.k
      uncorrected := decide ((n.work[c]).ring = [] ∨ 2 ≤ (n.work[c]).miss) })

/-- The last conversion of a scan publishes it: the scan number, the reference state, the cabinet code of a good scan, the
quality and miss count of every channel, the light level of every sign with the job of a level that changes, and the class
and the snow flag of every station. The stations are handed over in ascending order (the model's choice,
notes/assumptions/9.md): each records a changed quality, takes its class and its snow flag, records a changed class and
marks RSV dirty, and then makes its requests, as `ClassAndWindRules` says of `State.conclude`. The signs follow in ascending
order: of a sign in use the light value and the level change and nothing else, a level that changes goes into the waiting job
of the sign or joins the tail of its line's queue as a brightness job, unless the sign is OFFLINE; a sign that is not in use,
and the other line's queue, stay as they were. -/
def Obligations.ScanCompletionIsPublished : Prop :=
  (∀ (s : State) (n n' : Scan) (i : Instr) (count : Nat) (ovf : Bool),
    s.powered = true → s.mea.scan = some n → conversionOf i = some (count, ovf) → n' = n.convert s.img count ovf →
    n'.todo = [] → ∃ t, exec i s = .next t ∧
      t = { s with mea := t.mea, cnd := t.cnd, ord := t.ord, rsv := { s.rsv with dirty := t.rsv.dirty }, prt := t.prt
                   signs := t.signs, flc := t.flc } ∧
      t = State.lightToSigns ((List.finRange 6).foldl State.handStation { s with mea := t.mea }) ∧
      t.mea = { s.mea with
        scan := none, chans := t.mea.chans, scanNumber := (s.mea.scanNumber + 1) % 65536, lastGood := some n'.good
        refFaults := if n'.good then 0 else if 255 < s.mea.refFaults + 1 then 255 else s.mea.refFaults + 1
        k := if n'.good then n'.k else s.mea.k } ∧
      (t.mea.chans[(0 : Fin 16)] = n'.work[(0 : Fin 16)]) ∧
      (∀ c : Fin 16, c ≠ 0 →
        (c ∈ n'.got → t.mea.chans[c] = { n'.work[c] with quality := .fresh, miss := 0 }) ∧
        (c ∉ n'.got → c.val = 1 ∨ (n'.copy[c]).enable = true → ∀ m, m = min 3 ((n'.work[c]).miss + 1) →
          t.mea.chans[c] = { n'.work[c] with
            quality := if (n'.work[c]).ring = [] ∨ m = 3 then .stale else .held, miss := m }) ∧
        (c ∉ n'.got → c.val ≠ 1 → (n'.copy[c]).enable = false →
          t.mea.chans[c] = { n'.work[c] with quality := .stale, miss := 3 })) ∧
      (∀ jobs : Line → Fin 24 → List Job, (∀ x j, jobs x j = x.queue.filter (fun y => decide (y.sign = j))) →
        ∀ j : Fin 24,
        (s.sign? j.val = none → t.signs[j] = s.signs[j] ∧ ∀ l : Fin 2, jobs t.flc[l] j = jobs s.flc[l] j) ∧
        (∀ (r : SignRec) (v : Option Int) (n : Nat), s.sign? j.val = some r →
          (∀ c : Fin 16, c.val = r.light → v = meanOf (t.mea.chans[c]).ring) → (16 ≤ r.light → v = none) →
          n = (match v with
            | none => 16
            | some m => 1 + (s.img.thresholds.filter (fun x => decide ((x : Int) ≤ m))).length) →
          t.signs[j] = { s.signs[j] with light := v, brightness := n } ∧
          (∀ l : Fin 2, l ≠ r.lineIndex → jobs t.flc[l] j = jobs s.flc[l] j) ∧
          jobs t.flc[r.lineIndex] j =
            (if n = (s.signs[j]).brightness ∨ (s.signs[j]).link = .offline then jobs s.flc[r.lineIndex] j
            else if jobs s.flc[r.lineIndex] j = [] then [⟨j, .bright, n⟩]
            else (jobs s.flc[r.lineIndex] j).map (fun y => { y with level := n })))) ∧
      (∀ l : Fin 2, t.flc[l] = { s.flc[l] with queue := (t.flc[l]).queue } ∧
        (s.flc[l]).queue.map Job.sign <+: (t.flc[l]).queue.map Job.sign) ∧
      (∀ (k : Fin 6) (r : StationRec), s.station? k.val = some r →
        (t.cnd[k]).surface = (t.surfaceChan k).quality ∧ (t.cnd[k]).air = (t.airChan k).quality ∧
        ((t.surfaceChan k).quality = .stale → (t.cnd[k]).cls = .unknown) ∧
        ((t.surfaceChan k).quality = .held → (t.cnd[k]).cls = (s.cnd[k]).cls) ∧
        (∀ ts, (t.surfaceChan k).quality = .fresh → meanOf (t.surfaceChan k).ring = some ts →
          (t.cnd[k]).cls = ((s.cnd[k]).fresh r ts).cls) ∧
        (∀ ta, (t.airChan k).quality = .fresh → meanOf (t.airChan k).ring = some ta →
          (t.cnd[k]).snow = decide (ta ≤ r.snow)) ∧
        ((t.airChan k).quality = .held → (t.cnd[k]).snow = (s.cnd[k]).snow) ∧
        ((t.airChan k).quality = .stale → (t.cnd[k]).snow = false))) ∧
  (∀ s : State, State.lightToSigns s = (List.finRange 24).foldl State.lightToSign s) ∧
  (∀ (j : Fin 24) (s : State),
    (s.sign? j.val = none → State.lightToSign s j = s) ∧
    (∀ (r : SignRec) (v : Option Int) (n : Nat) (u : State), s.sign? j.val = some r →
      (∀ c : Fin 16, c.val = r.light → v = meanOf (s.mea.chans[c]).ring) → (16 ≤ r.light → v = none) →
      n = (match v with
        | none => 16
        | some m => 1 + (s.img.thresholds.filter (fun x => decide ((x : Int) ≤ m))).length) →
      u = s.setSign j { s.signs[j] with light := v, brightness := n } →
      (n = (s.signs[j]).brightness ∨ (s.signs[j]).link = .offline → State.lightToSign s j = u) ∧
      (n ≠ (s.signs[j]).brightness → (s.signs[j]).link ≠ .offline →
        State.lightToSign s j = u.setLine r.lineIndex { s.flc[r.lineIndex] with
          queue := if j ∈ (s.flc[r.lineIndex]).queue.map Job.sign then
              (s.flc[r.lineIndex]).queue.map (fun y => if y.sign = j then { y with level := n } else y)
            else (s.flc[r.lineIndex]).queue ++ [⟨j, .bright, n⟩] }))) ∧
  (∀ (k : Fin 6) (s : State),
    (s.station? k.val = none → State.handStation s k = s) ∧
    (∀ (r : StationRec) (surface air : Quality) (x y z : Station) (u v : State), s.station? k.val = some r →
      surface = (s.surfaceChan k).quality → air = (s.airChan k).quality →
      x = { s.cnd[k] with surface := surface, air := air } →
      y = (match surface, meanOf (s.surfaceChan k).ring with
        | .fresh, some ts => x.fresh r ts
        | .stale, _ => { x with cls := .unknown, counter := 0, runBest := none, timer := none }
        | _, _ => x) →
      z = (match air, meanOf (s.airChan k).ring with
        | .fresh, some ta => { y with snow := decide (ta ≤ r.snow) }
        | .stale, _ => { y with snow := false }
        | _, _ => y) →
      u = (if (s.cnd[k]).surface = surface ∧ (s.cnd[k]).air = air then s
        else s.record (.stationQuality k.val surface air)).setStation k z →
      v = (if z.cls = (s.cnd[k]).cls then u
        else ({ u with rsv := { u.rsv with dirty := true } } : State).record
          (.stationClass k.val (s.cnd[k]).cls z.cls (if z.cls = .unknown then none else z.margin))) →
      State.handStation s k = State.conclude k r v))

/-- An accepted edge of an anemometer gives the period, CALM none, and a glitch nothing; each second every station with a
wind input takes a sample into its ring of ten, moves its wind state by the gust, records a change with gust and mean, and
makes its requests, as `ClassAndWindRules` says of `State.conclude`. That the count which the edge carries is the period is
the model's choice (notes/assumptions/21.md), as is that CALM acts whenever it comes (notes/assumptions/6.md) and that the
stations sample in ascending order (notes/assumptions/9.md). -/
def Obligations.WindIsSampled : Prop :=
  (∀ s : State, s.powered = true →
    (∀ (i : Fin 3) (count : Fin 65536) (high : Nat),
      (high < 50 → exec (.anemometerEdge i count high) s = .next s) ∧
      (50 ≤ high → exec (.anemometerEdge i count high) s = .next { s with mea := { s.mea with
        anemometers := setAt s.mea.anemometers i
          ⟨0, true, if (s.mea.anemometers[i]).timing then some (max 1 count.val) else none⟩ } })) ∧
    (∀ i : Fin 3, exec (.anemometerCalm i) s = .next { s with mea := { s.mea with
      anemometers := setAt s.mea.anemometers i { timer := 65535, timing := false, period := none } } }) ∧
    (∃ t, exec .windSample s = .next t ∧
      t = { s with mea := { s.mea with wind := t.mea.wind }, cnd := t.cnd, ord := t.ord
                   rsv := { s.rsv with dirty := t.rsv.dirty }, prt := t.prt } ∧
      t = (List.finRange 6).foldl State.sampleStation s ∧
      (∀ (k : Fin 6) (r : StationRec) (i : Fin 3) (w : WindSample), s.station? k.val = some r →
        windInput r = some i →
        w = (match (s.mea.anemometers[i]).period with
          | none => ⟨0, false⟩
          | some P => ⟨min 750 (roundDiv r.a P).toNat, decide (750 < (roundDiv r.a P).toNat)⟩) →
        t.mea.wind[k] = (s.mea.wind[k] ++ [w]).drop (s.mea.wind[k].length + 1 - 10) ∧
        (t.cnd[k]).wind = ((s.cnd[k]).windFrom r ((windGust t.mea.wind[k]).getD 0)).wind) ∧
      (∀ k : Fin 6, (s.station? k.val).bind windInput = none →
        t.mea.wind[k] = s.mea.wind[k] ∧ t.cnd[k] = s.cnd[k]))) ∧
  (∀ (k : Fin 6) (s : State),
    ((s.station? k.val).bind windInput = none → State.sampleStation s k = s) ∧
    (∀ (r : StationRec) (i : Fin 3) (w : WindSample) (ring : List WindSample) (gust mean : Nat) (y : Station) (u : State),
      s.station? k.val = some r → windInput r = some i →
      w = (match (s.mea.anemometers[i]).period with
        | none => ⟨0, false⟩
        | some P => ⟨min 750 (roundDiv r.a P).toNat, decide (750 < (roundDiv r.a P).toNat)⟩) →
      ring = (s.mea.wind[k] ++ [w]).drop (s.mea.wind[k].length + 1 - 10) →
      gust = (ring.map WindSample.speed).foldl max 0 →
      meanOf (ring.map (fun x => (x.speed : Int))) = some (mean : Int) →
      y = (s.cnd[k]).windFrom r gust →
      u = ({ s with mea := { s.mea with wind := setAt s.mea.wind k ring } } : State).setStation k y →
      State.sampleStation s k = State.conclude k r
        (if y.wind = (s.cnd[k]).wind then u else u.record (.windState k.val y.wind gust mean))))

/-- TRIM_SET tests the channel, the values and the enable of channel 1, and replaces the runtime entry of its channel;
CHANNEL_READ replies with the state of a channel. The order and width of its fields, 0xFF for the reference before the first
completed scan, the signed fields of channels 14 and 15, and that an enable byte other than 0 means yes, are the model's
choices (notes/assumptions/12.md). -/
def Obligations.TrimAndChannelRequests : Prop :=
  (∀ (p : Port) (tag : Byte) (args : List Byte) (s : State) (c : Fin 16), s.takes p .trimSet args →
    get8 args 0 = c.val → 1 ≤ c.val →
    (get16 args 1 ≤ 16383 → -4096 ≤ getInt16 args 3 → getInt16 args 3 ≤ 4095 → ¬(c.val = 1 ∧ get8 args 9 = 0) →
      exec (.trimSet p tag args) s = .next (({ s with mea := { s.mea with
        table := setAt s.mea.table c
          ⟨get8 args 9 != 0, ⟨get16 args 1, getInt16 args 3, getInt8 args 5, getInt8 args 6, getInt8 args 7,
            getInt8 args 8⟩, false⟩ } } : State).answer ⟨p, 0x08, tag⟩ .ok [])) ∧
    (16383 < get16 args 1 ∨ getInt16 args 3 < -4096 ∨ 4095 < getInt16 args 3 ∨ (c.val = 1 ∧ get8 args 9 = 0) →
      exec (.trimSet p tag args) s = .next (s.answer ⟨p, 0x08, tag⟩ .badValue []))) ∧
  (∀ (p : Port) (tag : Byte) (args : List Byte) (s : State), s.takes p .trimSet args →
    get8 args 0 = 0 ∨ 15 < get8 args 0 → exec (.trimSet p tag args) s = .next (s.answer ⟨p, 0x08, tag⟩ .badRange [])) ∧
  (∀ (p : Port) (tag : Byte) (args : List Byte) (s : State), s.takes p .channelRead args →
    (15 < get8 args 0 → exec (.channelRead p tag args) s = .next (s.answer ⟨p, 0x07, tag⟩ .badRange [])) ∧
    (get8 args 0 = 0 → exec (.channelRead p tag args) s = .next (s.answer ⟨p, 0x07, tag⟩ .ok
      (putOpt16 (s.mea.chans[(0 : Fin 16)]).lastCount ++
        (match s.mea.lastGood with
          | none => [0xFF#8]
          | some true => [0#8]
          | some false => [1#8]) ++ put8 s.mea.refFaults ++ put16 s.mea.scanNumber))) ∧
    (∀ c : Fin 16, c ≠ 0 → get8 args 0 = c.val →
      exec (.channelRead p tag args) s = .next (s.answer ⟨p, 0x07, tag⟩ .ok
        (putFlag (s.mea.table[c]).enable ++ put8 (s.img.depth c.val) ++ (s.mea.table[c]).trim.bytes ++
          putOpt16 (s.mea.chans[c]).lastCount ++ putOpt16 (s.mea.chans[c]).lastN ++
          putOptInt16 (s.mea.chans[c]).result ++ putOptInt16 (meanOf (s.mea.chans[c]).ring) ++
          put8 (s.mea.chans[c]).quality.num ++ put8 (s.mea.chans[c]).miss ++ put8 (s.mea.chans[c]).ring.length ++
          (s.mea.chans[c]).flagBytes ++ (if c = 1 then put8 s.mea.k else []) ++ put16 s.mea.scanNumber))))

/-- The class of a station follows its freeze margin: a worse raw class counts, and after the confirm count the class
becomes the run best, the least severe class of the run; a better one is taken after the improvement test has held. The wind
state rises with the gust at once, and falls when every sample through the wind hold was below the limit minus the
hysteresis. That the clear-through and normal-through flags keep their values while their timer or count is stopped is the
model's choice (notes/assumptions/16.md). A hand-over then sets the ready flag of its station, clears the suppression flags
whose cause is clear, and makes the requests SPEED, RESTRICT and CLOSE: a wanted value raises unless it is suppressed, and
none retires. A raise of a WX order renews the entry held for the station and kind where its value differs, does nothing
under the suppression flag or without a span (R88 keeps such a station from asking), and otherwise admits a new entry: the
number that `FreshNumberIsFree` gives, a new stamp, the entry in its place in the table, the two counters, ORDER_ADMITTED
and RSV dirty, and nothing else. A retire ends the entry held with CONDITION_CLEARED, as `LiftOfALinkedOrder` says of
`State.retire`. -/
def Obligations.ClassAndWindRules : Prop :=
  (∀ (r : StationRec) (ts m : Int) (raw : RawClass) (x y : Station), m = ts - r.tf →
    raw = (if m ≤ 0 then .freeze else if m ≤ r.band then .near else .clear) →
    y = { x with raw := some raw, margin := some m, counter := 0, runBest := none, timer := none } →
    (x.cls = .unknown → x.fresh r ts = { y with cls := raw.cls }) ∧
    (raw.worseThan x.cls = true → ∀ best : RawClass,
      best = (if x.counter = 0 then raw else match x.runBest with
        | some b => if b.num ≤ raw.num then b else raw
        | none => raw) →
      (x.counter + 1 < r.wc → x.fresh r ts = { y with counter := x.counter + 1, runBest := some best }) ∧
      (r.wc ≤ x.counter + 1 → x.fresh r ts = { y with cls := best.cls })) ∧
    (x.cls ≠ .unknown → raw.worseThan x.cls = false →
      (improves r x.cls m = false → x.fresh r ts = y) ∧
      (improves r x.cls m = true → 0 < r.hold → x.fresh r ts = { y with
        timer := some (x.timer.getD 0)
        clearThrough := if x.cls = .freeze then
            (x.timer.isNone || x.clearThrough) && decide ((r.band : Int) + r.hyst < m)
          else x.clearThrough }) ∧
      (improves r x.cls m = true → r.hold = 0 → x.timer = none →
        (x.fresh r ts).cls = (if x.cls = .freeze ∧ m ≤ (r.band : Int) + r.hyst then .near else .clear) ∧
          (x.fresh r ts).timer = none)) ∧
    (improves r .freeze m = decide ((r.hyst : Int) < m) ∧
      improves r .near m = decide ((r.band : Int) + r.hyst < m) ∧ improves r .clear m = false)) ∧
  (∀ (r : StationRec) (gust n : Nat) (x : Station) (below : Nat → Bool) (through : Bool),
    (∀ limit, below limit = decide ((gust : Int) < (limit : Int) - r.windHyst)) →
    n = (match x.windCount with
      | none => 0
      | some c => c + 1) →
    through = (if x.wind = .storm then (x.windCount.isNone || x.normalThrough) && below r.strong
      else x.normalThrough) →
    (r.storm ≤ gust → x.wind ≠ .storm → x.windFrom r gust = { x with wind := .storm, windCount := none }) ∧
    (gust < r.storm → r.strong ≤ gust → x.wind = .normal →
      x.windFrom r gust = { x with wind := .strong, windCount := none }) ∧
    (gust < r.storm → gust < r.strong → x.wind = .normal → x.windFrom r gust = { x with windCount := none }) ∧
    ((x.wind = .storm ∧ below r.storm = false) ∨ (x.wind = .strong ∧ gust < r.storm ∧ below r.strong = false) →
      x.windFrom r gust = { x with windCount := none }) ∧
    ((x.wind = .storm ∧ below r.storm = true) ∨ (x.wind = .strong ∧ gust < r.storm ∧ below r.strong = true) →
      (n < 60 * r.windHold → x.windFrom r gust = { x with windCount := some n, normalThrough := through }) ∧
      (60 * r.windHold ≤ n → x.windFrom r gust = { x with
        wind := if x.wind = .storm ∧ through = false then .strong else .normal
        windCount := none, normalThrough := through }))) ∧
  (∀ (k : Fin 6) (c : Content) (s : State) (held : Option Order) (dropped : Bool),
    held = s.ord.table.find? (fun y => y.issuer == .wx && y.station == some k.val && y.content.kind == c.kind) →
    dropped = (match c.kind with
      | .speed => (s.cnd[k]).supSpeed
      | .restrict => (s.cnd[k]).supRestrict
      | .close => (s.cnd[k]).supClose
      | .avwarn | .notice => false) →
    (∀ e, held = some e → e.content = c → wxRaise k c s = s) ∧
    (∀ e, held = some e → e.content ≠ c →
      wxRaise k c s = ({ s with
        ord := { table := s.ord.table.map (fun y => if y.number = e.number then { e with content := c } else y)
                 counter := s.ord.counter, stamps := s.ord.stamps }
        rsv := { s.rsv with dirty := true } } : State).record (.orderRenewed { e with content := c })) ∧
    (held = none → dropped = true ∨ s.img.span k.val = none → wxRaise k c s = s) ∧
    (∀ (a b stamp : Nat) (e : Order), held = none → dropped = false → s.img.span k.val = some (a, b) →
      stamp = (if 4294967295 ≤ s.ord.stamps then 1 else s.ord.stamps + 1) →
      e = { number := freeNumber s.ord 65 s.ord.counter, issuer := .wx, content := c, first := a, last := b, dirs := .both
            emergency := false, start := none, finish := none, lead := 0, path := none, station := some k.val
            state := .active, stamp := stamp } →
      wxRaise k c s = ({ s with
        ord := { table := s.ord.table.takeWhile (fun y => decide (y.number ≤ e.number)) ++
                   e :: s.ord.table.dropWhile (fun y => decide (y.number ≤ e.number))
                 counter := e.number, stamps := stamp }
        rsv := { s.rsv with dirty := true } } : State).record (.orderAdmitted e))) ∧
  (∀ (k : Fin 6) (kind : Kind) (s : State) (held : Option Order),
    held = s.ord.table.find? (fun y => y.issuer == .wx && y.station == some k.val && y.content.kind == kind) →
    (∀ e, held = some e → wxRetire k kind s = s.retire e.number .conditionCleared) ∧
    (held = none → wxRetire k kind s = s)) ∧
  (∀ (k : Fin 6) (r : StationRec) (s u : State) (x : Station) (speed restrict close : Option Content)
      (ask : Kind → Option Content → State → State),
    x = { s.cnd[k] with
      ready := (s.cnd[k]).ready || (decide ((s.cnd[k]).cls ≠ .unknown) && (r.wind.isNone || !(s.mea.wind[k]).isEmpty))
      supSpeed := (s.cnd[k]).supSpeed && decide ((s.cnd[k]).cls ≠ .clear)
      supRestrict := (s.cnd[k]).supRestrict &&
        !decide (((s.cnd[k]).cls = .clear ∨ (s.cnd[k]).cls = .near) ∧ (s.cnd[k]).wind = .normal)
      supClose := (s.cnd[k]).supClose && decide ((s.cnd[k]).wind = .storm) } →
    u = s.setStation k x →
    speed = (match x.cls with
      | .freeze => r.freezeSpeed.map .speed
      | .near => r.nearSpeed.map .speed
      | .clear | .unknown => none) →
    restrict = (if (x.snow = true ∧ x.cls = .freeze) ∨ x.wind ≠ .normal then
        some (.restrict ⟨x.snow && decide (x.cls = .freeze), decide (x.wind ≠ .normal), false⟩) else none) →
    close = (if x.wind = .storm then some (.close .wind) else none) →
    (∀ kind v, ask kind none v = wxRetire k kind v) →
    (∀ kind c v, ask kind (some c) v = if (match kind with
      | .speed => (v.cnd[k]).supSpeed
      | .restrict => (v.cnd[k]).supRestrict
      | .close => (v.cnd[k]).supClose
      | .avwarn | .notice => false) = true then v else wxRaise k c v) →
    (s.map.valid = true → (s.img.span k.val).isSome = true → x.cls ≠ .unknown → x.ready = true →
      State.conclude k r s = ask .close close (ask .restrict restrict (ask .speed speed u))) ∧
    (s.map.valid = false ∨ s.img.span k.val = none ∨ x.cls = .unknown ∨ x.ready = false → State.conclude k r s = u))

/-- At the expiry of the improvement timer the class becomes the better one and the timer stops, a change is recorded with
the last margin and marks RSV dirty, and the station makes its requests, as `ClassAndWindRules` says of `State.conclude`.
Without a running timer nothing happens (the model's choice, notes/assumptions/6.md). -/
def Obligations.ImprovementTakesTheBetterClass : Prop :=
  ∀ (k : Fin 6) (s : State), s.powered = true →
    (s.station? k.val = none ∨ (s.cnd[k]).timer = none → exec (.improvementTimerExpiry k) s = .next s) ∧
    (∀ (r : StationRec) (n : Nat) (y : Station) (u : State), s.station? k.val = some r → (s.cnd[k]).timer = some n →
      y = { s.cnd[k] with timer := none, cls := match (s.cnd[k]).cls with
        | .freeze => if (s.cnd[k]).clearThrough then .clear else .near
        | .near => .clear
        | c => c } →
      u = (if y.cls = (s.cnd[k]).cls then s.setStation k y
        else ({ s.setStation k y with rsv := { s.rsv with dirty := true } } : State).record
          (.stationClass k.val (s.cnd[k]).cls y.cls (s.cnd[k]).margin)) →
      ∃ t, exec (.improvementTimerExpiry k) s = .next t ∧ t = State.conclude k r u ∧
        t = { s with cnd := t.cnd, ord := t.ord, rsv := { s.rsv with dirty := t.rsv.dirty }, prt := t.prt } ∧
        (t.cnd[k]).timer = none ∧
        (t.cnd[k]).cls = (match (s.cnd[k]).cls with
          | .freeze => if (s.cnd[k]).clearThrough then .clear else .near
          | .near => .clear
          | c => c) ∧
        ((t.cnd[k]).cls ≠ (s.cnd[k]).cls → t.rsv.dirty = true) ∧
        ∀ j : Fin 6, j ≠ k → t.cnd[j] = s.cnd[j])

/-! ### Avalanche paths -/

/-- ACCEPTED_ZONE is the sample that completes the run of its zone, and without such a run it does nothing (the model's
choice, notes/assumptions/8.md). An accepted zone is recorded, with PATH_LINE_FAULT for a line fault; under a valid map a
trip, or a line fault under FAIL_CLOSED, of a path in QUIET creates its TRIP order, in LATCHED trips it again, in
HOLD_PENDING fails the hold, and a trip in HOLD is the planned release; NORMAL, or a first line fault after a start, takes
TRIPPED to LATCHED. A TRIP entry of the path that stands already is taken as it is. The last clause spells
`State.admitOrder` for every draft: the number that `FreshNumberIsFree` gives, a stamp when the entry is ACTIVE, the entry in
its place in the table, the two counters, ORDER_ADMITTED with the whole entry, and RSV dirty. -/
def Obligations.AcceptedZoneMovesThePath : Prop :=
  (∀ (l : Fin 12) (z : Zone) (s : State), s.powered = true →
    (s.pathOfLoop l = none → exec (.acceptedZone l z) s = .next s) ∧
    (∀ (k : Fin 12) (r : PathRec), s.pathOfLoop l = some k → s.path? k.val = some r →
      s.avp[k].zone = some z ∨ (if s.avp[k].candidate = some z then s.avp[k].debounce + 1 else 1) < r.debounce →
      exec (.acceptedZone l z) s = .next s)) ∧
  (∀ (l k : Fin 12) (z : Zone) (r : PathRec) (s : State) (x : Path) (f : PathState → State) (trips : Nat),
    s.powered = true → s.pathOfLoop l = some k → s.path? k.val = some r → s.avp[k].zone ≠ some z →
    r.debounce ≤ (if s.avp[k].candidate = some z then s.avp[k].debounce + 1 else 1) →
    x = { s.avp[k] with zone := some z, candidate := none, debounce := 0 } →
    (∀ st, f st = (if z = .short ∨ z = .opened then
        ((s.setPath k x).record (.loopZone l.val k.val z st)).record (.pathLineFault k.val l.val z)
      else (s.setPath k x).record (.loopZone l.val k.val z st))) →
    trips = (if 65535 < x.trips + 1 then 65535 else x.trips + 1) →
    (s.map.valid = false → exec (.acceptedZone l z) s = .next (f x.state)) ∧
    (s.map.valid = true → z = .trip ∨ ((z = .short ∨ z = .opened) ∧ r.failClosed = true) →
      (x.state = .tripped → exec (.acceptedZone l z) s = .next (f .tripped)) ∧
      (x.state = .latched → exec (.acceptedZone l z) s =
        .next (((f .tripped).setPath k { x with state := .tripped, trips := trips }).record
          (.pathTripped k.val x.tripOrder trips))) ∧
      (∀ e : Order, s.ord.table.find? (fun y => y.issuer == .trip && y.path == some k.val) = some e →
        (x.state = .quiet → exec (.acceptedZone l z) s =
          .next (((f .tripped).setPath k { x with
            state := .tripped, tripOrder := some e.number, released := false, trips := trips }).record
              (.pathTripped k.val (some e.number) trips))) ∧
        (x.state = .holdPending → exec (.acceptedZone l z) s =
          .next ((((f .tripped).setPath k { x with
            state := .tripped, tripOrder := some e.number, holdOrder := none, timer := none, released := false
            unmet := some .tripped, trips := trips }).record
              (.pathTripped k.val (some e.number) trips)).record
                (.holdFailed k.val x.holdOrder (some .tripped))))) ∧
      (s.ord.table.find? (fun y => y.issuer == .trip && y.path == some k.val) = none → ∀ (o : Order) (n : Nat),
        o = { number := 0, issuer := .trip, content := .close .avalanche, first := r.first, last := r.last, dirs := .both
              emergency := true, start := none, finish := none, lead := 0, path := some k.val, station := none
              state := .active, stamp := 0 } →
        n = freeNumber s.ord 65 s.ord.counter →
        (x.state = .quiet → exec (.acceptedZone l z) s =
          .next ((((f .tripped).admitOrder o).setPath k { x with
            state := .tripped, tripOrder := some n, released := false, trips := trips }).record
              (.pathTripped k.val (some n) trips))) ∧
        (x.state = .holdPending → exec (.acceptedZone l z) s =
          .next (((((f .tripped).admitOrder o).setPath k { x with
            state := .tripped, tripOrder := some n, holdOrder := none, timer := none, released := false
            unmet := some .tripped, trips := trips }).record
              (.pathTripped k.val (some n) trips)).record (.holdFailed k.val x.holdOrder (some .tripped)))))) ∧
    (s.map.valid = true → x.state = .hold →
      (z = .trip → exec (.acceptedZone l z) s =
        .next (((f .hold).setPath k { x with released := true, trips := trips }).record
          (.pathReleased k.val x.holdOrder trips))) ∧
      (z ≠ .trip → exec (.acceptedZone l z) s = .next (f .hold))) ∧
    (s.map.valid = true → x.state ≠ .hold → z = .normal ∨ ((z = .short ∨ z = .opened) ∧ r.failClosed = false) →
      (x.state = .tripped → z = .normal ∨ s.avp[k].zone = none →
        exec (.acceptedZone l z) s = .next ((f .latched).setPath k { x with state := .latched })) ∧
      (x.state = .tripped → z ≠ .normal → s.avp[k].zone ≠ none →
        exec (.acceptedZone l z) s = .next (f .tripped)) ∧
      (x.state ≠ .tripped → exec (.acceptedZone l z) s = .next (f x.state)))) ∧
  (∀ (o e : Order) (stamps : Nat) (s : State),
    stamps = (if o.state = .active then (if 4294967295 ≤ s.ord.stamps then 1 else s.ord.stamps + 1)
      else s.ord.stamps) →
    e = { o with
      number := freeNumber s.ord 65 s.ord.counter
      stamp := if o.state = .active then stamps else 0 } →
    s.admitOrder o = ({ s with
      ord := { table := s.ord.table.takeWhile (fun y => decide (y.number ≤ e.number)) ++
                 e :: s.ord.table.dropWhile (fun y => decide (y.number ≤ e.number))
               counter := e.number, stamps := stamps }
      rsv := { s.rsv with dirty := true } } : State).record (.orderAdmitted e))

/-- A sample of every supervised loop, in ascending order of the paths (the model's choice, notes/assumptions/9.md), judges
the zone, whose bounds are 125, 375 and 875 per mille of the loop source, and restarts, begins or counts the candidate; the
sample that brings the count to the debounce has the zone accepted, as ACCEPTED_ZONE then does. A path whose loop is not
supervised is not touched. -/
def Obligations.LoopSampleCountsTheCandidate : Prop :=
  (∀ (v : Vector Nat 12) (s : State), s.powered = true → ∃ t, exec (.loopSample v) s = .next t ∧
    t = (List.finRange 12).foldl (State.samplePath v) s ∧
    t = { s with avp := t.avp, ord := t.ord, rsv := { s.rsv with dirty := t.rsv.dirty }, prt := t.prt } ∧
    (∀ (k l : Fin 12) (r : PathRec) (z : Zone), s.path? k.val = some r → s.supervised k.val = some l.val →
      z = (if v[l] < 125 then .short else if v[l] < 375 then .trip else if v[l] < 875 then .normal else .opened) →
      (s.avp[k].zone = some z → t.avp[k] = { s.avp[k] with candidate := none, debounce := 0 }) ∧
      (s.avp[k].zone ≠ some z → s.avp[k].candidate = some z →
        (s.avp[k].debounce + 1 < r.debounce →
          t.avp[k] = { s.avp[k] with debounce := s.avp[k].debounce + 1 }) ∧
        (r.debounce ≤ s.avp[k].debounce + 1 →
          t.avp[k].zone = some z ∧ t.avp[k].candidate = none ∧ t.avp[k].debounce = 0)) ∧
      (s.avp[k].zone ≠ some z → s.avp[k].candidate ≠ some z →
        (1 < r.debounce → t.avp[k] = { s.avp[k] with candidate := some z, debounce := 1 }) ∧
        (r.debounce ≤ 1 → t.avp[k].zone = some z ∧ t.avp[k].candidate = none ∧ t.avp[k].debounce = 0))) ∧
    (∀ k : Fin 12, s.supervised k.val = none → t.avp[k] = s.avp[k])) ∧
  (∀ (v : Vector Nat 12) (k l : Fin 12) (r : PathRec) (z : Zone) (s : State), s.powered = true →
    s.path? k.val = some r → s.pathOfLoop l = some k →
    z = (if v[l] < 125 then .short else if v[l] < 375 then .trip else if v[l] < 875 then .normal else .opened) →
    s.avp[k].zone ≠ some z → r.debounce ≤ (if s.avp[k].candidate = some z then s.avp[k].debounce + 1 else 1) →
    exec (.acceptedZone l z) s = .next (State.samplePath v s k))

/-- The confirmation test passes exactly when every record of the range is published closed, every barrier gate CLOSED and
every approach sign closure-confirmed, and its result is otherwise the first unmet item in the order of R102; at the expiry
of the confirm timer a path whose test fails is QUIET with its first unmet item recorded, one whose test passes is in HOLD
(the model's inference, notes/assumptions/15.md), and without a hold in progress nothing happens (the model's choice,
notes/assumptions/6.md). A path in HOLD_PENDING whose test passes enters HOLD with HOLD_CONFIRMED, and a hold whose field
items fail waits again: at a publication for the paths in HOLD_PENDING, at a report of a barrier gate or of an approach sign
for the paths in HOLD_PENDING or HOLD that it concerns, in ascending order (the model's choice, notes/assumptions/9.md). So
a barrier gate that reaches CLOSED, or an approach sign that is confirmed, as the last unmet item brings its path into HOLD.
-/
def Obligations.HoldIsConfirmedOrFails : Prop :=
  (∀ (s : State) (r : PathRec), s.unmetItem r = none ↔
    (∀ seg d, r.first ≤ seg → seg ≤ r.last → (s.aspectAt seg d).resolved = true ∧ (s.aspectAt seg d).closed ≠ .no) ∧
    (∀ g ∈ r.barriers, ∃ i : Fin 8, i.val = g ∧ (s.gtc[i]).state = .closed) ∧
    (∀ g ∈ r.barriers, ∀ i ∈ s.approachOf g, s.signConfirmed i = true)) ∧
  (∀ (s : State) (r : PathRec) (unmet : Unmet → Bool) (segments field : List Unmet),
    (∀ seg d, unmet (.segment seg d) = !((s.aspectAt seg d).resolved && decide ((s.aspectAt seg d).closed ≠ .no))) →
    (∀ g, unmet (.gate g) = !decide (∃ i : Fin 8, i.val = g ∧ (s.gtc[i]).state = .closed)) →
    (∀ i, unmet (.sign i) = !s.signConfirmed i) →
    segments = (List.range (r.last + 1 - r.first)).flatMap
      (fun j => [.segment (r.first + j) .S, .segment (r.first + j) .N]) →
    field = r.barriers.map .gate ++ (r.barriers.flatMap s.approachOf).map .sign →
    s.unmetItem r = (segments ++ field).find? unmet ∧ s.unmetField r = field.find? unmet) ∧
  (∀ (k : Fin 12) (r : PathRec) (s : State), s.powered = true → s.path? k.val = some r →
    (s.avp[k].state ≠ .holdPending ∨ s.avp[k].timer = none → exec (.confirmTimerExpiry k) s = .next s) ∧
    (s.avp[k].state = .holdPending → s.avp[k].timer.isSome = true →
      (s.unmetItem r = none → exec (.confirmTimerExpiry k) s =
        .next ((s.setPath k { s.avp[k] with state := .hold, timer := none, unmet := none }).record
          (.holdConfirmed k.val s.avp[k].holdOrder s.rsv.generation))) ∧
      (∀ u, s.unmetItem r = some u → exec (.confirmTimerExpiry k) s =
        .next ((s.setPath k { s.avp[k] with
          state := .quiet, holdOrder := none, timer := none, released := false, unmet := some u }).record
            (.holdFailed k.val s.avp[k].holdOrder (some u)))))) ∧
  (∀ (k : Fin 12) (r : PathRec) (s : State) (u : Unmet), s.avp[k].state = .hold → s.unmetField r = some u →
    s.testPath k r = (s.setPath k { s.avp[k] with state := .holdPending, timer := some 0, unmet := some u }).record
      (.holdBroken k.val s.avp[k].holdOrder u)) ∧
  (∀ (k : Fin 12) (r : PathRec) (s : State),
    (s.avp[k].state = .holdPending → s.unmetItem r = none →
      s.testPath k r = (s.setPath k { s.avp[k] with state := .hold, timer := none, unmet := none }).record
        (.holdConfirmed k.val s.avp[k].holdOrder s.rsv.generation)) ∧
    (s.avp[k].state = .holdPending → s.unmetItem r ≠ none → s.testPath k r = s) ∧
    (s.avp[k].state = .hold → s.unmetField r = none → s.testPath k r = s)) ∧
  (∀ (s : State) (tested : (PathRec → Bool) → List PathState → State),
    (∀ named states, tested named states = (List.finRange 12).foldl (fun v k => match v.path? k.val with
      | some r => if named r = true ∧ v.avp[k].state ∈ states then v.testPath k r else v
      | none => v) s) →
    s.publishToPaths = tested (fun _ => true) [.holdPending] ∧
    (∀ g : Fin 8, s.reportGate g = (if s.map.valid = true then
      tested (fun r => decide (g.val ∈ r.barriers)) [.holdPending, .hold] else s)) ∧
    (∀ i : Fin 24, s.reportSignToPaths i =
      tested (fun r => r.barriers.any (fun g => decide (i.val ∈ s.approachOf g))) [.holdPending, .hold])) ∧
  (∀ (k : Fin 12) (r : PathRec) (g : Fin 8) (q : GateRec) (s : State), s.powered = true → s.map.valid = true →
    s.path? k.val = some r → s.gate? g.val = some q → g.val ∈ r.barriers → s.avp[k].state = .holdPending →
    s.gtc[g].state = .closing → s.gtc[g].closedLimit = false → s.gtc[g].openLimit = false →
    s.gtc[g].demand ≠ some .opened → (s.setGate g { s.gtc[g] with state := .closed }).unmetItem r = none →
    ∃ t, exec (.closedLimitAccepted g true) s = .next t ∧
      t.avp[k] = { s.avp[k] with state := .hold, timer := none, unmet := none }) ∧
  (∀ (k : Fin 12) (r : PathRec) (g : Nat) (l : Fin 2) (q : SignReply) (t : Trans) (c : Composed) (s : State),
    s.powered = true → s.path? k.val = some r → g ∈ r.barriers → t.sign.val ∈ s.approachOf g →
    s.avp[k].state = .holdPending → s.flc[l].phase = .replyWait → s.flc[l].badReply = false → s.flc[l].trans = some t →
    t.kind ≠ .bright → t.kind ≠ .poll → (s.signs[t.sign]).draft = some c → c.check = q.check → c.mark = true →
    s.signs[t.sign].confirmed = false →
    (s.setSign t.sign { s.signs[t.sign] with confirmed := true }).unmetItem r = none →
    ∃ u, exec (.confirm l q) s = .next u ∧
      u.avp[k] = { s.avp[k] with state := .hold, timer := none, unmet := none })

/-- PATH_HOLD tests the map, the path, its state, the AVS quota and the pool; it then creates the hold order as
`AcceptedZoneMovesThePath` says of `State.admitOrder`, starts the confirm timer, replies HOLD_PENDING with the number and
makes the first test. -/
def Obligations.PathHoldCreatesItsOrder : Prop :=
  ∀ (p : Port) (tag : Byte) (args : List Byte) (s : State), s.takes p .pathHold args →
    (s.map.valid = false → exec (.pathHold p tag args) s = .next (s.answer ⟨p, 0x0A, tag⟩ .mapInvalid [])) ∧
    (s.map.valid = true → s.path? (get8 args 0) = none →
      exec (.pathHold p tag args) s = .next (s.answer ⟨p, 0x0A, tag⟩ .badRange [])) ∧
    (∀ (k : Fin 12) (r : PathRec), s.map.valid = true → s.pathIs args k r →
      (s.avp[k].state ≠ .quiet → exec (.pathHold p tag args) s = .next (s.answer ⟨p, 0x0A, tag⟩ .pathState [])) ∧
      (s.avp[k].state = .quiet → 20 ≤ s.ord.held .avs →
        exec (.pathHold p tag args) s = .next (s.answer ⟨p, 0x0A, tag⟩ .quota [])) ∧
      (s.avp[k].state = .quiet → s.ord.held .avs < 20 → 34 ≤ s.ord.portPool →
        exec (.pathHold p tag args) s = .next (s.answer ⟨p, 0x0A, tag⟩ .tableFull [])) ∧
      (s.avp[k].state = .quiet → s.ord.held .avs < 20 → s.ord.portPool < 34 → ∀ (o : Order) (n : Nat),
        o = { number := 0, issuer := .avs, content := .close .avalanche, first := r.first, last := r.last, dirs := .both
              emergency := false, start := none, finish := none, lead := 0, path := some k.val, station := none
              state := .active, stamp := 0 } →
        n = freeNumber s.ord 65 s.ord.counter →
        exec (.pathHold p tag args) s = .next ((((s.admitOrder o).setPath k { s.avp[k] with
          state := .holdPending, holdOrder := some n, released := false, unmet := none, timer := some 0 }).answer
            ⟨p, 0x0A, tag⟩ .holdPending (put16 n)).testPath k r)))

/-- PATH_CLEAR retires the TRIP order of a LATCHED path, PATH_END_HOLD the hold order of a path in HOLD_PENDING or HOLD; a
path that is still tripped, or released with its loop still in TRIP, is refused PATH_ACTIVE, any other PATH_STATE. -/
def Obligations.PathClearAndEndHold : Prop :=
  ∀ (p : Port) (tag : Byte) (args : List Byte) (s : State),
    (s.takes p .pathClear args →
      (s.map.valid = false → exec (.pathClear p tag args) s = .next (s.answer ⟨p, 0x0C, tag⟩ .mapInvalid [])) ∧
      (∀ (k : Fin 12) (r : PathRec), s.map.valid = true → s.pathIs args k r →
        (s.img.mayLift p .trip = false →
          exec (.pathClear p tag args) s = .next (s.answer ⟨p, 0x0C, tag⟩ .notPermitted [])) ∧
        (s.img.mayLift p .trip = true →
          (s.avp[k].state = .tripped →
            exec (.pathClear p tag args) s = .next (s.answer ⟨p, 0x0C, tag⟩ .pathActive [])) ∧
          (s.avp[k].state ≠ .tripped → s.avp[k].state ≠ .latched →
            exec (.pathClear p tag args) s = .next (s.answer ⟨p, 0x0C, tag⟩ .pathState [])) ∧
          (∀ n, s.avp[k].state = .latched → s.avp[k].tripOrder = some n →
            exec (.pathClear p tag args) s = .next (((s.retire n .pathCleared).setPath k { s.avp[k] with
              state := .quiet, tripOrder := none, released := false }).answer ⟨p, 0x0C, tag⟩ .ok (put16 n)))))) ∧
    (s.takes p .pathEndHold args →
      (s.map.valid = false → exec (.pathEndHold p tag args) s = .next (s.answer ⟨p, 0x0B, tag⟩ .mapInvalid [])) ∧
      (∀ (k : Fin 12) (r : PathRec), s.map.valid = true → s.pathIs args k r →
        (s.img.mayLift p .avs = false →
          exec (.pathEndHold p tag args) s = .next (s.answer ⟨p, 0x0B, tag⟩ .notPermitted [])) ∧
        (s.img.mayLift p .avs = true →
          (s.avp[k].state ≠ .hold → s.avp[k].state ≠ .holdPending →
            exec (.pathEndHold p tag args) s = .next (s.answer ⟨p, 0x0B, tag⟩ .pathState [])) ∧
          (s.avp[k].state = .hold ∨ s.avp[k].state = .holdPending →
            (s.avp[k].released = true → s.avp[k].zone = some .trip →
              exec (.pathEndHold p tag args) s = .next (s.answer ⟨p, 0x0B, tag⟩ .pathActive [])) ∧
            (∀ n, ¬(s.avp[k].released = true ∧ s.avp[k].zone = some .trip) → s.avp[k].holdOrder = some n →
              exec (.pathEndHold p tag args) s = .next (((s.retire n .holdEnded).setPath k { s.avp[k] with
                state := .quiet, holdOrder := none, timer := none, released := false }).answer
                  ⟨p, 0x0B, tag⟩ .ok (put16 n)))))))

/-! ### Snow gates -/

/-- The three inputs of a gate in use: a limit reached ends its travel, a limit lost or both limits together is a FAULT, an
obstruction in CLOSING lifts the gate and its end closes it again; any other level is stored alone. Each state that the gate
enters is stored, recorded and reported to AVP, which `State.enterGate` does and the last clause spells; a demand that stands
against the limit reached acts at once. Under MAP_INVALID a gate with a record follows its limits, a change of state is
recorded, and an entry into FAULT with its cause. That a level which the gate has changes the pin alone
(notes/assumptions/6.md), that the pin of a gate without a record is followed (notes/assumptions/19.md), that a change of
the cause alone counts as one, that GATE_FAULT is recorded before the report to AVP and that each state of a chain is reported
before the next is entered (notes/assumptions/14.md), that the retry count has no upper bound (notes/assumptions/32.md),
that LIMIT_CONFLICT comes before RETRIES_EXHAUSTED, OPEN and CLOSED where one level gives both (notes/assumptions/35.md) and
that the obstruction input is followed, its level stored alone, under MAP_INVALID, where R14 names the limits alone, each
limit by its ACCEPTED command (notes/assumptions/39.md), are the model's choices; that no countdown kind and no remaining time
stand in phase OBSTRUCTED, which a chain into PREWARN can end in, is its inference (notes/assumptions/31.md). -/
def Obligations.GateInputsMoveTheGate : Prop :=
  (∀ (g : Fin 8) (r : GateRec) (x y z : Gate) (s u : State), s.powered = true → s.map.valid = true →
    s.gate? g.val = some r → x = s.gtc[g] →
    (x.openLimit = false → y = { x with openLimit := true } →
      u = { s with pins := setAt s.pins g { s.pins[g] with openLimit := true } } →
      (x.closedLimit = true → x.state ≠ .fault → exec (.openLimitAccepted g true) s =
        .next (State.enterGate g u (y.halted .fault (some .limitConflict)))) ∧
      (x.closedLimit = false → x.state = .opening → z = { y.halted .opened none with retries := 0 } →
        (x.demand ≠ some .closed ∨ x.inhibit = true →
          exec (.openLimitAccepted g true) s = .next (State.enterGate g u z)) ∧
        (x.demand = some .closed → x.inhibit = false → ∀ w, w = z.prewarned r (r.approach.all s.signConfirmed) →
          (x.emergency = false ∨ 0 < r.emergency ∨ x.obstruction = true →
            exec (.openLimitAccepted g true) s = .next (State.enterGate g (State.enterGate g u z) w)) ∧
          (x.emergency = true → r.emergency = 0 → x.obstruction = false → exec (.openLimitAccepted g true) s =
            .next (State.enterGate g (State.enterGate g (State.enterGate g u z) w) (w.driven r .lower .closing))))) ∧
      (x.closedLimit = false → x.state = .blocked → x.retryTimer = none →
        (x.retries ≤ r.retryLimit → exec (.openLimitAccepted g true) s = .next (u.setGate g { y with
          drive := (y.halted .blocked none).drive, waitingLine := (y.halted .blocked none).waitingLine
          periods := (y.halted .blocked none).periods, duty := (y.halted .blocked none).duty
          travel := none, retryTimer := some 0 })) ∧
        (r.retryLimit < x.retries → exec (.openLimitAccepted g true) s =
          .next (State.enterGate g u (y.halted .fault (some .retriesExhausted))))) ∧
      (x.state = .fault ∨ (x.closedLimit = false ∧ (x.state = .opened ∨ x.state = .prewarn ∨ x.state = .closing ∨
          x.state = .closed ∨ (x.state = .blocked ∧ x.retryTimer.isSome = true))) →
        exec (.openLimitAccepted g true) s = .next (u.setGate g y))) ∧
    (x.openLimit = true → y = { x with openLimit := false } →
      u = { s with pins := setAt s.pins g { s.pins[g] with openLimit := false } } →
      (x.state = .opened ∨ x.state = .prewarn ∨ (x.state = .blocked ∧ x.retryTimer.isSome = true) →
        exec (.openLimitAccepted g false) s = .next (State.enterGate g u (y.halted .fault (some .displaced)))) ∧
      (x.state = .closing ∨ x.state = .opening ∨ x.state = .closed ∨ x.state = .fault ∨
          (x.state = .blocked ∧ x.retryTimer = none) →
        exec (.openLimitAccepted g false) s = .next (u.setGate g y))) ∧
    (x.closedLimit = false → y = { x with closedLimit := true } →
      u = { s with pins := setAt s.pins g { s.pins[g] with closedLimit := true } } →
      (x.openLimit = true → x.state ≠ .fault → exec (.closedLimitAccepted g true) s =
        .next (State.enterGate g u (y.halted .fault (some .limitConflict)))) ∧
      (x.openLimit = false → x.state = .closing → z = { y.halted .closed none with retries := 0 } →
        (x.demand ≠ some .opened ∨ x.inhibit = true →
          exec (.closedLimitAccepted g true) s = .next (State.enterGate g u z)) ∧
        (x.demand = some .opened → x.inhibit = false → exec (.closedLimitAccepted g true) s =
          .next (State.enterGate g (State.enterGate g u z) (z.driven r .raise .opening)))) ∧
      (x.state = .fault ∨ (x.openLimit = false ∧ x.state ≠ .closing) →
        exec (.closedLimitAccepted g true) s = .next (u.setGate g y))) ∧
    (x.closedLimit = true → y = { x with closedLimit := false } →
      u = { s with pins := setAt s.pins g { s.pins[g] with closedLimit := false } } →
      (x.state = .closed → exec (.closedLimitAccepted g false) s =
        .next (State.enterGate g u (y.halted .fault (some .displaced)))) ∧
      (x.state ≠ .closed → exec (.closedLimitAccepted g false) s = .next (u.setGate g y))) ∧
    (x.obstruction = false → y = { x with obstruction := true } →
      u = { s with pins := setAt s.pins g { s.pins[g] with obstruction := true } } →
      (x.state = .closing → z = { y.driven r .raise .blocked with retries := x.retries + 1 } →
        (x.openLimit = false → exec (.obstructionAccepted g true) s = .next (State.enterGate g u z)) ∧
        (x.openLimit = true → x.retries + 1 ≤ r.retryLimit → exec (.obstructionAccepted g true) s =
          .next (State.enterGate g u { z.halted .blocked none with retryTimer := some 0 })) ∧
        (x.openLimit = true → r.retryLimit < x.retries + 1 → exec (.obstructionAccepted g true) s =
          .next (State.enterGate g (State.enterGate g u z) (z.halted .fault (some .retriesExhausted))))) ∧
      (x.state ≠ .closing → exec (.obstructionAccepted g true) s = .next (u.setGate g y))) ∧
    (x.obstruction = true → y = { x with obstruction := false } →
      u = { s with pins := setAt s.pins g { s.pins[g] with obstruction := false } } →
      (x.state = .prewarn → x.phase = some .obstructed → x.closedLimit = false →
        exec (.obstructionAccepted g false) s = .next (State.enterGate g u (y.driven r .lower .closing))) ∧
      (x.state = .prewarn → x.phase = some .obstructed → x.closedLimit = true → ∀ w v : Gate,
        z = { y with state := .closing, cause := none, phase := none, countKind := none, remaining := 0
                     signTimer := none, travel := none, retryTimer := none } →
        w = { z.halted .closed none with retries := 0 } → v = { w with state := .opening } →
        (x.demand ≠ some .opened ∨ x.inhibit = true → exec (.obstructionAccepted g false) s =
          .next (State.enterGate g (State.enterGate g u z) w)) ∧
        (x.demand = some .opened → x.inhibit = false → x.openLimit = false → exec (.obstructionAccepted g false) s =
          .next (State.enterGate g (State.enterGate g (State.enterGate g u z) w) (w.driven r .raise .opening))) ∧
        (x.demand = some .opened → x.inhibit = false → x.openLimit = true → exec (.obstructionAccepted g false) s =
          .next (State.enterGate g (State.enterGate g (State.enterGate g (State.enterGate g u z) w) v)
            { v with state := .opened }))) ∧
      (x.state ≠ .prewarn ∨ x.phase ≠ some .obstructed →
        exec (.obstructionAccepted g false) s = .next (u.setGate g y)))) ∧
  (∀ (g : Fin 8) (v : Bool) (i : Instr) (pins : GatePins) (x : Gate) (s u : State), s.powered = true →
    (i = .openLimitAccepted g v ∧ pins = { s.pins[g] with openLimit := v } ∧ x = { s.gtc[g] with openLimit := v }) ∨
      (i = .closedLimitAccepted g v ∧ pins = { s.pins[g] with closedLimit := v } ∧
        x = { s.gtc[g] with closedLimit := v }) ∨
      (i = .obstructionAccepted g v ∧ pins = { s.pins[g] with obstruction := v } ∧
        x = { s.gtc[g] with obstruction := v }) →
    u = { s with pins := setAt s.pins g pins } →
    (s.gate? g.val = none → exec i s = .next u) ∧
    (∀ r, s.gate? g.val = some r → x = s.gtc[g] → exec i s = .next u) ∧
    (∀ (r : GateRec) (y : Gate), s.gate? g.val = some r → s.map.valid = false → x ≠ s.gtc[g] →
      y = { x with
        state := if x.openLimit = x.closedLimit then .fault else if x.openLimit then .opened else .closed
        cause := if x.openLimit = x.closedLimit then some (if x.openLimit then .limitConflict else .displaced)
          else none } →
      (y.state = s.gtc[g].state ∧ y.cause = s.gtc[g].cause → exec i s = .next (u.setGate g y)) ∧
      (y.state ≠ s.gtc[g].state ∨ y.cause ≠ s.gtc[g].cause → ∀ w : State,
        w = (u.setGate g y).record (.gateState g.val y.state y.cause y.inhibit y.demand y.emergency y.retries) →
        (y.cause = none → exec i s = .next w) ∧
        (∀ c, y.cause = some c → exec i s = .next (w.record (.gateFault g.val c)))))) ∧
  (∀ (g : Fin 8) (x : Gate) (s v : State),
    v = (s.setGate g x).record (.gateState g.val x.state x.cause x.inhibit x.demand x.emergency x.retries) →
    (x.state ≠ .fault ∨ x.cause = none ∨ s.gtc[g].state = .fault → State.enterGate g s x = v.reportGate g) ∧
    (∀ c, x.state = .fault → x.cause = some c → s.gtc[g].state ≠ .fault →
      State.enterGate g s x = (v.record (.gateFault g.val c)).reportGate g))

/-- The timers of a gate in use: the sign wait ends in the normal countdown with its unconfirmed signs recorded, a served
countdown closes the gate or waits for the obstruction, the travel limit is a FAULT in CLOSING, OPENING and a lifting
BLOCKED, and the retry delay ends in a new closing, each state entered recorded and reported as `GateInputsMoveTheGate` says
of `State.enterGate`; a gate that is to close at the closed limit already goes through CLOSING into CLOSED (`Gate.closes`). A
report by which every approach sign is closure-confirmed ends the sign wait in the normal countdown. That an expiry outside
its phase, and one of a gate not in use, does nothing (notes/assumptions/6.md), and that each state of a chain is reported
before the next is entered (notes/assumptions/14.md), are the model's choices, and that no countdown stands in OBSTRUCTED its
inference (notes/assumptions/31.md). -/
def Obligations.GateTimersMoveTheGate : Prop :=
  (∀ (g : Fin 8) (r : GateRec) (s : State) (x : Gate), s.powered = true → s.map.valid = true → s.gate? g.val = some r →
    x = s.gtc[g] →
    (x.phase = some .signWait → exec (.signWaitExpiry g) s =
      .next ((s.record (.gateSignsUnconfirmed g.val (r.approach.filter (fun i => !s.signConfirmed i)))).setGate g
        { x with phase := some .countdown, countKind := some .normal, remaining := r.prewarn, signTimer := none })) ∧
    (x.phase ≠ some .signWait → exec (.signWaitExpiry g) s = .next s) ∧
    (x.state = .prewarn → x.phase = some .countdown →
      (x.obstruction = true → exec (.countdownEnd g) s =
        .next (s.setGate g { x with phase := some .obstructed, countKind := none, remaining := 0 })) ∧
      (x.obstruction = false → exec (.countdownEnd g) s = .next ((x.closes r).foldl (State.enterGate g) s))) ∧
    (x.state ≠ .prewarn ∨ x.phase ≠ some .countdown → exec (.countdownEnd g) s = .next s) ∧
    (x.travel.isSome = true →
      x.state = .closing ∨ x.state = .opening ∨ (x.state = .blocked ∧ x.retryTimer = none) →
      exec (.travelTimerExpiry g) s = .next (State.enterGate g s (x.halted .fault (some .travelTimeout)))) ∧
    (x.travel = none ∨ (x.state ≠ .closing ∧ x.state ≠ .opening ∧ (x.state ≠ .blocked ∨ x.retryTimer.isSome = true)) →
      exec (.travelTimerExpiry g) s = .next s) ∧
    (x.state = .blocked → x.retryTimer.isSome = true →
      (x.obstruction = true → exec (.retryDelayExpiry g) s =
        .next (State.enterGate g s { x.halted .prewarn none with phase := some .obstructed })) ∧
      (x.obstruction = false → ∀ z : Gate,
        z = { x.halted .prewarn none with phase := some .countdown, countKind := some .normal } →
        exec (.retryDelayExpiry g) s = .next ((z.closes r).foldl (State.enterGate g) (State.enterGate g s z)))) ∧
    (x.state ≠ .blocked ∨ x.retryTimer = none → exec (.retryDelayExpiry g) s = .next s) ∧
    (∀ i : Instr, i = .countdownEnd g ∨ i = .travelTimerExpiry g ∨ i = .retryDelayExpiry g →
      ∃ t, exec i s = .next t ∧ t = { s with gtc := t.gtc, avp := t.avp, prt := t.prt } ∧
        ∀ h : Fin 8, h ≠ g → t.gtc[h] = s.gtc[h])) ∧
  (∀ (g : Fin 8) (s : State) (i : Instr), s.powered = true → s.map.valid = false ∨ s.gate? g.val = none →
    i = .signWaitExpiry g ∨ i = .countdownEnd g ∨ i = .travelTimerExpiry g ∨ i = .retryDelayExpiry g →
    exec i s = .next s) ∧
  (∀ (i : Fin 24) (s : State), s.reportSignToGates i = { s with gtc := (s.reportSignToGates i).gtc } ∧
    (∀ g : Fin 8, s.map.valid = false ∨ s.gate? g.val = none → (s.reportSignToGates i).gtc[g] = s.gtc[g]) ∧
    ∀ (g : Fin 8) (r : GateRec), s.map.valid = true → s.gate? g.val = some r → (s.reportSignToGates i).gtc[g] =
      (if i.val ∈ r.approach ∧ s.gtc[g].phase = some .signWait ∧ ∀ j ∈ r.approach, s.signConfirmed j = true then
        { s.gtc[g] with phase := some .countdown, countKind := some .normal, remaining := r.prewarn
                        signTimer := none }
      else s.gtc[g])) ∧
  (∀ (g : Fin 8) (r : GateRec) (l : Fin 2) (q : SignReply) (t : Trans) (c : Composed) (s : State), s.powered = true →
    s.map.valid = true → s.gate? g.val = some r → s.gtc[g].phase = some .signWait → s.flc[l].phase = .replyWait →
    s.flc[l].badReply = false → s.flc[l].trans = some t → t.kind ≠ .bright → t.kind ≠ .poll →
    (s.signs[t.sign]).draft = some c → c.check = q.check → c.mark = true → s.signs[t.sign].confirmed = false →
    t.sign.val ∈ r.approach → (∀ j ∈ r.approach, j ≠ t.sign.val → s.signConfirmed j = true) →
    ∃ u, exec (.confirm l q) s = .next u ∧
      u.gtc[g] = { s.gtc[g] with phase := some .countdown, countKind := some .normal, remaining := r.prewarn
                                 signTimer := none })

/-- The drive and the lantern of a gate in use: after the dead time the waiting line starts with the start duty and its
travel timer, or the drive is OFF; each period of a running line takes the next duty of the ramp, and with no line running
DUTY_PERIOD_END changes nothing (the model's choice, notes/assumptions/6.md); a lantern frame begins with the pattern of the
state in force. -/
def Obligations.DriveAndLanternFollow : Prop :=
  ∀ (g : Fin 8) (r : GateRec) (s : State), s.powered = true → s.map.valid = true → s.gate? g.val = some r →
    (s.gtc[g].drive = .dead → s.gtc[g].waitingLine = none →
      exec (.deadTimeEnd g) s = .next (s.setGate g { s.gtc[g] with drive := .off })) ∧
    (s.gtc[g].drive = .dead → s.gtc[g].waitingLine = some .lower →
      exec (.deadTimeEnd g) s = .next (s.setGate g { s.gtc[g] with
        drive := .lower, waitingLine := none, periods := 0, duty := if r.ramp = 0 then 100 else r.startDuty
        travel := some 0 })) ∧
    (s.gtc[g].drive = .dead → s.gtc[g].waitingLine = some .raise →
      exec (.deadTimeEnd g) s = .next (s.setGate g { s.gtc[g] with
        drive := .raise, waitingLine := none, periods := 0, duty := if r.ramp = 0 then 100 else r.startDuty
        travel := some 0 })) ∧
    (s.gtc[g].drive = .lower ∨ s.gtc[g].drive = .raise → ∀ n, n = s.gtc[g].periods + 1 →
      exec (.dutyPeriodEnd g) s = .next (s.setGate g { s.gtc[g] with
        periods := n
        duty := if r.ramp = 0 ∨ 25 * r.ramp ≤ n then 100
          else r.startDuty + (100 - r.startDuty) * n / (25 * r.ramp) })) ∧
    (s.gtc[g].drive = .off ∨ s.gtc[g].drive = .dead → exec (.dutyPeriodEnd g) s = .next s) ∧
    (∃ t, exec .lanternFrameBoundary s = .next t ∧ t = { s with gtc := t.gtc } ∧
      t.gtc[g] = { s.gtc[g] with lantern := match s.gtc[g].state with
        | .opened => .dark
        | .prewarn => .prewarn
        | .closing | .opening | .blocked => .moving
        | .closed => .closed
        | .fault => .fault })

/-- GATE_RESET and GATE_INHIBIT are answered MAP_INVALID, then BAD_RANGE. GATE_RESET leaves FAULT at the one limit that is
asserted, where the gate acts on its stored demand unless it is inhibited, and is GATE_STATE_BAD otherwise; GATE_INHIBIT
sets the flag in a state at rest, and clearing it lets the stored demand act; a flag that stands so already is answered OK
and changes nothing. A stored emergency demand with an emergency prewarn time of 0 passes through PREWARN into CLOSING, or
stays in OBSTRUCTED. (A gate in OPEN or CLOSED has not the other limit: both together are FAULT, `GateInputsMoveTheGate`.)
Each state entered, and each change of the flag, is stored, recorded and reported as `GateInputsMoveTheGate` says of
`State.enterGate`. That no countdown kind and no remaining time stand in phase OBSTRUCTED, where an emergency prewarn time of 0 ends with the
obstruction asserted, is the model's inference (notes/assumptions/31.md), and that each state of a chain is reported before
the next is entered its choice (notes/assumptions/14.md). -/
def Obligations.GateResetAndInhibit : Prop :=
  (∀ (p : Port) (tag : Byte) (args : List Byte) (s : State),
    (s.takes p .gateReset args →
      (s.map.valid = false → exec (.gateReset p tag args) s = .next (s.answer ⟨p, 0x0F, tag⟩ .mapInvalid [])) ∧
      (s.map.valid = true → s.gate? (get8 args 0) = none →
        exec (.gateReset p tag args) s = .next (s.answer ⟨p, 0x0F, tag⟩ .badRange []))) ∧
    (s.takes p .gateInhibit args →
      (s.map.valid = false → exec (.gateInhibit p tag args) s = .next (s.answer ⟨p, 0x0E, tag⟩ .mapInvalid [])) ∧
      (s.map.valid = true → s.gate? (get8 args 0) = none →
        exec (.gateInhibit p tag args) s = .next (s.answer ⟨p, 0x0E, tag⟩ .badRange [])))) ∧
  (∀ (p : Port) (tag : Byte) (args : List Byte) (g : Fin 8) (r : GateRec) (s : State) (x : Gate), s.map.valid = true →
    s.gateIs args g r → x = s.gtc[g] →
    (s.takes p .gateReset args →
      (x.state ≠ .fault ∨ x.openLimit = x.closedLimit →
        exec (.gateReset p tag args) s = .next (s.answer ⟨p, 0x0F, tag⟩ .gateStateBad (Gate.badData x))) ∧
      (x.state = .fault → x.openLimit ≠ x.closedLimit → ∀ (y : Gate) (v : State),
        y = { x.halted (if x.openLimit then .opened else .closed) none with retries := 0 } → v = State.enterGate g s y →
        (x.inhibit = true ∨ x.demand ≠ some (if x.openLimit then .closed else .opened) →
          exec (.gateReset p tag args) s =
            .next (v.answer ⟨p, 0x0F, tag⟩ .ok (put8 (if x.openLimit then 0 else 3)))) ∧
        (x.openLimit = true → x.demand = some .closed → x.inhibit = false → ∀ z : Gate,
          z = y.prewarned r (r.approach.all s.signConfirmed) →
          (x.emergency = false ∨ 0 < r.emergency ∨ x.obstruction = true → exec (.gateReset p tag args) s =
            .next ((State.enterGate g v z).answer ⟨p, 0x0F, tag⟩ .ok (put8 0))) ∧
          (x.emergency = true → r.emergency = 0 → x.obstruction = false → exec (.gateReset p tag args) s =
            .next ((State.enterGate g (State.enterGate g v z) (z.driven r .lower .closing)).answer
              ⟨p, 0x0F, tag⟩ .ok (put8 0)))) ∧
        (x.openLimit = false → x.demand = some .opened → x.inhibit = false → exec (.gateReset p tag args) s =
          .next ((State.enterGate g v (y.driven r .raise .opening)).answer ⟨p, 0x0F, tag⟩ .ok (put8 3))))) ∧
    (s.takes p .gateInhibit args →
      (get8 args 1 = 1 → x.state = .opened ∨ x.state = .closed ∨ x.state = .fault →
        (x.inhibit = false → exec (.gateInhibit p tag args) s =
          .next ((State.enterGate g s { x with inhibit := true }).answer ⟨p, 0x0E, tag⟩ .ok (put8 x.state.num))) ∧
        (x.inhibit = true →
          exec (.gateInhibit p tag args) s = .next (s.answer ⟨p, 0x0E, tag⟩ .ok (put8 x.state.num)))) ∧
      (get8 args 1 = 1 → x.state ≠ .opened → x.state ≠ .closed → x.state ≠ .fault →
        exec (.gateInhibit p tag args) s = .next (s.answer ⟨p, 0x0E, tag⟩ .gateStateBad (Gate.badData x))) ∧
      (get8 args 1 = 0 → x.inhibit = false →
        exec (.gateInhibit p tag args) s = .next (s.answer ⟨p, 0x0E, tag⟩ .ok (put8 x.state.num))) ∧
      (get8 args 1 = 0 → x.inhibit = true → ∀ (y : Gate) (v : State), y = { x with inhibit := false } →
        v = State.enterGate g s y →
        (x.state ≠ .opened ∨ x.demand ≠ some .closed → x.state ≠ .closed ∨ x.demand ≠ some .opened →
          exec (.gateInhibit p tag args) s = .next (v.answer ⟨p, 0x0E, tag⟩ .ok (put8 x.state.num))) ∧
        (x.state = .opened → x.demand = some .closed → ∀ z : Gate, z = y.prewarned r (r.approach.all s.signConfirmed) →
          (x.emergency = false ∨ 0 < r.emergency ∨ x.obstruction = true → exec (.gateInhibit p tag args) s =
            .next ((State.enterGate g v z).answer ⟨p, 0x0E, tag⟩ .ok (put8 0))) ∧
          (x.emergency = true → r.emergency = 0 → x.obstruction = false → x.closedLimit = false →
            exec (.gateInhibit p tag args) s =
              .next ((State.enterGate g (State.enterGate g v z) (z.driven r .lower .closing)).answer
                ⟨p, 0x0E, tag⟩ .ok (put8 0)))) ∧
        (x.state = .closed → x.demand = some .opened → x.openLimit = false → exec (.gateInhibit p tag args) s =
          .next ((State.enterGate g v (y.driven r .raise .opening)).answer ⟨p, 0x0E, tag⟩ .ok (put8 3)))) ∧
      (1 < get8 args 1 → exec (.gateInhibit p tag args) s = .next (s.answer ⟨p, 0x0E, tag⟩ .badValue []))))

/-- STATION_READ, PATH_READ, GATE_READ and SIGN_READ reply with the record as loaded, the run-time items and, without a
valid map, the map state; an index that is not served (beyond the number in use under a valid map, beyond the table's limit
otherwise, where BAD_RANGE is the model's choice, notes/assumptions/30.md) is answered BAD_RANGE; none changes anything
else. The layout is the model's (notes/assumptions/12.md), as are the fields of notes/assumptions/31.md, 32.md and
34.md, and the obstruction level that GATE_READ reports under MAP_INVALID (notes/assumptions/39.md). -/
def Obligations.RecordReadsReply : Prop :=
  ∀ (p : Port) (tag : Byte) (args : List Byte) (s : State),
    (s.takes p .stationRead args →
      (∀ k : Fin 6, get8 args 0 = k.val → k.val < readBound s s.img.counts.stations 6 →
        exec (.stationRead p tag args) s = .next (s.answer ⟨p, 0x06, tag⟩ .ok
          (recordBytes s s.img.counts.stations rowOfStation k.val ++ (s.cnd[k]).bytes ++
            spanBytes (s.img.span k.val) ++ (s.surfaceChan k).stationBytes ++ (s.airChan k).stationBytes ++
            put16 s.mea.scanNumber ++ s.windBytes k ++ mapStateTail s))) ∧
      (readBound s s.img.counts.stations 6 ≤ get8 args 0 →
        exec (.stationRead p tag args) s = .next (s.answer ⟨p, 0x06, tag⟩ .badRange []))) ∧
    (s.takes p .pathRead args →
      (∀ k : Fin 12, get8 args 0 = k.val → k.val < readBound s s.img.counts.paths 12 →
        exec (.pathRead p tag args) s = .next (s.answer ⟨p, 0x09, tag⟩ .ok
          (recordBytes s s.img.counts.paths rowOfPath k.val ++ reachBytes s (s.path? k.val) ++
            put8 s.avp[k].state.num ++ putOpt8 (s.avp[k].zone.map Zone.num) ++
            putOpt8 (s.avp[k].candidate.map Zone.num) ++ put8 s.avp[k].debounce ++
            putOrderNumber s.avp[k].tripOrder ++ putOrderNumber s.avp[k].holdOrder ++ putOpt16 s.avp[k].timer ++
            putFlag s.avp[k].released ++ put16 s.avp[k].trips ++ Unmet.bytes s.avp[k].unmet ++ mapStateTail s))) ∧
      (12 ≤ get8 args 0 ∨ readBound s s.img.counts.paths 12 ≤ get8 args 0 →
        exec (.pathRead p tag args) s = .next (s.answer ⟨p, 0x09, tag⟩ .badRange []))) ∧
    (s.takes p .gateRead args →
      (∀ g : Fin 8, get8 args 0 = g.val → g.val < readBound s s.img.counts.gates 8 →
        exec (.gateRead p tag args) s = .next (s.answer ⟨p, 0x0D, tag⟩ .ok
          (recordBytes s s.img.counts.gates rowOfGate g.val ++
            (if (s.gate? g.val).isSome then gateFieldsOut s g.val s.gtc[g] else [0xFF#8]) ++ mapStateTail s))) ∧
      (8 ≤ get8 args 0 ∨ readBound s s.img.counts.gates 8 ≤ get8 args 0 →
        exec (.gateRead p tag args) s = .next (s.answer ⟨p, 0x0D, tag⟩ .badRange []))) ∧
    (s.takes p .signRead args →
      (∀ i : Fin 24, get8 args 0 = i.val → i.val < readBound s s.img.counts.signs 24 →
        exec (.signRead p tag args) s = .next (s.answer ⟨p, 0x10, tag⟩ .ok
          (recordBytes s s.img.counts.signs rowOfSign i.val ++ s.signScpBytes i ++ s.signFlcBytes i ++
            mapStateTail s))) ∧
      (24 ≤ get8 args 0 ∨ readBound s s.img.counts.signs 24 ≤ get8 args 0 →
        exec (.signRead p tag args) s = .next (s.answer ⟨p, 0x10, tag⟩ .badRange [])))

/-! ### Sign composition -/

/-- The element list of a sign (R131), the places of its parts (R133), the lamps (R134) and the drawing of a page (R135 to
R137). The composer takes the first queued sign that no transfer holds, derives its list from the latest generation and, for
a MATRIX sign, asks for page memory. A composition that ends makes the accesses still to be made at once (the model's
choice, notes/assumptions/20.md), leaves its content in DRAFT with the check over the bytes drawn, brings its job to the
sign's line unless the sign is OFFLINE (in place of a waiting job of the sign, otherwise at the tail) and queues the sign
again when its list has changed. The composer then has no request or access, what it held of page memory goes to the next
requester as `PageMemoryIsShared` says of `State.grant`, and nothing else changes. A COMPOSITION_END without a composition
does nothing (the model's choice, notes/assumptions/6.md). -/
def Obligations.ComposerTakesAndEnds : Prop :=
  (∀ s : State, s.powered = true →
    (s.scp.composer.isSome = true ∨ s.map.valid = false ∨ s.hasPublication = false →
      exec .composerTake s = .next s) ∧
    ((∀ j ∈ s.scp.queue, s.signs[j].transfer = true) → exec .composerTake s = .next s) ∧
    (∀ (i : Fin 24) (r : SignRec) (pre post : List (Fin 24)), s.scp.composer = none → s.map.valid = true →
      s.hasPublication = true → s.sign? i.val = some r → s.scp.queue = pre ++ i :: post →
      (∀ j ∈ pre, s.signs[j].transfer = true) → s.signs[i].transfer = false →
      exec .composerTake s = .next ({ s with
        signs := setAt s.signs i { s.signs[i] with composing := true }
        scp := { s.scp with
          queue := s.scp.queue.filter (· ≠ i)
          composer := some ⟨i, s.elements r, s.rsv.generation,
            if r.matrix then drawing s.img (s.elements r) else []⟩
          arbiter :=
            if r.matrix then
              (if s.scp.arbiter.holder = none then
                { s.scp.arbiter with holder := some .composer, composerWait := false }
              else { s.scp.arbiter with composerWait := true })
            else s.scp.arbiter } } : State))) ∧
  (∀ s : State, s.powered = true → s.scp.composer = none → exec .compositionEnd s = .next s) ∧
  (∀ (s : State) (c : Composition) (r : SignRec) (x : Sign) (y : Line) (m : List Host.Cell) (face : Face) (d : Composed)
      (job : Job), s.powered = true → s.scp.composer = some c → s.sign? c.sign.val = some r → x = s.signs[c.sign] →
    y = s.flc[r.lineIndex] →
    m = c.todo.foldl (fun m op => op.apply s.img c.sign (!x.liveIsA) r.turned m) s.scp.memory →
    face = (if r.matrix then .pages (pageCount (placement s.img c.list).1)
      else .lamps (r.lampWord c.list) (r.flashMask c.list)) →
    d = { list := c.list, generation := c.generation, face, mark := r.mark c.list
          check := match face with
            | .pages n => crc16 (memBytes m (pageBase c.sign (!x.liveIsA) 0) (1152 * n))
            | .lamps word mask => crc16 [word, mask] } →
    job = ⟨c.sign, match face with
      | .pages n => .page c.generation n s.img.dwell
      | .lamps _ _ => .lamp c.generation, x.brightness⟩ →
    exec .compositionEnd s = .next (State.grant { s with
      signs := setAt s.signs c.sign { x with
        bufA := if x.liveIsA then x.bufA else some d
        bufB := if x.liveIsA then some d else x.bufB
        lastList := some c.list, composing := false
        dropped := if r.matrix then (placement s.img c.list).2 else 0 }
      flc := setAt s.flc r.lineIndex { y with
        queue := if x.link = .offline then y.queue
          else if c.sign ∈ y.queue.map Job.sign then y.queue.map (fun j => if j.sign = c.sign then job else j)
          else y.queue ++ [job] }
      scp := {
        queue := if s.elements r = c.list ∨ c.sign ∈ s.scp.queue then s.scp.queue else s.scp.queue ++ [c.sign]
        composer := none, memory := m
        arbiter := { s.scp.arbiter with
          holder := if s.scp.arbiter.holder = some .composer then none else s.scp.arbiter.holder
          composerWait := false } } })) ∧
  (∀ (m : ImgUnit) (matrix : Bool) (l : List Aspect) (e : List Element), e = elementsOf m matrix l →
    (e.map Element.pos).Pairwise (· < ·) ∧
    (∀ form flag, .closure form flag ∈ e ↔ ∃ (a c : Aspect) (pre post : List Aspect), l.head? = some a ∧
      l = pre ++ c :: post ∧ (∀ b ∈ pre, b.closed = .no) ∧ c.closed ≠ .no ∧
      form = (if a.closed ≠ .no then .roadClosed a.reason else .closedAhead) ∧
      flag = (if matrix then none else some c.emergency)) ∧
    (∀ minute, .announce minute ∈ e ↔ ∃ n, minute = n / 60 % 1440 ∧ (∃ a ∈ l, a.announced = some n) ∧
      ∀ a ∈ l, ∀ k, a.announced = some k → n ≤ k) ∧
    (∀ n, .avalanche n ∈ e ↔ 1 ≤ n ∧ (∃ a ∈ l, a.level = n) ∧ ∀ a ∈ l, a.level ≤ n) ∧
    (∀ u, .restrict u ∈ e ↔ (u.chains = true ∨ u.noHgv = true ∨ u.noTrailer = true) ∧
      (u.chains = true ↔ ∃ a ∈ l, a.restr.chains = true) ∧ (u.noHgv = true ↔ ∃ a ∈ l, a.restr.noHgv = true) ∧
      (u.noTrailer = true ↔ ∃ a ∈ l, a.restr.noTrailer = true)) ∧
    (∀ v, .speed v ∈ e ↔ ∃ a, l.head? = some a ∧ a.speed = some v) ∧
    (.ice ∈ e ↔ ∃ a, l.head? = some a ∧ (a.condition = .freeze ∨ a.condition = .near)) ∧
    (∀ id, .notice id ∈ e ↔ (m.noticeText id).isSome = true ∧ ∃ (a : Aspect) (pre post : List Aspect) (stamp : Nat),
      l = pre ++ a :: post ∧ a.notice = some (id, stamp) ∧
      (∀ b ∈ pre, ∀ x, b.notice = some x → x.2 < stamp) ∧ ∀ b ∈ post, ∀ x, b.notice = some x → x.2 ≤ stamp)) ∧
  (∀ (s : State) (r : SignRec), s.elements r = elementsOf s.img r.matrix (r.watched.map (fun g => s.aspectAt g r.facing)) ∧
    ∀ j : Nat, r.watched[j]? = (match r.facing with
      | .S => if r.first + j ≤ r.last then some (r.first + j) else none
      | .N => if r.last + j ≤ r.first then some (r.first - j) else none)) ∧
  (∀ (m : ImgUnit) (l : List Element) (parts : List Part), parts = l.flatMap (Element.parts m) →
    (placement m l).1.length + (placement m l).2 = parts.length ∧
    ((placement m l).1.map Placed.part).Sublist parts ∧
    (placement m l).1.filter (fun q => q.part.isPict) =
      ((parts.filter Part.isPict).take 2).mapIdx (fun i p => ⟨p, i, true⟩) ∧
    ((l.map Element.pos).Pairwise (· < ·) →
      (placement m l).1.filter (fun q => q.part.isText) =
        (parts.filter Part.isText).mapIdx (fun i p => ⟨p, 0, i == 0⟩) ∧
      (placement m l).1.filter (fun q => q.part.isWide) =
        (parts.filter Part.isWide).map (fun p => ⟨p, if parts.any Part.isText then 1 else 0, true⟩)) ∧
    pageCount (placement m l).1 = (if ∃ q ∈ (placement m l).1, q.page = 1 then 2 else 1)) ∧
  (∀ (r : SignRec) (l : List Element),
    (∀ j < 8, ((r.lampWord l).getLsbD j = true ↔ ∃ e ∈ l, r.lamps.getD j 7 = e.pos) ∧
      ((r.flashMask l).getLsbD j = true ↔ r.lamps.getD j 7 = 0 ∧ ∃ form, .closure form (some true) ∈ l)) ∧
    (r.mark l = true ↔ ∃ e ∈ l, e.pos = 0 ∧ (r.matrix = true ∨ ∃ j < 8, r.lamps.getD j 7 = 0))) ∧
  (∀ (m : ImgUnit) (i : Fin 24) (bufferA turned : Bool) (mem : List Host.Cell) (page base : Nat),
    base = pageBase i bufferA page →
    (∀ x y, x < 96 → y < 48 → pixelAt (DrawOp.apply m i bufferA turned mem (.clear page)) base x y = 0) ∧
    (∀ (x0 y0 x1 y1 colour x y px py : Nat) (g : Glyph), colour ≤ 3 → x < 96 → y < 48 →
      px = (if turned then 95 - x else x) → py = (if turned then 47 - y else y) →
      pixelAt (DrawOp.apply m i bufferA turned mem (.window page x0 y0 x1 y1 g colour)) base x y =
        (if x0 ≤ px ∧ px ≤ x1 ∧ y0 ≤ py ∧ py ≤ y1 then
          (if g.bit m ((py - y0) * (x1 - x0 + 1) + (px - x0)) then colour else 0)
        else pixelAt mem base x y)) ∧
    (∀ (op : DrawOp) (a : Nat), (op = .clear page ∨ ∃ x0 y0 x1 y1 g colour, op = .window page x0 y0 x1 y1 g colour) →
      a < base ∨ base + 1152 ≤ a → memRead (op.apply m i bufferA turned mem) a = memRead mem a)) ∧
  (∀ (m : ImgUnit) (l : List Element), drawing m l =
    .clear 0 :: .clear 1 :: (placement m l).1.flatMap (fun q => match q.part with
      | .pict kind digits pos =>
        .window q.page 0 0 47 47 (.pictogram kind) (m.colour pos) :: digits.mapIdx (fun i d =>
          .window q.page ((48 - 12 * digits.length) / 2 + 12 * i) 12 ((48 - 12 * digits.length) / 2 + 12 * i + 11) 35
            (.digit d) (m.colour pos))
      | .text chars pos => (chars.take 16).mapIdx (fun k c =>
          .window q.page (48 + 6 * (k % 8)) ((if q.upper then 0 else 24) + 12 * (k / 8)) (53 + 6 * (k % 8))
            ((if q.upper then 0 else 24) + 12 * (k / 8) + 11) (.char (if 32 ≤ c ∧ c ≤ 127 then c else 32))
            (m.colour pos))
      | .wide chars pos => (chars.take 32).mapIdx (fun k c =>
          .window q.page (48 + 6 * (k % 8)) (12 * (k / 8)) (53 + 6 * (k % 8)) (12 * (k / 8) + 11)
            (.char (if 32 ≤ c ∧ c ≤ 127 then c else 32)) (m.colour pos))))

/-- SIGN_PAGE_READ tests its fields in order, the sign index first, and asks for page memory, which is granted at once when
it is free; the end of an access gives the memory to the composer first, then to a line, then to a port, and an access of a
port forms its reply unless a break has discarded it, an access of the composer writes its mask and, with more to draw, asks
again once the others have been served (the model's choice, notes/assumptions/10.md). `State.grant` is this hand-over,
spelled for every state: it changes the arbiter, and for a line its transaction, and leaves page memory, the composer and
the compose queue alone, so an access that is not the composer's leaves them as they were. An end without an access does
nothing (the model's choice, notes/assumptions/6.md). The block is read at the grant and answered at the end of the access,
and without a valid map the empty reply is given at once (the model's choices, notes/assumptions/20.md); the reply's layout
is the model's too (notes/assumptions/12.md), as are the order of BAD_VALUE and BAD_RANGE and the class of a sign without a
trusted record (notes/assumptions/33.md), the reply to a sign beyond the table under MAP_INVALID (notes/assumptions/30.md),
and that a port's queue can hold more than one read: one that a break discarded keeps its turn and a new one of the port
stands behind it (notes/assumptions/10.md), where R143 gives each requester one. -/
def Obligations.PageMemoryIsShared : Prop :=
  (∀ (p : Port) (tag : Byte) (args : List Byte) (s : State), s.takes p .signPageRead args →
    24 ≤ get8 args 0 ∨ readBound s s.img.counts.signs 24 ≤ get8 args 0 →
    exec (.signPageRead p tag args) s = .next (s.answer ⟨p, 0x11, tag⟩ .badRange [])) ∧
  (∀ (p : Port) (tag : Byte) (args : List Byte) (s : State) (i : Fin 24), s.takes p .signPageRead args →
    get8 args 0 = i.val → i.val < readBound s s.img.counts.signs 24 →
    (1 < get8 args 1 → exec (.signPageRead p tag args) s = .next (s.answer ⟨p, 0x11, tag⟩ .badValue [])) ∧
    (get8 args 1 ≤ 1 → 1 < get8 args 2 ∨ 8 < get8 args 3 →
      exec (.signPageRead p tag args) s = .next (s.answer ⟨p, 0x11, tag⟩ .badRange [])) ∧
    (get8 args 1 ≤ 1 → get8 args 2 ≤ 1 → get8 args 3 ≤ 8 → ∀ q : PageReq,
      q = ⟨true, tag, i, get8 args 1 == 1, get8 args 2, get8 args 3⟩ →
      (s.lampSign i.val = true → get8 args 3 ≠ 0 →
        exec (.signPageRead p tag args) s = .next (s.answer ⟨p, 0x11, tag⟩ .badRange [])) ∧
      (s.lampSign i.val = false ∨ get8 args 3 = 0 →
        (s.map.valid = false → exec (.signPageRead p tag args) s =
          .next (s.answer ⟨p, 0x11, tag⟩ .ok (s.pageData q ++ mapStateTail s))) ∧
        (s.map.valid = true → exec (.signPageRead p tag args) s = .next (State.grant { (s.serving p) with
          scp := { s.scp with arbiter := { s.scp.arbiter with
            portWait := setAt s.scp.arbiter.portWait (portIndex p)
              (s.scp.arbiter.portWait[portIndex p] ++ [q]) } } })) ∧
        (s.map.valid = true → s.scp.arbiter.holder.isSome = true →
          exec (.signPageRead p tag args) s = .next ({ (s.serving p) with
            scp := { s.scp with arbiter := { s.scp.arbiter with
              portWait := setAt s.scp.arbiter.portWait (portIndex p)
                (s.scp.arbiter.portWait[portIndex p] ++ [q]) } } } : State)) ∧
        (s.map.valid = true → s.scp.arbiter.holder = none → s.scp.arbiter.composerWait = false →
          (∀ l : Fin 2, s.scp.arbiter.lineWait[l] = false) →
          (∀ k : Fin 3, s.scp.arbiter.portWait[k] = []) → p ∈ s.scp.arbiter.portOrder →
          exec (.signPageRead p tag args) s = .next ({ (s.serving p) with
            scp := { s.scp with arbiter := { s.scp.arbiter with
              holder := some (.port p (some (replyBody 0x11 tag .ok (s.pageData q))))
              portOrder := s.scp.arbiter.portOrder.filter (· ≠ p) ++ [p] } } } : State))))) ∧
  (∀ (s v : State), s.powered = true →
    v = { s with scp := { s.scp with arbiter := { s.scp.arbiter with holder := none } } } →
    (s.scp.arbiter.holder = none → exec .pageMemoryAccessEnd s = .next s) ∧
    (∀ l : Fin 2, s.scp.arbiter.holder = some (.line l) → exec .pageMemoryAccessEnd s = .next (State.grant v)) ∧
    (∀ p : Port, s.scp.arbiter.holder = some (.port p none) →
      exec .pageMemoryAccessEnd s = .next (State.grant v)) ∧
    (∀ (p : Port) (body : List Byte) (w : State), s.scp.arbiter.holder = some (.port p (some body)) → w = State.grant v →
      exec .pageMemoryAccessEnd s =
        .next (w.setPort p { w.port p with service := .replyWait, reply := some body })) ∧
    (s.scp.arbiter.holder = some .composer →
      (∀ c, s.scp.composer = some c → c.todo = [] ∨ s.sign? c.sign.val = none) →
      exec .pageMemoryAccessEnd s = .next (State.grant v)) ∧
    (∀ (c : Composition) (r : SignRec) (op : DrawOp) (rest : List DrawOp) (w : State),
      s.scp.arbiter.holder = some .composer → s.scp.composer = some c → s.sign? c.sign.val = some r → c.todo = op :: rest →
      w = State.grant { v with scp := { v.scp with
        memory := op.apply s.img c.sign (!s.signs[c.sign].liveIsA) r.turned s.scp.memory
        composer := some { c with todo := rest } } } →
      (rest = [] → exec .pageMemoryAccessEnd s = .next w) ∧
      (rest ≠ [] → exec .pageMemoryAccessEnd s = .next (State.grant
        { w with scp := { w.scp with arbiter := { w.scp.arbiter with composerWait := true } } })))) ∧
  (∀ (s : State) (a : Arbiter) (line : Option (Fin 2)) (port : Option Port), a = s.scp.arbiter →
    line = a.lineOrder.find? (fun l => a.lineWait[l]) →
    port = a.portOrder.find? (fun p => decide (a.portWait[portIndex p] ≠ [])) →
    (a.holder.isSome = true → State.grant s = s) ∧
    (a.holder = none → a.composerWait = true →
      State.grant s = { s with scp := { s.scp with
        arbiter := { a with holder := some .composer, composerWait := false } } }) ∧
    (∀ (l : Fin 2) (u : State), a.holder = none → a.composerWait = false → line = some l →
      u = { s with scp := { s.scp with arbiter := { a with
        holder := some (.line l), lineWait := setAt a.lineWait l false
        lineOrder := a.lineOrder.filter (· ≠ l) ++ [l] } } } →
      ((s.flc[l]).trans = none → State.grant s = u) ∧
      (∀ t : Trans, (s.flc[l]).trans = some t →
        ((∀ gen, t.kind ≠ .lamp gen) →
          State.grant s = u.setLine l { s.flc[l] with trans := some { t with granted := true } }) ∧
        (∀ (gen : Nat) (draft : Option Composed) (lamps : Byte × Byte), t.kind = .lamp gen →
          draft = (if (s.signs[t.sign]).liveIsA then (s.signs[t.sign]).bufB else (s.signs[t.sign]).bufA) →
          lamps = (match draft.map Composed.face with
            | some (.lamps word mask) => (word, mask)
            | some (.pages _) | none => (0#8, 0#8)) →
          State.grant s = u.setLine l { s.flc[l] with
            trans := some { t with granted := true }
            wire := some (fieldFrame (s.dropOf t.sign) 4 ([lamps.1, lamps.2] ++ put8 t.level)) }))) ∧
    (∀ (p : Port) (q : PageReq) (rest : List PageReq), a.holder = none → a.composerWait = false → line = none →
      port = some p → a.portWait[portIndex p] = q :: rest →
      State.grant s = { s with scp := { s.scp with arbiter := { a with
        holder := some (.port p (if q.owed then some (replyBody 0x11 q.tag .ok (s.pageData q)) else none))
        portWait := setAt a.portWait (portIndex p) rest
        portOrder := a.portOrder.filter (· ≠ p) ++ [p] } } }) ∧
    (a.holder = none → a.composerWait = false → line = none → port = none → State.grant s = s)) ∧
  (∀ (s : State) (q : PageReq) (x : Sign) (bufferA : Bool) (held : Option Composed) (head : List Byte),
    x = s.signs[q.sign] → bufferA = (if q.draft then !x.liveIsA else x.liveIsA) →
    held = (if bufferA then x.bufA else x.bufB) →
    head = put8 q.sign.val ++ putFlag q.draft ++ put8 q.page ++ put8 q.block →
    (held = none → s.pageData q =
      head ++ [0xFF#8, 0xFF#8, 0#8, 0xFF#8, 0xFF#8] ++ putFlag x.composing ++ [1#8]) ∧
    (∀ (d : Composed) (full : List Byte), held = some d →
      full = head ++ put16 d.generation ++ putFlag d.mark ++ put16 d.check.toNat ++ putFlag x.composing →
      (∀ n, d.face = .pages n →
        (q.page < n → s.pageData q =
          full ++ 0#8 :: memBytes s.scp.memory (pageBase q.sign bufferA q.page + 128 * q.block) 128) ∧
        (n ≤ q.page → s.pageData q = full ++ [1#8])) ∧
      (∀ word mask, d.face = .lamps word mask →
        (q.page = 0 → s.pageData q = full ++ 0#8 :: word :: mask :: List.replicate 126 0#8) ∧
        (q.page ≠ 0 → s.pageData q = full ++ [1#8]))))

/-! ### Field lines -/

/-- An IDLE line takes the first job whose sign is not composing and that is not held back by FAULT, and otherwise polls the
first due sign after the poll pointer; a transfer sets the transfer flag and reports PENDING; a line that is not IDLE, or
has another kind of job first, takes nothing. -/
def Obligations.LinesTakeJobsAndPolls : Prop :=
  ∀ (l : Fin 2) (s : State), s.powered = true →
    (s.flc[l].phase ≠ .idle →
      exec (.pageTransfer l) s = .next s ∧ exec (.lampTransfer l) s = .next s ∧
        exec (.brightnessJob l) s = .next s ∧ exec (.poll l) s = .next s) ∧
    (∀ (j : Job) (x : Sign), s.flc[l].phase = .idle → x = s.signs[j.sign] →
      (s.flc[l]).queue.find? (fun j => !s.signs[j.sign].composing &&
        (s.signs[j.sign].mismatch != 3 || s.due l j.sign)) = some j →
      exec (.poll l) s = .next s ∧
      (∀ gen pages dwell, j.kind = .page gen pages dwell → ∃ t, exec (.pageTransfer l) s = .next t ∧
        t = { s with
          flc := setAt s.flc l { s.flc[l] with
            phase := .transmit, badReply := false, queue := (s.flc[l]).queue.filter (fun y => y.sign ≠ j.sign)
            trans := some ⟨.page gen pages dwell, j.sign, j.level, 0, false⟩
            wire := some (fieldFrame (s.dropOf j.sign) 1 (put16 gen ++ put8 pages ++ put8 dwell ++ put8 j.level)) }
          signs := setAt s.signs j.sign { x with transfer := true, link := .pending, confirmed := false }
          gtc := t.gtc, avp := t.avp, prt := t.prt } ∧
        (x.confirmed = false → t.gtc = s.gtc ∧ t.avp = s.avp ∧ t.prt = s.prt) ∧
        exec (.lampTransfer l) s = .next s ∧ exec (.brightnessJob l) s = .next s) ∧
      (∀ gen, j.kind = .lamp gen → ∃ t, exec (.lampTransfer l) s = .next t ∧
        t = { s with
          flc := t.flc, scp := t.scp, gtc := t.gtc, avp := t.avp, prt := t.prt
          signs := setAt s.signs j.sign { x with transfer := true, link := .pending, confirmed := false } } ∧
        t.scp = { s.scp with arbiter := t.scp.arbiter } ∧
        (t.flc[l]).queue = (s.flc[l]).queue.filter (fun y => y.sign ≠ j.sign) ∧ t.flc[l].phase = .transmit ∧
        (s.scp.arbiter.holder = none → s.scp.arbiter.composerWait = false →
          (∀ m : Fin 2, s.scp.arbiter.lineWait[m] = false) → l ∈ s.scp.arbiter.lineOrder →
          t.scp.arbiter.holder = some (.line l) ∧
          t.flc[l].trans = some ⟨.lamp gen, j.sign, j.level, 0, true⟩ ∧
          t.flc[l].wire = some (fieldFrame (s.dropOf j.sign) 4 ([x.draftLamps.1, x.draftLamps.2] ++ put8 j.level))) ∧
        (∀ h : Holder, s.scp.arbiter.holder = some h → h ≠ .line l →
          t.scp.arbiter = { s.scp.arbiter with lineWait := setAt s.scp.arbiter.lineWait l true } ∧
          t.flc[l].trans = some ⟨.lamp gen, j.sign, j.level, 0, false⟩ ∧ t.flc[l].wire = none)) ∧
      (j.kind = .bright → exec (.brightnessJob l) s = .next (s.setLine l { s.flc[l] with
        phase := .transmit, badReply := false, queue := (s.flc[l]).queue.filter (fun y => y.sign ≠ j.sign)
        trans := some ⟨.bright, j.sign, j.level, 0, false⟩
        wire := some (fieldFrame (s.dropOf j.sign) 5 (put8 j.level)) }))) ∧
    (∀ (i : Fin 24) (addr n : Nat), s.flc[l].phase = .idle → (∀ j ∈ (s.flc[l]).queue, s.takeable l j = false) →
      n < 31 → addr = (s.flc[l].pollPtr.getD 0 + n) % 31 + 1 → s.dueAt l addr = some i →
      (∀ m < n, s.dueAt l ((s.flc[l].pollPtr.getD 0 + m) % 31 + 1) = none) →
      exec (.poll l) s = .next (s.setLine l { s.flc[l] with
        phase := .transmit, badReply := false, pollPtr := some addr, trans := some ⟨.poll, i, 0, 0, false⟩
        wire := some (fieldFrame addr 6 []) }))

/-- The frames of a transaction: a granted block of DRAFT is sent, the next block is asked for, PAGE_END follows the last one,
and after the last frame the line awaits its reply; an invalid reply, a stray character and an expired poll timer are
counted or stored, and change nothing else. A line that still holds page memory when its frame is sent ends that access by
asking again (the model's choice, notes/assumptions/20.md). That a reply which a gap cuts off, or whose length alone is wrong,
is counted under no reply counter is the model's choice too (notes/assumptions/36.md). -/
def Obligations.FramesOfATransaction : Prop :=
  (∀ (l : Fin 2) (s : State) (t : Trans), s.powered = true → s.flc[l].phase = .transmit → s.flc[l].trans = some t →
    (∀ gen pages dwell, t.kind = .page gen pages dwell →
      (s.flc[l].wire = none → t.granted = true → exec (.pageBlock l) s = .next (s.setLine l { s.flc[l] with
        trans := some { t with sent := t.sent + 1, granted := false }
        wire := some (fieldFrame (s.dropOf t.sign) 2 (put8 (t.sent / 9) ++ put8 (t.sent % 9) ++
          memBytes s.scp.memory
            (pageBase t.sign (!s.signs[t.sign].liveIsA) (t.sent / 9) + 128 * (t.sent % 9)) 128)) })) ∧
      (s.flc[l].wire = none → t.granted = false → exec (.pageBlock l) s = .next s) ∧
      (s.flc[l].wire.isSome = true →
        (t.sent < 9 * pages → s.scp.arbiter.holder = none ∨ s.scp.arbiter.holder = some (.line l) →
          s.scp.arbiter.composerWait = false → (∀ m : Fin 2, s.scp.arbiter.lineWait[m] = false) →
          l ∈ s.scp.arbiter.lineOrder →
          exec (.fieldFrameSent l) s = .next ((s.setLine l { s.flc[l] with
            wire := none, trans := some { t with granted := true } }).setArbiter { s.scp.arbiter with
              holder := some (.line l), lineOrder := s.scp.arbiter.lineOrder.filter (· ≠ l) ++ [l] })) ∧
        (t.sent = 9 * pages → exec (.fieldFrameSent l) s = .next (s.setLine l { s.flc[l] with
          trans := some { t with sent := t.sent + 1 }, wire := some (fieldFrame (s.dropOf t.sign) 3 []) })) ∧
        (9 * pages < t.sent → exec (.fieldFrameSent l) s = .next (s.setLine l { s.flc[l] with
          phase := .replyWait, wire := none })))) ∧
    ((∀ gen pages dwell, t.kind ≠ .page gen pages dwell) → s.flc[l].wire.isSome = true →
      exec (.fieldFrameSent l) s = .next (s.setLine l { s.flc[l] with phase := .replyWait, wire := none }))) ∧
  (∀ (l : Fin 2) (s : State) (cause : InvalidCause) (ch : CharStatus), s.powered = true →
    (s.flc[l].phase = .replyWait → s.flc[l].badReply = false →
      exec (.invalidReply l cause) s = .next (s.setLine l { s.flc[l] with
        badReply := true
        counters := match cause with
          | .badCheck => { s.flc[l].counters with check := cnt s.flc[l].counters.check 1 }
          | .foreign => { s.flc[l].counters with foreign := cnt s.flc[l].counters.foreign 1 }
          | .badLength | .gap => s.flc[l].counters
          | .status chars => chars.foldl LineCounters.addStatus s.flc[l].counters })) ∧
    (s.flc[l].phase = .transmit → exec (.strayCharacter l ch) s = .next s) ∧
    (s.flc[l].phase ≠ .transmit → exec (.strayCharacter l ch) s = .next (s.setLine l { s.flc[l] with
      counters := { s.flc[l].counters with
        parity := cnt s.flc[l].counters.parity ch.parity.toNat
        framing := cnt s.flc[l].counters.framing ch.framing.toNat
        overrun := cnt s.flc[l].counters.overrun ch.overrun.toNat
        stray := cnt s.flc[l].counters.stray 1 } }))) ∧
  (∀ (i : Fin 24) (r : SignRec) (s : State), s.powered = true → s.linedSign? i.val = some r →
    exec (.pollTimerExpiry i) s = .next (s.setSign i { s.signs[i] with pollTimer := r.poll }))

/-- The outcomes of a transaction, each an exact next state: a valid reply stores what it reports, records SIGN_DOOR when the
door flag is new or differs and SIGN_DEGRADED when the degraded flag becomes set, and only then; a CONFIRM that matches DRAFT
exchanges the buffers, one that does not puts the job back as MISMATCH or, the third time, FAULT; a STATUS moves the link by
the table of R153; no reply counts towards OFFLINE, and makes the link of a transfer PENDING. The last clause spells
`State.reviewConfirmed`: a change of closure-confirmed is stored and reported to the gates and the paths, which
`GateTimersMoveTheGate` and `HoldIsConfirmedOrFails` spell (to GTC first, the model's choice, notes/assumptions/9.md). That
both events come before the outcome, and that PENDING is the link of a sign in FAULT too, are the model's choice and its
reading of R151 (notes/assumptions/26.md). -/
def Obligations.RepliesDecideTheLink : Prop :=
  (∀ (l : Fin 2) (s a b c : State) (t : Trans) (q : SignReply) (x y : Sign) (n limit : Nat) (o : Bool),
    s.powered = true → s.flc[l].phase = .replyWait → s.flc[l].badReply = false → s.flc[l].trans = some t →
    x = s.signs[t.sign] → n = min 63 q.lampFaults.toNat → limit = s.img.lampFaultLimit l → o = decide (q.door ≠ 0#8) →
    y = { x with
      pollTimer := 0, noReply := 0, repGen := some q.generation.toNat, repCheck := some q.check, door := some o
      lampFaults := some n, degraded := decide (limit ≤ n) } →
    a = s.setLine l { s.flc[l] with phase := .idle, trans := none, wire := none } →
    b = (if x.door = some o then a else a.record (.signDoor t.sign.val o)) →
    c = (if limit ≤ n ∧ x.degraded = false then b.record (.signDegraded t.sign.val n limit) else b) →
    (∀ k : JobKind, t.kind.job = some k → t.kind ≠ .bright →
      (x.draft.map Composed.check = some q.check → exec (.confirm l q) s = .next
        ((c.setSign t.sign { y with
          transfer := false, mismatch := 0, link := .confirmed, liveIsA := !x.liveIsA }).reviewConfirmed t.sign)) ∧
      (x.draft.map Composed.check ≠ some q.check → ∀ (u : State) (j : Job), j = ⟨t.sign, k, x.brightness⟩ →
        u = (c.setSign t.sign { y with
          transfer := false, mismatch := min 3 (x.mismatch + 1)
          link := if 2 ≤ x.mismatch then .fault else .mismatch }).reviewConfirmed t.sign →
        exec (.confirm l q) s = .next (u.setLine l { a.flc[l] with
          queue := if t.sign ∈ (s.flc[l]).queue.map Job.sign then
            (s.flc[l]).queue.map (fun w => if w.sign = t.sign then j else w) else (s.flc[l]).queue ++ [j] }))) ∧
    (t.kind = .bright ∨ t.kind = .poll →
      (x.link ≠ .offline → x.link ≠ .confirmed ∨ x.live.map Composed.check = some q.check →
        exec (.status l q) s = .next (c.setSign t.sign y)) ∧
      (x.link = .offline ∨ (x.link = .confirmed ∧ x.live.map Composed.check ≠ some q.check) → ∀ u : State,
        u = (c.setSign t.sign { y with
          link := if x.link = .offline then .pending else .mismatch }).reviewConfirmed t.sign →
        (s.map.valid = false → exec (.status l q) s = .next u) ∧
        (s.map.valid = true → exec (.status l q) s = .next { u with scp := { s.scp with
          queue := if t.sign ∈ s.scp.queue then s.scp.queue else s.scp.queue ++ [t.sign] } })))) ∧
  (∀ (l : Fin 2) (s a : State) (t : Trans) (x : Sign) (v w : Line), s.powered = true → s.flc[l].phase = .replyWait →
    s.flc[l].trans = some t → x = s.signs[t.sign] →
    v = { s.flc[l] with
      phase := .idle, trans := none, wire := none, badReply := false
      counters := { s.flc[l].counters with noReply := cnt s.flc[l].counters.noReply 1 } } →
    w = { v with queue := (s.flc[l]).queue.filter (fun j => j.sign ≠ t.sign) } → a = s.setLine l v →
    (∀ (k : JobKind) (j : Job), t.kind.job = some k → j = ⟨t.sign, k, x.brightness⟩ →
      (t.kind ≠ .bright →
        (x.noReply < 2 → ∀ u : State,
          u = (a.setSign t.sign { x with
            pollTimer := 0, transfer := false, noReply := x.noReply + 1, link := .pending }).reviewConfirmed t.sign →
          exec (.replyLimitExpiry l) s = .next (u.setLine l { v with
            queue := if t.sign ∈ (s.flc[l]).queue.map Job.sign then
              (s.flc[l]).queue.map (fun w => if w.sign = t.sign then j else w) else (s.flc[l]).queue ++ [j] })) ∧
        (2 ≤ x.noReply → exec (.replyLimitExpiry l) s = .next
          (((s.setLine l w).setSign t.sign { x with
            pollTimer := 0, transfer := false, noReply := 3, link := .offline }).reviewConfirmed t.sign))) ∧
      (t.kind = .bright → x.noReply < 2 → ∀ u : State,
        u = a.setSign t.sign { x with pollTimer := 0, noReply := x.noReply + 1 } →
        (x.link = .offline ∨ t.sign ∈ (s.flc[l]).queue.map Job.sign →
          exec (.replyLimitExpiry l) s = .next u) ∧
        (x.link ≠ .offline → t.sign ∉ (s.flc[l]).queue.map Job.sign →
          exec (.replyLimitExpiry l) s = .next (u.setLine l { v with queue := (s.flc[l]).queue ++ [j] })))) ∧
    (t.kind = .poll → x.noReply < 2 → exec (.replyLimitExpiry l) s =
      .next (a.setSign t.sign { x with pollTimer := 0, noReply := x.noReply + 1 })) ∧
    (t.kind = .bright ∨ t.kind = .poll → 2 ≤ x.noReply →
      (x.link = .offline → exec (.replyLimitExpiry l) s =
        .next (a.setSign t.sign { x with pollTimer := 0, noReply := 3 })) ∧
      (x.link ≠ .offline → exec (.replyLimitExpiry l) s = .next
        (((s.setLine l w).setSign t.sign { x with pollTimer := 0, noReply := 3, link := .offline }).reviewConfirmed
          t.sign)))) ∧
  (∀ (i : Fin 24) (s : State) (c : Bool),
    c = (decide (s.signs[i].link = .confirmed) && ((s.signs[i]).live.map Composed.mark).getD false) →
    (s.signs[i].confirmed = c → s.reviewConfirmed i = s) ∧
    (s.signs[i].confirmed ≠ c → s.reviewConfirmed i =
      ((s.setSign i { s.signs[i] with confirmed := c }).reportSignToGates i).reportSignToPaths i))

/-! ### Stored image and starts -/

/-- IMAGE_READ replies with the row, its check flag and the differs flag; IMAGE_WRITE puts a write in flight, behind which
requests wait in order, those of a row above 1023 too (the model's choice, notes/assumptions/26.md); at its completion the
row holds the new bytes with their check, the reply is formed, and then the next waiting request is taken, or a waiting
RESTART begins once the reply is queued. With no write in flight the completion changes nothing (the model's choice,
notes/assumptions/6.md). The differs flag compares the stored check too (the model's choice, notes/assumptions/38.md). -/
def Obligations.RowsAreReadAndWritten : Prop :=
  (∀ (p : Port) (tag : Byte) (args : List Byte) (s : State) (n : Nat), n = get16 args 0 →
    (s.takes p .imageRead args → s.img.writing = none → s.img.replyTo = none → s.img.waiting = [] →
      (n ≤ 1023 → exec (.imageRead p tag args) s = .next (s.answer ⟨p, 0x14, tag⟩ .ok
        ((s.img.rows.get n).data ++ putFlag (s.img.rows.get n).passes ++ putFlag (s.img.differs n)))) ∧
      (1023 < n → exec (.imageRead p tag args) s = .next (s.answer ⟨p, 0x14, tag⟩ .badRange []))) ∧
    (s.takes p .imageRead args → s.img.writing.isSome = true ∨ s.img.replyTo.isSome = true →
      exec (.imageRead p tag args) s =
        .next ({ (s.serving p) with img := { s.img with waiting := s.img.waiting ++ [⟨some p, tag, n, none⟩] } } : State)) ∧
    (s.takes p .imageWrite args → s.img.writing = none → s.img.replyTo = none → s.img.waiting = [] →
      (n ≤ 1023 → exec (.imageWrite p tag args) s =
        .next ({ (s.serving p) with img := { s.img with writing := some ⟨some p, tag, n, some (args.drop 2)⟩ } } : State)) ∧
      (1023 < n → exec (.imageWrite p tag args) s = .next (s.answer ⟨p, 0x15, tag⟩ .badRange []))) ∧
    (s.takes p .imageWrite args → s.img.writing.isSome = true ∨ s.img.replyTo.isSome = true →
      exec (.imageWrite p tag args) s = .next ({ (s.serving p) with
        img := { s.img with waiting := s.img.waiting ++ [⟨some p, tag, n, some (args.drop 2)⟩] } } : State))) ∧
  (∀ (s : State) (q : ImgReq) (d : List Byte) (u v : State), s.powered = true → s.img.writing = some q →
    q.data = some d → u = { s with img := { s.img with
      rows := s.img.rows.set q.row ⟨d, crc16 d⟩, writing := none
      written := if q.row ∈ s.img.written then s.img.written else s.img.written ++ [q.row] } } →
    v = (match q.port with
      | some p => u.answer ⟨p, 0x15, q.tag⟩ .ok (putFlag (u.img.rows.get q.row).passes)
      | none => u) →
    (s.img.restarting = false →
      (s.img.waiting = [] → exec .rowWriteComplete s = .next v) ∧
      (∀ (w : ImgReq) (rest : List ImgReq), s.img.waiting = w :: rest → w.row ≤ 1023 → w.data.isSome = true →
        exec .rowWriteComplete s = .next { v with img := { v.img with writing := some w, waiting := rest } }) ∧
      (∀ (w : ImgReq) (p : Port) (x : State), s.img.waiting = [w] → w.port = some p →
        x = { v with img := { v.img with waiting := [] } } →
        (w.row ≤ 1023 → w.data = none → exec .rowWriteComplete s = .next (x.answer ⟨p, 0x14, w.tag⟩ .ok
          ((u.img.rows.get w.row).data ++ putFlag (u.img.rows.get w.row).passes ++ putFlag (u.img.differs w.row)))) ∧
        (1023 < w.row → exec .rowWriteComplete s =
          .next (x.answer ⟨p, if w.data.isSome then 0x15 else 0x14, w.tag⟩ .badRange [])))) ∧
    (s.img.restarting = true →
      (∀ p, q.port = some p →
        exec .rowWriteComplete s = .next { v with img := { v.img with replyTo := some p } }) ∧
      (q.port = none → exec .rowWriteComplete s = .next (u.start .request)))) ∧
  (∀ (s : State), s.powered = true → s.img.writing = none → exec .rowWriteComplete s = .next s)

/-- The starts: RESTART waits for a row write in flight, a pin or power start cuts it off, as a loss of power does; POWER_UP
tests the retained check, which the backup supply may have spoilt (the model's choice of its operand and of what a device
without supply does, notes/assumptions/19.md); a warm start keeps the orders that fit and have not ended, the order counters,
the generation and the clock, a cold one clears them; RESTARTED stands first in every queue; the rows are loaded, the map is
checked, and every block is in its start state, with page memory all zero (notes/assumptions/3.md). Under MAP_INVALID a gate
with a record has its state from its limits, its drive OFF and its lantern dark. The model's own are also: the first scan in
flight inside the start (an inference, notes/assumptions/24.md), a RESTART that begins at once while another waits for its
reply (notes/assumptions/26.md), the bytes of a cut-off row and their counter (notes/assumptions/5.md), that POWER_UP
starts a powered device too (notes/assumptions/6.md), that a port's line counts as marking after a start
(notes/assumptions/37.md), and that the obstruction level of a gate is taken from its pin at a start under MAP_INVALID
(notes/assumptions/39.md). -/
def Obligations.StartsResetTheBlocks : Prop :=
  (∀ (p : Port) (tag : Byte) (s : State), s.takes p .restart [] →
    (s.img.writing.isSome = true → exec (.restart p tag []) s =
      .next ({ (s.serving p) with img := { s.img with restarting := true } } : State)) ∧
    (s.img.writing = none → exec (.restart p tag []) s = .next (s.start .request))) ∧
  (∀ s : State, (s.powered = false → exec .resetPin s = .next s) ∧
    (s.powered = true → exec .resetPin s = .next (s.start .pin)) ∧
    (s.img.retained = true → exec (.powerUp true) s = .next (s.start .powerWarm)) ∧
    (s.img.retained = false → exec (.powerUp true) s = .next (s.start .powerCold)) ∧
    exec (.powerUp false) s = .next (s.start .powerCold) ∧
    (s.powered = true → ∃ u : State, exec .mainPowerLoss s = .next u ∧
      u = { s with powered := false, gtc := u.gtc, img := u.img, cuts := u.cuts } ∧
      (s.img.writing = none → u.img = s.img ∧ u.cuts = s.cuts) ∧
      (∀ q, s.img.writing = some q → u.cuts = s.cuts + 1 ∧ u.img = { s.img with
        rows := s.img.rows.set q.row (State.cutRow s.cuts), writing := none }) ∧
      (∀ g : Fin 8, u.gtc[g] = { s.gtc[g] with
        drive := .off, waitingLine := none, periods := 0, duty := 0, lantern := .dark }))) ∧
  (∀ (c : StartCause) (s : State) (q : ImgReq), s.img.writing = some q → s.start c = State.start c
    { s with cuts := s.cuts + 1
             img := { s.img with rows := s.img.rows.set q.row (State.cutRow s.cuts), writing := none } }) ∧
  (∀ (c : StartCause) (s t : State), t = s.start c → s.img.writing = none →
    t.powered = true ∧ t.pins = s.pins ∧ t.pending = s.pending ∧ t.cuts = s.cuts ∧
    t.img = { rows := s.img.rows, loaded := s.img.rows, failed := s.img.rows.failing, written := [], writing := none
              waiting := [], restarting := false, replyTo := none
              clock := if c = .powerCold then 0 else s.img.clock
              timeUnset := if c = .powerCold then true else s.img.timeUnset
              retained := if c = .powerCold then true else s.img.retained } ∧
    t.map = t.img.mapUnit ∧
    t.rsv = ⟨Vector.replicate 32 .unknown, if c = .powerCold then 0 else s.rsv.generation, true, none⟩ ∧
    t.ord.counter = (if c = .powerCold then 0 else s.ord.counter) ∧ (c = .powerCold → t.ord.table = []) ∧
    (c ≠ .powerCold → s.ascending → ∀ o ∈ s.ord.table,
      ((t.map.valid = true ∧ t.fits o = false) ∨ o.ended s.img.clock = true → t.ord.find o.number = none) ∧
      ((t.map.valid = true → t.fits o = true) → o.ended s.img.clock = false →
        (o.state = .active → t.ord.find o.number = some o) ∧
        (o.state ≠ .active → ∃ stamp, t.ord.find o.number = some { o with
          state := o.stateAt s.img.clock, stamp := stamp } ∧ (o.stateAt s.img.clock ≠ .active → stamp = o.stamp)))) ∧
    t.cnd = Vector.replicate 6 .atStart ∧ t.signs = Vector.replicate 24 .atStart ∧
    t.flc = Vector.replicate 2 .atStart ∧ t.scp.composer = none ∧ t.scp.memory = [] ∧
    t.scp.queue = (List.finRange 24).filter (fun i => (t.sign? i.val).isSome) ∧
    (∀ p : Port, t.port p = { PortUnit.atStart with notices := (t.port p).notices, lost := (t.port p).lost } ∧
      ((t.port p).lost = 0 → (t.port p).notices.head? = some ⟨.restarted c t.map (countFailed t.img.failed 67 81)
        (countFailed t.img.failed 82 85) (countFailed t.img.failed 86 340) (countFailed t.img.failed 341 457)
        t.rsv.generation t.img.timeUnset, t.img.clock, t.img.timeUnset⟩)) ∧
    (∀ channels : Vector ChanCfg 16,
      (∀ k : Fin 16, channels[k] = ⟨t.img.startEnable k.val, (t.img.trim k.val).1, (t.img.trim k.val).2⟩) →
      t.mea = { table := channels, lastEnables := Vector.ofFn (fun k : Fin 16 => (channels[k]).enable)
                scan := some { copy := channels, work := Vector.replicate 16 .atStart, cref := none
                               todo := (List.finRange 16).filter (fun k => decide (k.val ≤ 1) || (channels[k]).enable)
                               got := [], k := 130, uncorrected := false }
                scanTimer := 0, chans := Vector.replicate 16 .atStart, scanNumber := 0, lastGood := none, refFaults := 0
                k := 130, anemometers := Vector.replicate 3 ⟨0, false, none⟩, wind := Vector.replicate 6 [] }) ∧
    (∀ k : Fin 12, t.avp[k] = (match t.path? k.val, t.ord.tripEntry k.val with
      | some r, some e => { Path.atStart with
        state := if t.map.valid = true ∧ r.input.isSome = true then .tripped else .latched, tripOrder := some e.number }
      | _, _ => .atStart)) ∧
    (∀ (g : Fin 8) (r : GateRec), t.map.valid = true → t.gate? g.val = some r →
      t.gtc[g].drive = .dead ∧ t.gtc[g].demand = none ∧ t.gtc[g].inhibit = false ∧ t.gtc[g].retries = 0 ∧
      t.gtc[g].state = (if s.pins[g].openLimit = s.pins[g].closedLimit then .fault
        else if s.pins[g].openLimit then .opened else .closed)) ∧
    (∀ (g : Fin 8) (r : GateRec), t.map.valid = false → t.gate? g.val = some r →
      t.gtc[g] = { Gate.unused with
        openLimit := s.pins[g].openLimit, closedLimit := s.pins[g].closedLimit, obstruction := s.pins[g].obstruction
        state := if s.pins[g].openLimit = s.pins[g].closedLimit then .fault
          else if s.pins[g].openLimit then .opened else .closed
        cause := if s.pins[g].openLimit = s.pins[g].closedLimit then
          some (if s.pins[g].openLimit then .limitConflict else .displaced) else none } ∧
      t.gtc[g].drive = .off ∧ t.gtc[g].lantern = .dark ∧ t.gtc[g].inhibit = false ∧ t.gtc[g].retries = 0 ∧
      t.gtc[g].demand = none)) ∧
  (∀ (m : ImgUnit),
    (m.header = none → m.mapUnit = ⟨false, some ⟨.mc01, .header, 0⟩, 1⟩) ∧
    (∀ h : List Byte, m.header = some h → (m.mapUnit.valid = true ↔
      (∀ n ∈ m.counts.rows, m.ok n = true) ∧
      (get8 h 0 = m.counts.segments ∧ get8 h 1 = m.counts.signs ∧ get8 h 2 = m.counts.gates ∧
        get8 h 3 = m.counts.paths ∧ get8 h 4 = m.counts.stations) ∧
      (headerFields h = true ∧
        (∀ i < m.counts.segments, m.ok (rowOfSegment i) = true → segmentFields (m.row (rowOfSegment i)) = true) ∧
        (∀ i < m.counts.signs, m.ok (rowOfSign i) = true → signFields (m.row (rowOfSign i)) = true) ∧
        (∀ i < m.counts.gates, m.ok (rowOfGate i) = true → gateFields (m.row (rowOfGate i)) = true) ∧
        (∀ i < m.counts.paths, m.ok (rowOfPath i) = true → pathFields (m.row (rowOfPath i)) = true) ∧
        (∀ i < m.counts.stations, m.ok (rowOfStation i) = true → stationFields (m.row (rowOfStation i)) = true)) ∧
      ((∀ i r, m.segment? i = some r → ∀ k, r.station = some k → k < m.counts.stations) ∧
        (∀ i r, m.sign? i = some r → r.first < m.nseg ∧ r.last < m.nseg) ∧
        (∀ i r, m.gate? i = some r → r.seg < m.nseg ∧ ∀ j ∈ r.approach, j < m.counts.signs) ∧
        (∀ i r, m.path? i = some r → r.first < m.nseg ∧ r.last < m.nseg ∧ ∀ g ∈ r.barriers, g < m.counts.gates)) ∧
      (∀ k r, m.station? k = some r → ∀ a b c, a ∈ m.segmentsOf k → c ∈ m.segmentsOf k → a < b → b < c →
        b ∈ m.segmentsOf k) ∧
      (∀ i r, m.sign? i = some r →
        (∀ j q, m.sign? j = some q → j ≠ i → q.line = r.line → q.addr ≠ r.addr) ∧
        ((List.range i).filter (fun j => (m.sign? j).any (fun q => q.line == r.line))).length < 16) ∧
      (∀ i r, m.sign? i = some r → match r.facing with
        | .S => r.first ≤ r.last ∧ r.last ≤ r.first + 3
        | .N => r.last ≤ r.first ∧ r.first ≤ r.last + 3) ∧
      ((∀ i r, m.gate? i = some r → r.approach.Nodup) ∧
        (∀ i r, m.path? i = some r → r.barriers.Nodup ∧
          ∀ j q, m.path? j = some q → j ≠ i → r.input.isSome = true → q.input ≠ r.input)) ∧
      (∀ k r, m.station? k = some r → r.strong ≤ r.storm) ∧
      (∀ i r, m.path? i = some r → ∀ g ∈ r.barriers, ∀ q, m.gate? g = some q → m.inReach r q = true))))

end
end

