-- ==== Sys2Proof/Laws/State.lean ====
section
/-! SUPPORT. One lemma per field per update of the state, so that no proof unfolds a record update. -/

namespace Sys2Proof.Machine.State

/-! ### setPort -/

@[simp] theorem setPort_powered (s : State) (p : Port) (q : PortUnit) : (s.setPort p q).powered = s.powered := rfl
@[simp] theorem setPort_img (s : State) (p : Port) (q : PortUnit) : (s.setPort p q).img = s.img := rfl
@[simp] theorem setPort_map (s : State) (p : Port) (q : PortUnit) : (s.setPort p q).map = s.map := rfl
@[simp] theorem setPort_ord (s : State) (p : Port) (q : PortUnit) : (s.setPort p q).ord = s.ord := rfl
@[simp] theorem setPort_rsv (s : State) (p : Port) (q : PortUnit) : (s.setPort p q).rsv = s.rsv := rfl
@[simp] theorem setPort_mea (s : State) (p : Port) (q : PortUnit) : (s.setPort p q).mea = s.mea := rfl
@[simp] theorem setPort_cnd (s : State) (p : Port) (q : PortUnit) : (s.setPort p q).cnd = s.cnd := rfl
@[simp] theorem setPort_avp (s : State) (p : Port) (q : PortUnit) : (s.setPort p q).avp = s.avp := rfl
@[simp] theorem setPort_gtc (s : State) (p : Port) (q : PortUnit) : (s.setPort p q).gtc = s.gtc := rfl
@[simp] theorem setPort_pins (s : State) (p : Port) (q : PortUnit) : (s.setPort p q).pins = s.pins := rfl
@[simp] theorem setPort_scp (s : State) (p : Port) (q : PortUnit) : (s.setPort p q).scp = s.scp := rfl
@[simp] theorem setPort_signs (s : State) (p : Port) (q : PortUnit) : (s.setPort p q).signs = s.signs := rfl
@[simp] theorem setPort_flc (s : State) (p : Port) (q : PortUnit) : (s.setPort p q).flc = s.flc := rfl
@[simp] theorem setPort_prt (s : State) (p : Port) (q : PortUnit) :
    (s.setPort p q).prt = setAt s.prt (portIndex p) q := rfl
@[simp] theorem setPort_cuts (s : State) (p : Port) (q : PortUnit) : (s.setPort p q).cuts = s.cuts := rfl
@[simp] theorem setPort_pending (s : State) (p : Port) (q : PortUnit) : (s.setPort p q).pending = s.pending := rfl

/-! ### setStation -/

@[simp] theorem setStation_powered (s : State) (k : Fin 6) (x : Station) :
    (s.setStation k x).powered = s.powered := rfl
@[simp] theorem setStation_img (s : State) (k : Fin 6) (x : Station) : (s.setStation k x).img = s.img := rfl
@[simp] theorem setStation_map (s : State) (k : Fin 6) (x : Station) : (s.setStation k x).map = s.map := rfl
@[simp] theorem setStation_ord (s : State) (k : Fin 6) (x : Station) : (s.setStation k x).ord = s.ord := rfl
@[simp] theorem setStation_rsv (s : State) (k : Fin 6) (x : Station) : (s.setStation k x).rsv = s.rsv := rfl
@[simp] theorem setStation_mea (s : State) (k : Fin 6) (x : Station) : (s.setStation k x).mea = s.mea := rfl
@[simp] theorem setStation_cnd (s : State) (k : Fin 6) (x : Station) : (s.setStation k x).cnd = setAt s.cnd k x := rfl
@[simp] theorem setStation_avp (s : State) (k : Fin 6) (x : Station) : (s.setStation k x).avp = s.avp := rfl
@[simp] theorem setStation_gtc (s : State) (k : Fin 6) (x : Station) : (s.setStation k x).gtc = s.gtc := rfl
@[simp] theorem setStation_pins (s : State) (k : Fin 6) (x : Station) : (s.setStation k x).pins = s.pins := rfl
@[simp] theorem setStation_scp (s : State) (k : Fin 6) (x : Station) : (s.setStation k x).scp = s.scp := rfl
@[simp] theorem setStation_signs (s : State) (k : Fin 6) (x : Station) : (s.setStation k x).signs = s.signs := rfl
@[simp] theorem setStation_flc (s : State) (k : Fin 6) (x : Station) : (s.setStation k x).flc = s.flc := rfl
@[simp] theorem setStation_prt (s : State) (k : Fin 6) (x : Station) : (s.setStation k x).prt = s.prt := rfl
@[simp] theorem setStation_cuts (s : State) (k : Fin 6) (x : Station) : (s.setStation k x).cuts = s.cuts := rfl
@[simp] theorem setStation_pending (s : State) (k : Fin 6) (x : Station) :
    (s.setStation k x).pending = s.pending := rfl

/-! ### setPath -/

@[simp] theorem setPath_powered (s : State) (k : Fin 12) (x : Path) : (s.setPath k x).powered = s.powered := rfl
@[simp] theorem setPath_img (s : State) (k : Fin 12) (x : Path) : (s.setPath k x).img = s.img := rfl
@[simp] theorem setPath_map (s : State) (k : Fin 12) (x : Path) : (s.setPath k x).map = s.map := rfl
@[simp] theorem setPath_ord (s : State) (k : Fin 12) (x : Path) : (s.setPath k x).ord = s.ord := rfl
@[simp] theorem setPath_rsv (s : State) (k : Fin 12) (x : Path) : (s.setPath k x).rsv = s.rsv := rfl
@[simp] theorem setPath_mea (s : State) (k : Fin 12) (x : Path) : (s.setPath k x).mea = s.mea := rfl
@[simp] theorem setPath_cnd (s : State) (k : Fin 12) (x : Path) : (s.setPath k x).cnd = s.cnd := rfl
@[simp] theorem setPath_avp (s : State) (k : Fin 12) (x : Path) : (s.setPath k x).avp = setAt s.avp k x := rfl
@[simp] theorem setPath_gtc (s : State) (k : Fin 12) (x : Path) : (s.setPath k x).gtc = s.gtc := rfl
@[simp] theorem setPath_pins (s : State) (k : Fin 12) (x : Path) : (s.setPath k x).pins = s.pins := rfl
@[simp] theorem setPath_scp (s : State) (k : Fin 12) (x : Path) : (s.setPath k x).scp = s.scp := rfl
@[simp] theorem setPath_signs (s : State) (k : Fin 12) (x : Path) : (s.setPath k x).signs = s.signs := rfl
@[simp] theorem setPath_flc (s : State) (k : Fin 12) (x : Path) : (s.setPath k x).flc = s.flc := rfl
@[simp] theorem setPath_prt (s : State) (k : Fin 12) (x : Path) : (s.setPath k x).prt = s.prt := rfl
@[simp] theorem setPath_cuts (s : State) (k : Fin 12) (x : Path) : (s.setPath k x).cuts = s.cuts := rfl
@[simp] theorem setPath_pending (s : State) (k : Fin 12) (x : Path) : (s.setPath k x).pending = s.pending := rfl

/-! ### setGate -/

@[simp] theorem setGate_powered (s : State) (g : Fin 8) (x : Gate) : (s.setGate g x).powered = s.powered := rfl
@[simp] theorem setGate_img (s : State) (g : Fin 8) (x : Gate) : (s.setGate g x).img = s.img := rfl
@[simp] theorem setGate_map (s : State) (g : Fin 8) (x : Gate) : (s.setGate g x).map = s.map := rfl
@[simp] theorem setGate_ord (s : State) (g : Fin 8) (x : Gate) : (s.setGate g x).ord = s.ord := rfl
@[simp] theorem setGate_rsv (s : State) (g : Fin 8) (x : Gate) : (s.setGate g x).rsv = s.rsv := rfl
@[simp] theorem setGate_mea (s : State) (g : Fin 8) (x : Gate) : (s.setGate g x).mea = s.mea := rfl
@[simp] theorem setGate_cnd (s : State) (g : Fin 8) (x : Gate) : (s.setGate g x).cnd = s.cnd := rfl
@[simp] theorem setGate_avp (s : State) (g : Fin 8) (x : Gate) : (s.setGate g x).avp = s.avp := rfl
@[simp] theorem setGate_gtc (s : State) (g : Fin 8) (x : Gate) : (s.setGate g x).gtc = setAt s.gtc g x := rfl
@[simp] theorem setGate_pins (s : State) (g : Fin 8) (x : Gate) : (s.setGate g x).pins = s.pins := rfl
@[simp] theorem setGate_scp (s : State) (g : Fin 8) (x : Gate) : (s.setGate g x).scp = s.scp := rfl
@[simp] theorem setGate_signs (s : State) (g : Fin 8) (x : Gate) : (s.setGate g x).signs = s.signs := rfl
@[simp] theorem setGate_flc (s : State) (g : Fin 8) (x : Gate) : (s.setGate g x).flc = s.flc := rfl
@[simp] theorem setGate_prt (s : State) (g : Fin 8) (x : Gate) : (s.setGate g x).prt = s.prt := rfl
@[simp] theorem setGate_cuts (s : State) (g : Fin 8) (x : Gate) : (s.setGate g x).cuts = s.cuts := rfl
@[simp] theorem setGate_pending (s : State) (g : Fin 8) (x : Gate) : (s.setGate g x).pending = s.pending := rfl

/-! ### setSign -/

@[simp] theorem setSign_powered (s : State) (i : Fin 24) (x : Sign) : (s.setSign i x).powered = s.powered := rfl
@[simp] theorem setSign_img (s : State) (i : Fin 24) (x : Sign) : (s.setSign i x).img = s.img := rfl
@[simp] theorem setSign_map (s : State) (i : Fin 24) (x : Sign) : (s.setSign i x).map = s.map := rfl
@[simp] theorem setSign_ord (s : State) (i : Fin 24) (x : Sign) : (s.setSign i x).ord = s.ord := rfl
@[simp] theorem setSign_rsv (s : State) (i : Fin 24) (x : Sign) : (s.setSign i x).rsv = s.rsv := rfl
@[simp] theorem setSign_mea (s : State) (i : Fin 24) (x : Sign) : (s.setSign i x).mea = s.mea := rfl
@[simp] theorem setSign_cnd (s : State) (i : Fin 24) (x : Sign) : (s.setSign i x).cnd = s.cnd := rfl
@[simp] theorem setSign_avp (s : State) (i : Fin 24) (x : Sign) : (s.setSign i x).avp = s.avp := rfl
@[simp] theorem setSign_gtc (s : State) (i : Fin 24) (x : Sign) : (s.setSign i x).gtc = s.gtc := rfl
@[simp] theorem setSign_pins (s : State) (i : Fin 24) (x : Sign) : (s.setSign i x).pins = s.pins := rfl
@[simp] theorem setSign_scp (s : State) (i : Fin 24) (x : Sign) : (s.setSign i x).scp = s.scp := rfl
@[simp] theorem setSign_signs (s : State) (i : Fin 24) (x : Sign) : (s.setSign i x).signs = setAt s.signs i x := rfl
@[simp] theorem setSign_flc (s : State) (i : Fin 24) (x : Sign) : (s.setSign i x).flc = s.flc := rfl
@[simp] theorem setSign_prt (s : State) (i : Fin 24) (x : Sign) : (s.setSign i x).prt = s.prt := rfl
@[simp] theorem setSign_cuts (s : State) (i : Fin 24) (x : Sign) : (s.setSign i x).cuts = s.cuts := rfl
@[simp] theorem setSign_pending (s : State) (i : Fin 24) (x : Sign) : (s.setSign i x).pending = s.pending := rfl

/-! ### setLine -/

@[simp] theorem setLine_powered (s : State) (l : Fin 2) (x : Line) : (s.setLine l x).powered = s.powered := rfl
@[simp] theorem setLine_img (s : State) (l : Fin 2) (x : Line) : (s.setLine l x).img = s.img := rfl
@[simp] theorem setLine_map (s : State) (l : Fin 2) (x : Line) : (s.setLine l x).map = s.map := rfl
@[simp] theorem setLine_ord (s : State) (l : Fin 2) (x : Line) : (s.setLine l x).ord = s.ord := rfl
@[simp] theorem setLine_rsv (s : State) (l : Fin 2) (x : Line) : (s.setLine l x).rsv = s.rsv := rfl
@[simp] theorem setLine_mea (s : State) (l : Fin 2) (x : Line) : (s.setLine l x).mea = s.mea := rfl
@[simp] theorem setLine_cnd (s : State) (l : Fin 2) (x : Line) : (s.setLine l x).cnd = s.cnd := rfl
@[simp] theorem setLine_avp (s : State) (l : Fin 2) (x : Line) : (s.setLine l x).avp = s.avp := rfl
@[simp] theorem setLine_gtc (s : State) (l : Fin 2) (x : Line) : (s.setLine l x).gtc = s.gtc := rfl
@[simp] theorem setLine_pins (s : State) (l : Fin 2) (x : Line) : (s.setLine l x).pins = s.pins := rfl
@[simp] theorem setLine_scp (s : State) (l : Fin 2) (x : Line) : (s.setLine l x).scp = s.scp := rfl
@[simp] theorem setLine_signs (s : State) (l : Fin 2) (x : Line) : (s.setLine l x).signs = s.signs := rfl
@[simp] theorem setLine_flc (s : State) (l : Fin 2) (x : Line) : (s.setLine l x).flc = setAt s.flc l x := rfl
@[simp] theorem setLine_prt (s : State) (l : Fin 2) (x : Line) : (s.setLine l x).prt = s.prt := rfl
@[simp] theorem setLine_cuts (s : State) (l : Fin 2) (x : Line) : (s.setLine l x).cuts = s.cuts := rfl
@[simp] theorem setLine_pending (s : State) (l : Fin 2) (x : Line) : (s.setLine l x).pending = s.pending := rfl

/-! ### setArbiter -/

@[simp] theorem setArbiter_powered (s : State) (a : Arbiter) : (s.setArbiter a).powered = s.powered := rfl
@[simp] theorem setArbiter_img (s : State) (a : Arbiter) : (s.setArbiter a).img = s.img := rfl
@[simp] theorem setArbiter_map (s : State) (a : Arbiter) : (s.setArbiter a).map = s.map := rfl
@[simp] theorem setArbiter_ord (s : State) (a : Arbiter) : (s.setArbiter a).ord = s.ord := rfl
@[simp] theorem setArbiter_rsv (s : State) (a : Arbiter) : (s.setArbiter a).rsv = s.rsv := rfl
@[simp] theorem setArbiter_mea (s : State) (a : Arbiter) : (s.setArbiter a).mea = s.mea := rfl
@[simp] theorem setArbiter_cnd (s : State) (a : Arbiter) : (s.setArbiter a).cnd = s.cnd := rfl
@[simp] theorem setArbiter_avp (s : State) (a : Arbiter) : (s.setArbiter a).avp = s.avp := rfl
@[simp] theorem setArbiter_gtc (s : State) (a : Arbiter) : (s.setArbiter a).gtc = s.gtc := rfl
@[simp] theorem setArbiter_pins (s : State) (a : Arbiter) : (s.setArbiter a).pins = s.pins := rfl
@[simp] theorem setArbiter_scp (s : State) (a : Arbiter) : (s.setArbiter a).scp = { s.scp with arbiter := a } := rfl
@[simp] theorem setArbiter_signs (s : State) (a : Arbiter) : (s.setArbiter a).signs = s.signs := rfl
@[simp] theorem setArbiter_flc (s : State) (a : Arbiter) : (s.setArbiter a).flc = s.flc := rfl
@[simp] theorem setArbiter_prt (s : State) (a : Arbiter) : (s.setArbiter a).prt = s.prt := rfl
@[simp] theorem setArbiter_cuts (s : State) (a : Arbiter) : (s.setArbiter a).cuts = s.cuts := rfl
@[simp] theorem setArbiter_pending (s : State) (a : Arbiter) : (s.setArbiter a).pending = s.pending := rfl

/-! ### setOrd -/

@[simp] theorem setOrd_powered (s : State) (u : OrdUnit) : (s.setOrd u).powered = s.powered := rfl
@[simp] theorem setOrd_img (s : State) (u : OrdUnit) : (s.setOrd u).img = s.img := rfl
@[simp] theorem setOrd_map (s : State) (u : OrdUnit) : (s.setOrd u).map = s.map := rfl
@[simp] theorem setOrd_ord (s : State) (u : OrdUnit) : (s.setOrd u).ord = u := rfl
@[simp] theorem setOrd_rsv (s : State) (u : OrdUnit) : (s.setOrd u).rsv = s.rsv := rfl
@[simp] theorem setOrd_mea (s : State) (u : OrdUnit) : (s.setOrd u).mea = s.mea := rfl
@[simp] theorem setOrd_cnd (s : State) (u : OrdUnit) : (s.setOrd u).cnd = s.cnd := rfl
@[simp] theorem setOrd_avp (s : State) (u : OrdUnit) : (s.setOrd u).avp = s.avp := rfl
@[simp] theorem setOrd_gtc (s : State) (u : OrdUnit) : (s.setOrd u).gtc = s.gtc := rfl
@[simp] theorem setOrd_pins (s : State) (u : OrdUnit) : (s.setOrd u).pins = s.pins := rfl
@[simp] theorem setOrd_scp (s : State) (u : OrdUnit) : (s.setOrd u).scp = s.scp := rfl
@[simp] theorem setOrd_signs (s : State) (u : OrdUnit) : (s.setOrd u).signs = s.signs := rfl
@[simp] theorem setOrd_flc (s : State) (u : OrdUnit) : (s.setOrd u).flc = s.flc := rfl
@[simp] theorem setOrd_prt (s : State) (u : OrdUnit) : (s.setOrd u).prt = s.prt := rfl
@[simp] theorem setOrd_cuts (s : State) (u : OrdUnit) : (s.setOrd u).cuts = s.cuts := rfl
@[simp] theorem setOrd_pending (s : State) (u : OrdUnit) : (s.setOrd u).pending = s.pending := rfl

/-! ### markDirty -/

@[simp] theorem markDirty_powered (s : State) : (s.markDirty).powered = s.powered := rfl
@[simp] theorem markDirty_img (s : State) : (s.markDirty).img = s.img := rfl
@[simp] theorem markDirty_map (s : State) : (s.markDirty).map = s.map := rfl
@[simp] theorem markDirty_ord (s : State) : (s.markDirty).ord = s.ord := rfl
@[simp] theorem markDirty_rsv (s : State) : (s.markDirty).rsv = { s.rsv with dirty := true } := rfl
@[simp] theorem markDirty_mea (s : State) : (s.markDirty).mea = s.mea := rfl
@[simp] theorem markDirty_cnd (s : State) : (s.markDirty).cnd = s.cnd := rfl
@[simp] theorem markDirty_avp (s : State) : (s.markDirty).avp = s.avp := rfl
@[simp] theorem markDirty_gtc (s : State) : (s.markDirty).gtc = s.gtc := rfl
@[simp] theorem markDirty_pins (s : State) : (s.markDirty).pins = s.pins := rfl
@[simp] theorem markDirty_scp (s : State) : (s.markDirty).scp = s.scp := rfl
@[simp] theorem markDirty_signs (s : State) : (s.markDirty).signs = s.signs := rfl
@[simp] theorem markDirty_flc (s : State) : (s.markDirty).flc = s.flc := rfl
@[simp] theorem markDirty_prt (s : State) : (s.markDirty).prt = s.prt := rfl
@[simp] theorem markDirty_cuts (s : State) : (s.markDirty).cuts = s.cuts := rfl
@[simp] theorem markDirty_pending (s : State) : (s.markDirty).pending = s.pending := rfl

/-! ### record -/

@[simp] theorem record_powered (s : State) (e : Event) : (s.record e).powered = s.powered := rfl
@[simp] theorem record_img (s : State) (e : Event) : (s.record e).img = s.img := rfl
@[simp] theorem record_map (s : State) (e : Event) : (s.record e).map = s.map := rfl
@[simp] theorem record_ord (s : State) (e : Event) : (s.record e).ord = s.ord := rfl
@[simp] theorem record_rsv (s : State) (e : Event) : (s.record e).rsv = s.rsv := rfl
@[simp] theorem record_mea (s : State) (e : Event) : (s.record e).mea = s.mea := rfl
@[simp] theorem record_cnd (s : State) (e : Event) : (s.record e).cnd = s.cnd := rfl
@[simp] theorem record_avp (s : State) (e : Event) : (s.record e).avp = s.avp := rfl
@[simp] theorem record_gtc (s : State) (e : Event) : (s.record e).gtc = s.gtc := rfl
@[simp] theorem record_pins (s : State) (e : Event) : (s.record e).pins = s.pins := rfl
@[simp] theorem record_scp (s : State) (e : Event) : (s.record e).scp = s.scp := rfl
@[simp] theorem record_signs (s : State) (e : Event) : (s.record e).signs = s.signs := rfl
@[simp] theorem record_flc (s : State) (e : Event) : (s.record e).flc = s.flc := rfl
@[simp] theorem record_prt (s : State) (e : Event) :
    (s.record e).prt = Vector.ofFn fun i : Fin 3 => (s.prt[i]).push ⟨e, s.img.clock, s.img.timeUnset⟩ := rfl
@[simp] theorem record_cuts (s : State) (e : Event) : (s.record e).cuts = s.cuts := rfl
@[simp] theorem record_pending (s : State) (e : Event) : (s.record e).pending = s.pending := rfl

/-! ### answerBody -/

@[simp] theorem answerBody_powered (s : State) (p : Port) (b : List Byte) :
    (s.answerBody p b).powered = s.powered := rfl
@[simp] theorem answerBody_img (s : State) (p : Port) (b : List Byte) : (s.answerBody p b).img = s.img := rfl
@[simp] theorem answerBody_map (s : State) (p : Port) (b : List Byte) : (s.answerBody p b).map = s.map := rfl
@[simp] theorem answerBody_ord (s : State) (p : Port) (b : List Byte) : (s.answerBody p b).ord = s.ord := rfl
@[simp] theorem answerBody_rsv (s : State) (p : Port) (b : List Byte) : (s.answerBody p b).rsv = s.rsv := rfl
@[simp] theorem answerBody_mea (s : State) (p : Port) (b : List Byte) : (s.answerBody p b).mea = s.mea := rfl
@[simp] theorem answerBody_cnd (s : State) (p : Port) (b : List Byte) : (s.answerBody p b).cnd = s.cnd := rfl
@[simp] theorem answerBody_avp (s : State) (p : Port) (b : List Byte) : (s.answerBody p b).avp = s.avp := rfl
@[simp] theorem answerBody_gtc (s : State) (p : Port) (b : List Byte) : (s.answerBody p b).gtc = s.gtc := rfl
@[simp] theorem answerBody_pins (s : State) (p : Port) (b : List Byte) : (s.answerBody p b).pins = s.pins := rfl
@[simp] theorem answerBody_scp (s : State) (p : Port) (b : List Byte) : (s.answerBody p b).scp = s.scp := rfl
@[simp] theorem answerBody_signs (s : State) (p : Port) (b : List Byte) : (s.answerBody p b).signs = s.signs := rfl
@[simp] theorem answerBody_flc (s : State) (p : Port) (b : List Byte) : (s.answerBody p b).flc = s.flc := rfl
@[simp] theorem answerBody_prt (s : State) (p : Port) (b : List Byte) :
    (s.answerBody p b).prt = setAt s.prt (portIndex p) { s.port p with service := .replyWait, reply := some b } := rfl
@[simp] theorem answerBody_cuts (s : State) (p : Port) (b : List Byte) : (s.answerBody p b).cuts = s.cuts := rfl
@[simp] theorem answerBody_pending (s : State) (p : Port) (b : List Byte) :
    (s.answerBody p b).pending = s.pending := rfl

/-! ### passIdle -/

@[simp] theorem passIdle_powered (s : State) : (s.passIdle).powered = s.powered := rfl
@[simp] theorem passIdle_img (s : State) : (s.passIdle).img = s.img := rfl
@[simp] theorem passIdle_map (s : State) : (s.passIdle).map = s.map := rfl
@[simp] theorem passIdle_ord (s : State) : (s.passIdle).ord = s.ord := rfl
@[simp] theorem passIdle_rsv (s : State) : (s.passIdle).rsv = { s.rsv with pass := none } := rfl
@[simp] theorem passIdle_mea (s : State) : (s.passIdle).mea = s.mea := rfl
@[simp] theorem passIdle_cnd (s : State) : (s.passIdle).cnd = s.cnd := rfl
@[simp] theorem passIdle_avp (s : State) : (s.passIdle).avp = s.avp := rfl
@[simp] theorem passIdle_gtc (s : State) : (s.passIdle).gtc = s.gtc := rfl
@[simp] theorem passIdle_pins (s : State) : (s.passIdle).pins = s.pins := rfl
@[simp] theorem passIdle_scp (s : State) : (s.passIdle).scp = s.scp := rfl
@[simp] theorem passIdle_signs (s : State) : (s.passIdle).signs = s.signs := rfl
@[simp] theorem passIdle_flc (s : State) : (s.passIdle).flc = s.flc := rfl
@[simp] theorem passIdle_prt (s : State) : (s.passIdle).prt = s.prt := rfl
@[simp] theorem passIdle_cuts (s : State) : (s.passIdle).cuts = s.cuts := rfl
@[simp] theorem passIdle_pending (s : State) : (s.passIdle).pending = s.pending := rfl

/-! ### setClock -/

@[simp] theorem setClock_powered (s : State) (t : Nat) : (s.setClock t).powered = s.powered := rfl
@[simp] theorem setClock_img (s : State) (t : Nat) : (s.setClock t).img = { s.img with clock := t } := rfl
@[simp] theorem setClock_map (s : State) (t : Nat) : (s.setClock t).map = s.map := rfl
@[simp] theorem setClock_ord (s : State) (t : Nat) : (s.setClock t).ord = s.ord := rfl
@[simp] theorem setClock_rsv (s : State) (t : Nat) : (s.setClock t).rsv = s.rsv := rfl
@[simp] theorem setClock_mea (s : State) (t : Nat) : (s.setClock t).mea = s.mea := rfl
@[simp] theorem setClock_cnd (s : State) (t : Nat) : (s.setClock t).cnd = s.cnd := rfl
@[simp] theorem setClock_avp (s : State) (t : Nat) : (s.setClock t).avp = s.avp := rfl
@[simp] theorem setClock_gtc (s : State) (t : Nat) : (s.setClock t).gtc = s.gtc := rfl
@[simp] theorem setClock_pins (s : State) (t : Nat) : (s.setClock t).pins = s.pins := rfl
@[simp] theorem setClock_scp (s : State) (t : Nat) : (s.setClock t).scp = s.scp := rfl
@[simp] theorem setClock_signs (s : State) (t : Nat) : (s.setClock t).signs = s.signs := rfl
@[simp] theorem setClock_flc (s : State) (t : Nat) : (s.setClock t).flc = s.flc := rfl
@[simp] theorem setClock_prt (s : State) (t : Nat) : (s.setClock t).prt = s.prt := rfl
@[simp] theorem setClock_cuts (s : State) (t : Nat) : (s.setClock t).cuts = s.cuts := rfl
@[simp] theorem setClock_pending (s : State) (t : Nat) : (s.setClock t).pending = s.pending := rfl

/-! ### clearTimeUnset -/

@[simp] theorem clearTimeUnset_powered (s : State) : (s.clearTimeUnset).powered = s.powered := rfl
@[simp] theorem clearTimeUnset_img (s : State) : (s.clearTimeUnset).img = { s.img with timeUnset := false } := rfl
@[simp] theorem clearTimeUnset_map (s : State) : (s.clearTimeUnset).map = s.map := rfl
@[simp] theorem clearTimeUnset_ord (s : State) : (s.clearTimeUnset).ord = s.ord := rfl
@[simp] theorem clearTimeUnset_rsv (s : State) : (s.clearTimeUnset).rsv = s.rsv := rfl
@[simp] theorem clearTimeUnset_mea (s : State) : (s.clearTimeUnset).mea = s.mea := rfl
@[simp] theorem clearTimeUnset_cnd (s : State) : (s.clearTimeUnset).cnd = s.cnd := rfl
@[simp] theorem clearTimeUnset_avp (s : State) : (s.clearTimeUnset).avp = s.avp := rfl
@[simp] theorem clearTimeUnset_gtc (s : State) : (s.clearTimeUnset).gtc = s.gtc := rfl
@[simp] theorem clearTimeUnset_pins (s : State) : (s.clearTimeUnset).pins = s.pins := rfl
@[simp] theorem clearTimeUnset_scp (s : State) : (s.clearTimeUnset).scp = s.scp := rfl
@[simp] theorem clearTimeUnset_signs (s : State) : (s.clearTimeUnset).signs = s.signs := rfl
@[simp] theorem clearTimeUnset_flc (s : State) : (s.clearTimeUnset).flc = s.flc := rfl
@[simp] theorem clearTimeUnset_prt (s : State) : (s.clearTimeUnset).prt = s.prt := rfl
@[simp] theorem clearTimeUnset_cuts (s : State) : (s.clearTimeUnset).cuts = s.cuts := rfl
@[simp] theorem clearTimeUnset_pending (s : State) : (s.clearTimeUnset).pending = s.pending := rfl

/-! ### setAnemometer -/

@[simp] theorem setAnemometer_powered (s : State) (i : Fin 3) (x : Anemometer) :
    (s.setAnemometer i x).powered = s.powered := rfl
@[simp] theorem setAnemometer_img (s : State) (i : Fin 3) (x : Anemometer) : (s.setAnemometer i x).img = s.img := rfl
@[simp] theorem setAnemometer_map (s : State) (i : Fin 3) (x : Anemometer) : (s.setAnemometer i x).map = s.map := rfl
@[simp] theorem setAnemometer_ord (s : State) (i : Fin 3) (x : Anemometer) : (s.setAnemometer i x).ord = s.ord := rfl
@[simp] theorem setAnemometer_rsv (s : State) (i : Fin 3) (x : Anemometer) : (s.setAnemometer i x).rsv = s.rsv := rfl
@[simp] theorem setAnemometer_mea (s : State) (i : Fin 3) (x : Anemometer) :
    (s.setAnemometer i x).mea = { s.mea with anemometers := setAt s.mea.anemometers i x } := rfl
@[simp] theorem setAnemometer_cnd (s : State) (i : Fin 3) (x : Anemometer) : (s.setAnemometer i x).cnd = s.cnd := rfl
@[simp] theorem setAnemometer_avp (s : State) (i : Fin 3) (x : Anemometer) : (s.setAnemometer i x).avp = s.avp := rfl
@[simp] theorem setAnemometer_gtc (s : State) (i : Fin 3) (x : Anemometer) : (s.setAnemometer i x).gtc = s.gtc := rfl
@[simp] theorem setAnemometer_pins (s : State) (i : Fin 3) (x : Anemometer) :
    (s.setAnemometer i x).pins = s.pins := rfl
@[simp] theorem setAnemometer_scp (s : State) (i : Fin 3) (x : Anemometer) : (s.setAnemometer i x).scp = s.scp := rfl
@[simp] theorem setAnemometer_signs (s : State) (i : Fin 3) (x : Anemometer) :
    (s.setAnemometer i x).signs = s.signs := rfl
@[simp] theorem setAnemometer_flc (s : State) (i : Fin 3) (x : Anemometer) : (s.setAnemometer i x).flc = s.flc := rfl
@[simp] theorem setAnemometer_prt (s : State) (i : Fin 3) (x : Anemometer) : (s.setAnemometer i x).prt = s.prt := rfl
@[simp] theorem setAnemometer_cuts (s : State) (i : Fin 3) (x : Anemometer) :
    (s.setAnemometer i x).cuts = s.cuts := rfl
@[simp] theorem setAnemometer_pending (s : State) (i : Fin 3) (x : Anemometer) :
    (s.setAnemometer i x).pending = s.pending := rfl

/-! ### Updates that are no change, or the last of two -/

theorem eta_prt (s : State) : { s with prt := s.prt } = s := rfl

/-- An answer is one reply body placed in the port. -/
theorem answer_eq (s : State) (a : Asker) (rc : ReplyCode) (d : List Byte) :
    s.answer a rc d = s.answerBody a.port (replyBody a.code a.tag rc d) := rfl

end Sys2Proof.Machine.State
end

