-- ==== Sys2Proof/Laws/Bank.lean ====
section
/-! SUPPORT. Reading a bank after one of its units was replaced, and the ports after an event or an answer. -/

namespace Sys2Proof.Machine

/-- The unit just replaced, in the form in which `simp` writes the index. -/
@[simp] theorem setAt_val_same {α : Type} {n : Nat} (v : Vector α n) (i : Fin n) (x : α) : (setAt v i x)[i.val] = x := by
  simp [setAt]

theorem setAt_get_same {α : Type} {n : Nat} (v : Vector α n) (i : Fin n) (x : α) : (setAt v i x)[i] = x := by
  simp

theorem setAt_get_other {α : Type} {n : Nat} (v : Vector α n) {i j : Fin n} (x : α) (h : i ≠ j) :
    (setAt v i x)[j] = v[j] := by
  have h' : i.val ≠ j.val := fun e => h (Fin.ext e)
  simp [setAt, h']

theorem setAt_get {α : Type} {n : Nat} (v : Vector α n) (i j : Fin n) (x : α) :
    (setAt v i x)[j] = if i = j then x else v[j] := by
  split
  · next h => subst h; simp
  · next h => exact setAt_get_other v x h

@[simp] theorem setAt_setAt {α : Type} {n : Nat} (v : Vector α n) (i : Fin n) (x y : α) :
    setAt (setAt v i x) i y = setAt v i y := by
  simp [setAt]

@[simp] theorem setAt_self {α : Type} {n : Nat} (v : Vector α n) (i : Fin n) : setAt v i v[i.val] = v := by
  simp [setAt]

/-- Two vectors are equal when they agree at every index. -/
theorem vector_ext {α : Type} {n : Nat} {v w : Vector α n} (h : ∀ i : Fin n, v[i] = w[i]) : v = w := by
  apply Vector.ext
  intro i hi
  exact h ⟨i, hi⟩

@[simp] theorem ofFn_get {α : Type} {n : Nat} (f : Fin n → α) (i : Fin n) : (Vector.ofFn f)[i] = f i := by
  simp

theorem portIndex_inj {p q : Port} (h : portIndex p = portIndex q) : p = q := by
  cases p <;> cases q <;> first | rfl | (exact absurd h (by decide))

namespace State

@[simp] theorem setPort_port (s : State) (p : Port) (q : PortUnit) : (s.setPort p q).port p = q := by
  simp [State.port]

theorem setPort_port_other (s : State) {p p' : Port} (q : PortUnit) (h : p ≠ p') :
    (s.setPort p q).port p' = s.port p' := by
  simp only [State.port, setPort_prt]
  exact setAt_get_other _ _ (fun e => h (portIndex_inj e))

@[simp] theorem setPort_setPort (s : State) (p : Port) (q r : PortUnit) :
    (s.setPort p q).setPort p r = s.setPort p r := by
  simp [State.setPort]

@[simp] theorem setPort_self (s : State) (p : Port) : s.setPort p (s.port p) = s := by
  simp [State.setPort, State.port]

/-- R163: an event joins the queue of every port. -/
@[simp] theorem record_port (s : State) (e : Event) (p : Port) :
    (s.record e).port p = (s.port p).push ⟨e, s.img.clock, s.img.timeUnset⟩ := by
  simp [State.port]

@[simp] theorem answerBody_port (s : State) (p : Port) (b : List Byte) :
    (s.answerBody p b).port p = { s.port p with service := .replyWait, reply := some b } := by
  simp [State.answerBody]

/-- A reply replaces what the service phase held before. -/
@[simp] theorem answerBody_setPort (s : State) (p : Port) (ph : ServicePhase) (b : List Byte) :
    (s.setPort p { s.port p with service := ph }).answerBody p b = s.answerBody p b := by
  simp [State.answerBody]

end State

/-- A notice queue never holds more than 32 notices after an event (R163). -/
theorem PortUnit.push_bounded (n : Notice) (q : PortUnit) (h : q.notices.length ≤ 32) :
    (q.push n).notices.length ≤ 32 := by
  unfold PortUnit.push
  split
  · simp; omega
  · simp; omega

end Sys2Proof.Machine
end

