-- ==== Sys2Proof/Laws/Frames.lean ====
section
/-! SUPPORT. The frame of each shared operation: which parts of the state it can touch. `Frame l s t` says that `t` agrees
with `s` on every part that `l` does not list; `Frame.img` and its fellows give the single equations. -/

namespace Sys2Proof.Machine

set_option Elab.async false

/-- The parts of the state. -/
inductive Field where
  | powered | img | map | ord | rsv | mea | cnd | avp | gtc | pins | scp | signs | flc | prt | cuts | pending
  deriving DecidableEq, Repr

/-- Two states agree on one part. -/
def Field.same (s t : State) : Field → Prop
  | .powered => t.powered = s.powered
  | .img => t.img = s.img
  | .map => t.map = s.map
  | .ord => t.ord = s.ord
  | .rsv => t.rsv = s.rsv
  | .mea => t.mea = s.mea
  | .cnd => t.cnd = s.cnd
  | .avp => t.avp = s.avp
  | .gtc => t.gtc = s.gtc
  | .pins => t.pins = s.pins
  | .scp => t.scp = s.scp
  | .signs => t.signs = s.signs
  | .flc => t.flc = s.flc
  | .prt => t.prt = s.prt
  | .cuts => t.cuts = s.cuts
  | .pending => t.pending = s.pending

/-- `t` agrees with `s` outside the listed parts. -/
def Frame (l : List Field) (s t : State) : Prop := ∀ f, l.contains f = false → f.same s t

/-- Every part of `l` is a part of `m`. -/
def within (l m : List Field) : Bool := l.all (fun f => m.contains f)

namespace Frame

/-- A listed part is no unlisted one. -/
theorem hit {P : Prop} {b : Bool} (hf : b = false) (ht : b = true) : P := by simp [hf] at ht

theorem refl (l : List Field) (s : State) : Frame l s s := by
  intro f _
  cases f <;> rfl

theorem mono {l m : List Field} {s t : State} (h : Frame l s t) (hw : within l m = true := by decide) :
    Frame m s t := by
  intro f hf
  apply h f
  by_contra hc
  have hm := (List.all_eq_true.mp hw) f (by simpa using hc)
  exact Frame.hit hf hm

theorem trans {l : List Field} {s t u : State} (h : Frame l s t) (k : Frame l t u) : Frame l s u := by
  intro f hf
  have h1 := h f hf
  have h2 := k f hf
  cases f <;> exact Eq.trans h2 h1

/-- One more operation, within the listed parts. -/
theorem step {l m : List Field} {s t u : State} (k : Frame l t u) (h : Frame m s t)
    (hw : within l m = true := by decide) : Frame m s u := h.trans (k.mono hw)

/-- A fold whose every step stays within the listed parts. -/
theorem foldl {α : Type} {l : List Field} (f : State → α → State) (as : List α) (h : ∀ s a, Frame l s (f s a))
    (s : State) : Frame l s (as.foldl f s) := by
  induction as generalizing s with
  | nil => exact refl l s
  | cons a t ih => exact (h s a).trans (ih (f s a))

theorem powered {l : List Field} {s t : State} (h : Frame l s t) (hn : l.contains .powered = false := by rfl) :
    t.powered = s.powered := h .powered hn

theorem img {l : List Field} {s t : State} (h : Frame l s t) (hn : l.contains .img = false := by rfl) :
    t.img = s.img := h .img hn

theorem map {l : List Field} {s t : State} (h : Frame l s t) (hn : l.contains .map = false := by rfl) :
    t.map = s.map := h .map hn

theorem ord {l : List Field} {s t : State} (h : Frame l s t) (hn : l.contains .ord = false := by rfl) :
    t.ord = s.ord := h .ord hn

theorem rsv {l : List Field} {s t : State} (h : Frame l s t) (hn : l.contains .rsv = false := by rfl) :
    t.rsv = s.rsv := h .rsv hn

theorem mea {l : List Field} {s t : State} (h : Frame l s t) (hn : l.contains .mea = false := by rfl) :
    t.mea = s.mea := h .mea hn

theorem cnd {l : List Field} {s t : State} (h : Frame l s t) (hn : l.contains .cnd = false := by rfl) :
    t.cnd = s.cnd := h .cnd hn

theorem avp {l : List Field} {s t : State} (h : Frame l s t) (hn : l.contains .avp = false := by rfl) :
    t.avp = s.avp := h .avp hn

theorem gtc {l : List Field} {s t : State} (h : Frame l s t) (hn : l.contains .gtc = false := by rfl) :
    t.gtc = s.gtc := h .gtc hn

theorem pins {l : List Field} {s t : State} (h : Frame l s t) (hn : l.contains .pins = false := by rfl) :
    t.pins = s.pins := h .pins hn

theorem scp {l : List Field} {s t : State} (h : Frame l s t) (hn : l.contains .scp = false := by rfl) :
    t.scp = s.scp := h .scp hn

theorem signs {l : List Field} {s t : State} (h : Frame l s t) (hn : l.contains .signs = false := by rfl) :
    t.signs = s.signs := h .signs hn

theorem flc {l : List Field} {s t : State} (h : Frame l s t) (hn : l.contains .flc = false := by rfl) :
    t.flc = s.flc := h .flc hn

theorem prt {l : List Field} {s t : State} (h : Frame l s t) (hn : l.contains .prt = false := by rfl) :
    t.prt = s.prt := h .prt hn

theorem cuts {l : List Field} {s t : State} (h : Frame l s t) (hn : l.contains .cuts = false := by rfl) :
    t.cuts = s.cuts := h .cuts hn

theorem pending {l : List Field} {s t : State} (h : Frame l s t) (hn : l.contains .pending = false := by rfl) :
    t.pending = s.pending := h .pending hn


theorem with_powered {l : List Field} {s t : State} {x} (h : Frame l s t)
    (hn : l.contains .powered = true := by decide) : Frame l s { t with powered := x } := by
  intro f hf
  cases f <;> first | exact h _ hf | (exact Frame.hit hf hn)

theorem with_img {l : List Field} {s t : State} {x} (h : Frame l s t)
    (hn : l.contains .img = true := by decide) : Frame l s { t with img := x } := by
  intro f hf
  cases f <;> first | exact h _ hf | (exact Frame.hit hf hn)

theorem with_map {l : List Field} {s t : State} {x} (h : Frame l s t)
    (hn : l.contains .map = true := by decide) : Frame l s { t with map := x } := by
  intro f hf
  cases f <;> first | exact h _ hf | (exact Frame.hit hf hn)

theorem with_ord {l : List Field} {s t : State} {x} (h : Frame l s t)
    (hn : l.contains .ord = true := by decide) : Frame l s { t with ord := x } := by
  intro f hf
  cases f <;> first | exact h _ hf | (exact Frame.hit hf hn)

theorem with_rsv {l : List Field} {s t : State} {x} (h : Frame l s t)
    (hn : l.contains .rsv = true := by decide) : Frame l s { t with rsv := x } := by
  intro f hf
  cases f <;> first | exact h _ hf | (exact Frame.hit hf hn)

theorem with_mea {l : List Field} {s t : State} {x} (h : Frame l s t)
    (hn : l.contains .mea = true := by decide) : Frame l s { t with mea := x } := by
  intro f hf
  cases f <;> first | exact h _ hf | (exact Frame.hit hf hn)

theorem with_cnd {l : List Field} {s t : State} {x} (h : Frame l s t)
    (hn : l.contains .cnd = true := by decide) : Frame l s { t with cnd := x } := by
  intro f hf
  cases f <;> first | exact h _ hf | (exact Frame.hit hf hn)

theorem with_avp {l : List Field} {s t : State} {x} (h : Frame l s t)
    (hn : l.contains .avp = true := by decide) : Frame l s { t with avp := x } := by
  intro f hf
  cases f <;> first | exact h _ hf | (exact Frame.hit hf hn)

theorem with_gtc {l : List Field} {s t : State} {x} (h : Frame l s t)
    (hn : l.contains .gtc = true := by decide) : Frame l s { t with gtc := x } := by
  intro f hf
  cases f <;> first | exact h _ hf | (exact Frame.hit hf hn)

theorem with_pins {l : List Field} {s t : State} {x} (h : Frame l s t)
    (hn : l.contains .pins = true := by decide) : Frame l s { t with pins := x } := by
  intro f hf
  cases f <;> first | exact h _ hf | (exact Frame.hit hf hn)

theorem with_scp {l : List Field} {s t : State} {x} (h : Frame l s t)
    (hn : l.contains .scp = true := by decide) : Frame l s { t with scp := x } := by
  intro f hf
  cases f <;> first | exact h _ hf | (exact Frame.hit hf hn)

theorem with_signs {l : List Field} {s t : State} {x} (h : Frame l s t)
    (hn : l.contains .signs = true := by decide) : Frame l s { t with signs := x } := by
  intro f hf
  cases f <;> first | exact h _ hf | (exact Frame.hit hf hn)

theorem with_flc {l : List Field} {s t : State} {x} (h : Frame l s t)
    (hn : l.contains .flc = true := by decide) : Frame l s { t with flc := x } := by
  intro f hf
  cases f <;> first | exact h _ hf | (exact Frame.hit hf hn)

theorem with_prt {l : List Field} {s t : State} {x} (h : Frame l s t)
    (hn : l.contains .prt = true := by decide) : Frame l s { t with prt := x } := by
  intro f hf
  cases f <;> first | exact h _ hf | (exact Frame.hit hf hn)

theorem with_cuts {l : List Field} {s t : State} {x} (h : Frame l s t)
    (hn : l.contains .cuts = true := by decide) : Frame l s { t with cuts := x } := by
  intro f hf
  cases f <;> first | exact h _ hf | (exact Frame.hit hf hn)

theorem with_pending {l : List Field} {s t : State} {x} (h : Frame l s t)
    (hn : l.contains .pending = true := by decide) : Frame l s { t with pending := x } := by
  intro f hf
  cases f <;> first | exact h _ hf | (exact Frame.hit hf hn)

end Frame

namespace State

/-! ### Single updates -/

theorem setPort_frame (s : State) (p : Port) (q : PortUnit) : Frame [.prt] s (s.setPort p q) := by
  unfold State.setPort
  intro f hf
  cases f <;> first | exact Frame.hit hf rfl | exact Eq.refl _

theorem setStation_frame (s : State) (k : Fin 6) (x : Station) : Frame [.cnd] s (s.setStation k x) := by
  unfold State.setStation
  intro f hf
  cases f <;> first | exact Frame.hit hf rfl | exact Eq.refl _

theorem setPath_frame (s : State) (k : Fin 12) (x : Path) : Frame [.avp] s (s.setPath k x) := by
  unfold State.setPath
  intro f hf
  cases f <;> first | exact Frame.hit hf rfl | exact Eq.refl _

theorem setGate_frame (s : State) (g : Fin 8) (x : Gate) : Frame [.gtc] s (s.setGate g x) := by
  unfold State.setGate
  intro f hf
  cases f <;> first | exact Frame.hit hf rfl | exact Eq.refl _

theorem setSign_frame (s : State) (i : Fin 24) (x : Sign) : Frame [.signs] s (s.setSign i x) := by
  unfold State.setSign
  intro f hf
  cases f <;> first | exact Frame.hit hf rfl | exact Eq.refl _

theorem setLine_frame (s : State) (l : Fin 2) (x : Line) : Frame [.flc] s (s.setLine l x) := by
  unfold State.setLine
  intro f hf
  cases f <;> first | exact Frame.hit hf rfl | exact Eq.refl _

theorem setArbiter_frame (s : State) (a : Arbiter) : Frame [.scp] s (s.setArbiter a) := by
  unfold State.setArbiter
  intro f hf
  cases f <;> first | exact Frame.hit hf rfl | exact Eq.refl _

theorem setOrd_frame (s : State) (u : OrdUnit) : Frame [.ord] s (s.setOrd u) := by
  unfold State.setOrd
  intro f hf
  cases f <;> first | exact Frame.hit hf rfl | exact Eq.refl _

theorem markDirty_frame (s : State) : Frame [.rsv] s (s.markDirty) := by
  unfold State.markDirty
  intro f hf
  cases f <;> first | exact Frame.hit hf rfl | exact Eq.refl _

theorem record_frame (s : State) (e : Event) : Frame [.prt] s (s.record e) := by
  unfold State.record
  intro f hf
  cases f <;> first | exact Frame.hit hf rfl | exact Eq.refl _

theorem passIdle_frame (s : State) : Frame [.rsv] s (s.passIdle) := by
  unfold State.passIdle
  intro f hf
  cases f <;> first | exact Frame.hit hf rfl | exact Eq.refl _

theorem setClock_frame (s : State) (t : Nat) : Frame [.img] s (s.setClock t) := by
  unfold State.setClock
  intro f hf
  cases f <;> first | exact Frame.hit hf rfl | exact Eq.refl _

theorem clearTimeUnset_frame (s : State) : Frame [.img] s (s.clearTimeUnset) := by
  unfold State.clearTimeUnset
  intro f hf
  cases f <;> first | exact Frame.hit hf rfl | exact Eq.refl _

theorem setAnemometer_frame (s : State) (i : Fin 3) (x : Anemometer) : Frame [.mea] s (s.setAnemometer i x) := by
  unfold State.setAnemometer
  intro f hf
  cases f <;> first | exact Frame.hit hf rfl | exact Eq.refl _

theorem lanternBoundary_frame (s : State) : Frame [.gtc] s (s.lanternBoundary) := by
  unfold State.lanternBoundary
  intro f hf
  cases f <;> first | exact Frame.hit hf rfl | exact Eq.refl _

theorem finishDrawing_frame (s : State) (r : SignRec) (c : Composition) : Frame [.scp] s (s.finishDrawing r c) := by
  unfold State.finishDrawing
  intro f hf
  cases f <;> first | exact Frame.hit hf rfl | exact Eq.refl _

theorem dropReplies_frame (s : State) (p : Port) : Frame [.img, .scp] s (s.dropReplies p) := by
  unfold State.dropReplies
  intro f hf
  cases f <;> first | exact Frame.hit hf rfl | exact Eq.refl _

theorem clearRetained_frame (s : State) : Frame [.ord, .rsv, .img] s (s.clearRetained) := by
  unfold State.clearRetained
  intro f hf
  cases f <;> first | exact Frame.hit hf rfl | exact Eq.refl _

theorem loadImage_frame (s : State) : Frame [.img, .map] s (s.loadImage) := by
  unfold State.loadImage
  intro f hf
  cases f <;> first | exact Frame.hit hf rfl | exact Eq.refl _

theorem startAspects_frame (s : State) : Frame [.rsv] s (s.startAspects) := by
  unfold State.startAspects
  intro f hf
  cases f <;> first | exact Frame.hit hf rfl | exact Eq.refl _

theorem startStations_frame (s : State) : Frame [.cnd] s (s.startStations) := by
  unfold State.startStations
  intro f hf
  cases f <;> first | exact Frame.hit hf rfl | exact Eq.refl _

theorem startSigns_frame (s : State) : Frame [.scp, .signs] s (s.startSigns) := by
  unfold State.startSigns
  intro f hf
  cases f <;> first | exact Frame.hit hf rfl | exact Eq.refl _

theorem startLines_frame (s : State) : Frame [.flc] s (s.startLines) := by
  unfold State.startLines
  intro f hf
  cases f <;> first | exact Frame.hit hf rfl | exact Eq.refl _

theorem startPaths_frame (s : State) : Frame [.avp] s (s.startPaths) := by
  unfold State.startPaths
  intro f hf
  cases f <;> first | exact Frame.hit hf rfl | exact Eq.refl _

theorem startMeasure_frame (s : State) : Frame [.mea] s (s.startMeasure) := by
  unfold State.startMeasure
  intro f hf
  cases f <;> first | exact Frame.hit hf rfl | exact Eq.refl _

theorem storeRow_frame (s : State) (r : Nat) (d : List Byte) : Frame [.img] s (s.storeRow r d) := by
  unfold State.storeRow
  intro f hf
  cases f <;> first | exact Frame.hit hf rfl | exact Eq.refl _

theorem second_frame (s : State) : Frame [.mea, .cnd, .avp, .gtc, .signs] s (s.second) := by
  unfold State.second
  intro f hf
  cases f <;> first | exact Frame.hit hf rfl | exact Eq.refl _

theorem answerBody_frame (s : State) (p : Port) (b : List Byte) :
    Frame [.prt] s (s.answerBody p b) := by
  unfold State.answerBody
  try dsimp only
  (repeat' split) <;>
    (repeat with_reducible first
      | exact Frame.refl _ _ | refine Frame.step (setPort_frame _ _ _) ?_)

theorem answer_frame (s : State) (a : Asker) (rc : ReplyCode) (d : List Byte) :
    Frame [.prt] s (s.answer a rc d) := by
  unfold State.answer
  try dsimp only
  (repeat' split) <;>
    (repeat with_reducible first
      | exact Frame.refl _ _ | refine Frame.step (answerBody_frame _ _ _) ?_)

theorem publishTable_frame (s : State) (w : Vector Aspect 32) :
    Frame [.rsv, .prt] s (s.publishTable w) := by
  unfold State.publishTable
  try dsimp only
  (repeat' split) <;>
    (repeat with_reducible first
      | exact Frame.refl _ _ | refine Frame.step (record_frame _ _) ?_ | refine Frame.with_rsv ?_)

/-! ### Orders -/

theorem retire_frame (s : State) (n : Nat) (r : EndReason) :
    Frame [.ord, .rsv, .prt] s (s.retire n r) := by
  unfold State.retire
  try dsimp only
  (repeat' split) <;>
    (repeat with_reducible first
      | exact Frame.refl _ _ | refine Frame.step (markDirty_frame _) ?_ | refine Frame.step (record_frame _ _) ?_
      | refine Frame.step (setOrd_frame _ _) ?_)

theorem putOrder_frame (s : State) (o : Order) (w : OrderState) :
    Frame [.ord] s (s.putOrder o w) := by
  unfold State.putOrder
  try dsimp only
  (repeat' split) <;>
    (repeat with_reducible first
      | exact Frame.refl _ _ | refine Frame.step (setOrd_frame _ _) ?_)

theorem changeState_frame (s : State) (o : Order) (st : OrderState) :
    Frame [.ord, .rsv, .prt] s (s.changeState o st) := by
  unfold State.changeState
  try dsimp only
  (repeat' split) <;>
    (repeat with_reducible first
      | exact Frame.refl _ _ | refine Frame.step (markDirty_frame _) ?_ | refine Frame.step (record_frame _ _) ?_
      | refine Frame.step (putOrder_frame _ _ _) ?_)

theorem admitOrder_frame (s : State) (o : Order) :
    Frame [.ord, .rsv, .prt] s (s.admitOrder o) := by
  unfold State.admitOrder
  try dsimp only
  (repeat' split) <;>
    (repeat with_reducible first
      | exact Frame.refl _ _ | refine Frame.step (markDirty_frame _) ?_ | refine Frame.step (record_frame _ _) ?_
      | refine Frame.step (setOrd_frame _ _) ?_)

theorem advanceOrder_frame (s : State) (t : Nat) (o : Order) :
    Frame [.ord, .rsv, .prt] s (advanceOrder t s o) := by
  unfold State.advanceOrder
  try dsimp only
  (repeat' split) <;>
    (repeat with_reducible first
      | exact Frame.refl _ _ | refine Frame.step (retire_frame _ _ _) ?_
      | refine Frame.step (changeState_frame _ _ _) ?_)

theorem advanceOrders_frame (s : State) (t : Nat) :
    Frame [.ord, .rsv, .prt] s (s.advanceOrders t) := by
  unfold State.advanceOrders
  refine Frame.foldl _ _ (fun t a => ?_) s
  (repeat' split) <;>
    (repeat with_reducible first
      | exact Frame.refl _ _ | refine Frame.step (advanceOrder_frame _ _ _) ?_)

theorem rewindOrder_frame (s : State) (t : Nat) (o : Order) :
    Frame [.ord, .rsv, .prt] s (rewindOrder t s o) := by
  unfold State.rewindOrder
  try dsimp only
  (repeat' split) <;>
    (repeat with_reducible first
      | exact Frame.refl _ _ | refine Frame.step (changeState_frame _ _ _) ?_)

theorem rewindOrders_frame (s : State) (t : Nat) :
    Frame [.ord, .rsv, .prt] s (s.rewindOrders t) := by
  unfold State.rewindOrders
  refine Frame.foldl _ _ (fun t a => ?_) s
  (repeat' split) <;>
    (repeat with_reducible first
      | exact Frame.refl _ _ | refine Frame.step (rewindOrder_frame _ _ _) ?_)

theorem purgeOrders_frame (s : State) : Frame [.ord, .rsv, .prt] s s.purgeOrders := by
  unfold State.purgeOrders
  split
  · refine Frame.foldl _ _ (fun t a => ?_) s
    (repeat' split) <;> first | exact Frame.refl _ _ | exact retire_frame _ _ _
  · exact Frame.refl _ _

theorem expireOrders_frame (s : State) :
    Frame [.ord, .rsv, .prt] s (s.expireOrders) := by
  unfold State.expireOrders
  refine Frame.foldl _ _ (fun t a => ?_) s
  (repeat' split) <;>
    (repeat with_reducible first
      | exact Frame.refl _ _ | refine Frame.step (retire_frame _ _ _) ?_)

theorem restateOrders_frame (s : State) :
    Frame [.ord, .rsv, .prt] s (s.restateOrders) := by
  unfold State.restateOrders
  refine Frame.foldl _ _ (fun t a => ?_) s
  (repeat' split) <;>
    (repeat with_reducible first
      | exact Frame.refl _ _ | refine Frame.step (changeState_frame _ _ _) ?_)

theorem startOrders_frame (s : State) :
    Frame [.ord, .rsv, .prt] s (s.startOrders) := by
  unfold State.startOrders
  try dsimp only
  (repeat' split) <;>
    (repeat with_reducible first
      | exact Frame.refl _ _ | refine Frame.step (markDirty_frame _) ?_
      | refine Frame.step (restateOrders_frame _) ?_ | refine Frame.step (expireOrders_frame _) ?_
      | refine Frame.step (purgeOrders_frame _) ?_)

theorem wxRaise_frame (s : State) (k : Fin 6) (c : Content) :
    Frame [.ord, .rsv, .prt] s (wxRaise k c s) := by
  unfold Machine.wxRaise
  try dsimp only
  (repeat' split) <;>
    (repeat with_reducible first
      | exact Frame.refl _ _ | refine Frame.step (markDirty_frame _) ?_ | refine Frame.step (record_frame _ _) ?_
      | refine Frame.step (setOrd_frame _ _) ?_ | refine Frame.step (admitOrder_frame _ _) ?_)

theorem wxRetire_frame (s : State) (k : Fin 6) (c : Kind) :
    Frame [.ord, .rsv, .prt] s (wxRetire k c s) := by
  unfold Machine.wxRetire
  try dsimp only
  (repeat' split) <;>
    (repeat with_reducible first
      | exact Frame.refl _ _ | refine Frame.step (retire_frame _ _ _) ?_)

theorem renewOrder_frame (s : State) (e d : Order) :
    Frame [.ord, .rsv, .prt] s (renewOrder e d s) := by
  unfold Machine.renewOrder
  try dsimp only
  (repeat' split) <;>
    (repeat with_reducible first
      | exact Frame.refl _ _ | refine Frame.step (markDirty_frame _) ?_ | refine Frame.step (record_frame _ _) ?_
      | refine Frame.step (putOrder_frame _ _ _) ?_)

theorem tripCreate_frame (s : State) (k : Nat) (r : PathRec) :
    Frame [.ord, .rsv, .prt] s ((tripCreate k r s).2) := by
  unfold Machine.tripCreate
  try dsimp only
  (repeat' split) <;>
    (repeat with_reducible first
      | exact Frame.refl _ _ | refine Frame.step (admitOrder_frame _ _) ?_)

/-! ### Paths -/

theorem confirmHold_frame (s : State) (k : Fin 12) :
    Frame [.avp, .prt] s (s.confirmHold k) := by
  unfold State.confirmHold
  try dsimp only
  (repeat' split) <;>
    (repeat with_reducible first
      | exact Frame.refl _ _ | refine Frame.step (record_frame _ _) ?_ | refine Frame.step (setPath_frame _ _ _) ?_)

theorem breakHold_frame (s : State) (k : Fin 12) (u : Unmet) :
    Frame [.avp, .prt] s (s.breakHold k u) := by
  unfold State.breakHold
  try dsimp only
  (repeat' split) <;>
    (repeat with_reducible first
      | exact Frame.refl _ _ | refine Frame.step (record_frame _ _) ?_ | refine Frame.step (setPath_frame _ _ _) ?_)

theorem testPath_frame (s : State) (k : Fin 12) (r : PathRec) :
    Frame [.avp, .prt] s (s.testPath k r) := by
  unfold State.testPath
  try dsimp only
  (repeat' split) <;>
    (repeat with_reducible first
      | exact Frame.refl _ _ | refine Frame.step (confirmHold_frame _ _) ?_
      | refine Frame.step (breakHold_frame _ _ _) ?_)

theorem testPaths_frame (s : State) (n : PathRec → Bool) (l : List PathState) :
    Frame [.avp, .prt] s (s.testPaths n l) := by
  unfold State.testPaths
  refine Frame.foldl _ _ (fun t a => ?_) s
  (repeat' split) <;>
    (repeat with_reducible first
      | exact Frame.refl _ _ | refine Frame.step (testPath_frame _ _ _) ?_)

theorem reportGate_frame (s : State) (g : Fin 8) :
    Frame [.avp, .prt] s (s.reportGate g) := by
  unfold State.reportGate
  try dsimp only
  (repeat' split) <;>
    (repeat with_reducible first
      | exact Frame.refl _ _ | refine Frame.step (testPaths_frame _ _ _) ?_)

theorem reportSignToPaths_frame (s : State) (i : Fin 24) :
    Frame [.avp, .prt] s (s.reportSignToPaths i) := by
  unfold State.reportSignToPaths
  try dsimp only
  (repeat' split) <;>
    (repeat with_reducible first
      | exact Frame.refl _ _ | refine Frame.step (testPaths_frame _ _ _) ?_)

theorem publishToPaths_frame (s : State) :
    Frame [.avp, .prt] s (s.publishToPaths) := by
  unfold State.publishToPaths
  try dsimp only
  (repeat' split) <;>
    (repeat with_reducible first
      | exact Frame.refl _ _ | refine Frame.step (testPaths_frame _ _ _) ?_)

theorem zoneEffect_frame (s : State) (k : Fin 12) (r : PathRec) (p : Path) (z : Zone) :
    Frame [.avp, .ord, .rsv, .prt] s (s.zoneEffect k r p z) := by
  unfold State.zoneEffect
  try dsimp only
  (repeat' split) <;>
    (repeat with_reducible first
      | exact Frame.refl _ _ | refine Frame.step (record_frame _ _) ?_ | refine Frame.step (setPath_frame _ _ _) ?_
      | refine Frame.step (tripCreate_frame _ _ _) ?_)

theorem acceptZone_frame (s : State) (k : Fin 12) (r : PathRec) (l : Fin 12) (z : Zone) :
    Frame [.avp, .ord, .rsv, .prt] s (s.acceptZone k r l z) := by
  unfold State.acceptZone
  try dsimp only
  (repeat' split) <;>
    (repeat with_reducible first
      | exact Frame.refl _ _ | refine Frame.step (zoneEffect_frame _ _ _ _ _) ?_
      | refine Frame.step (record_frame _ _) ?_ | refine Frame.step (setPath_frame _ _ _) ?_)

theorem acceptedZone_frame (s : State) (l : Fin 12) (z : Zone) :
    Frame [.avp, .ord, .rsv, .prt] s (s.acceptedZone l z) := by
  unfold State.acceptedZone
  try dsimp only
  (repeat' split) <;>
    (repeat with_reducible first
      | exact Frame.refl _ _ | refine Frame.step (acceptZone_frame _ _ _ _ _) ?_)

theorem samplePath_frame (v : Vector Nat 12) (s : State) (k : Fin 12) :
    Frame [.avp, .ord, .rsv, .prt] s (samplePath v s k) := by
  unfold State.samplePath State.sampleLoop
  (repeat' split) <;>
    (repeat with_reducible first
      | exact Frame.refl _ _ | refine Frame.step (acceptZone_frame _ _ _ _ _) ?_
      | refine Frame.step (setPath_frame _ _ _) ?_)

theorem loopSample_frame (s : State) (v : Vector Nat 12) : Frame [.avp, .ord, .rsv, .prt] s (s.loopSample v) :=
  Frame.foldl _ _ (samplePath_frame v) s

theorem confirmExpiry_frame (s : State) (k : Fin 12) :
    Frame [.avp, .prt] s (s.confirmExpiry k) := by
  unfold State.confirmExpiry
  try dsimp only
  (repeat' split) <;>
    (repeat with_reducible first
      | exact Frame.refl _ _ | refine Frame.step (confirmHold_frame _ _) ?_ | refine Frame.step (record_frame _ _) ?_
      | refine Frame.step (setPath_frame _ _ _) ?_)

theorem clearPath_frame (s : State) (k : Fin 12) (n : Nat) :
    Frame [.avp, .ord, .rsv, .prt] s (s.clearPath k n) := by
  unfold State.clearPath
  try dsimp only
  (repeat' split) <;>
    (repeat with_reducible first
      | exact Frame.refl _ _ | refine Frame.step (setPath_frame _ _ _) ?_ | refine Frame.step (retire_frame _ _ _) ?_)

theorem endHold_frame (s : State) (k : Fin 12) (n : Nat) :
    Frame [.avp, .ord, .rsv, .prt] s (s.endHold k n) := by
  unfold State.endHold
  try dsimp only
  (repeat' split) <;>
    (repeat with_reducible first
      | exact Frame.refl _ _ | refine Frame.step (setPath_frame _ _ _) ?_ | refine Frame.step (retire_frame _ _ _) ?_)

theorem suppressFor_frame (s : State) (o : Order) :
    Frame [.cnd] s (s.suppressFor o) := by
  unfold State.suppressFor
  try dsimp only
  (repeat' split) <;>
    (repeat with_reducible first
      | exact Frame.refl _ _ | refine Frame.step (setStation_frame _ _ _) ?_)

/-! ### Gates -/

theorem recordGate_frame (s : State) (g : Fin 8) (x : Gate) (e : Bool) :
    Frame [.prt] s (s.recordGate g x e) := by
  unfold State.recordGate
  try dsimp only
  (repeat' split) <;>
    (repeat with_reducible first
      | exact Frame.refl _ _ | refine Frame.step (record_frame _ _) ?_)

theorem enterGate_frame (s : State) (g : Fin 8) (x : Gate) :
    Frame [.gtc, .avp, .prt] s (enterGate g s x) := by
  unfold State.enterGate
  try dsimp only
  (repeat' split) <;>
    (repeat with_reducible first
      | exact Frame.refl _ _ | refine Frame.step (reportGate_frame _ _) ?_
      | refine Frame.step (recordGate_frame _ _ _ _) ?_ | refine Frame.step (setGate_frame _ _ _) ?_)

theorem moveGate_frame (s : State) (g : Fin 8) (m : Gate × List Gate) : Frame [.gtc, .avp, .prt] s (s.moveGate g m) := by
  unfold State.moveGate
  exact ((setGate_frame s g m.1).mono).trans (Frame.foldl _ _ (fun t x => enterGate_frame t g x) _)

theorem onGate_frame (s : State) (g : Fin 8) (f : GateRec → Gate → Gate × List Gate) :
    Frame [.gtc, .avp, .prt] s (s.onGate g f) := by
  unfold State.onGate
  try dsimp only
  (repeat' split) <;>
    (repeat with_reducible first
      | exact Frame.refl _ _ | refine Frame.step (moveGate_frame _ _ _) ?_)

theorem publishToGate_frame (s : State) (g : Fin 8) :
    Frame [.gtc, .avp, .prt] s (publishToGate s g) := by
  unfold State.publishToGate
  try dsimp only
  (repeat' split) <;>
    (repeat with_reducible first
      | exact Frame.refl _ _ | refine Frame.step (onGate_frame _ _ _) ?_)

theorem publishToGates_frame (s : State) :
    Frame [.gtc, .avp, .prt] s (s.publishToGates) := by
  unfold State.publishToGates
  refine Frame.foldl _ _ (fun t a => ?_) s
  (repeat' split) <;>
    (repeat with_reducible first
      | exact Frame.refl _ _ | refine Frame.step (publishToGate_frame _ _) ?_)

theorem reportSignToGate_frame (s : State) (i : Fin 24) (g : Fin 8) :
    Frame [.gtc, .avp, .prt] s (reportSignToGate i s g) := by
  unfold State.reportSignToGate
  try dsimp only
  (repeat' split) <;>
    (repeat with_reducible first
      | exact Frame.refl _ _ | refine Frame.step (onGate_frame _ _ _) ?_)

theorem reportSignToGates_frame (s : State) (i : Fin 24) :
    Frame [.gtc, .avp, .prt] s (s.reportSignToGates i) := by
  unfold State.reportSignToGates
  refine Frame.foldl _ _ (fun t a => ?_) s
  (repeat' split) <;>
    (repeat with_reducible first
      | exact Frame.refl _ _ | refine Frame.step (reportSignToGate_frame _ _ _) ?_)

theorem pinChange_frame (s : State) (g : Fin 8) (p : GatePins) (f : GateRec → Gate → Gate × List Gate) (st : Gate → Gate)
    (sm : Gate → Bool) :
    Frame [.pins, .gtc, .avp, .prt] s (s.pinChange g p f st sm) := by
  unfold State.pinChange
  try dsimp only
  (repeat' split) <;>
    (repeat with_reducible first
      | exact Frame.refl _ _ | refine Frame.step (moveGate_frame _ _ _) ?_
      | refine Frame.step (recordGate_frame _ _ _ _) ?_ | refine Frame.step (setGate_frame _ _ _) ?_
      | refine Frame.with_pins ?_)

theorem openLimitAccepted_frame (s : State) (g : Fin 8) (v : Bool) :
    Frame [.pins, .gtc, .avp, .prt] s (s.openLimitAccepted g v) := by
  unfold State.openLimitAccepted
  try dsimp only
  (repeat' split) <;>
    (repeat with_reducible first
      | exact Frame.refl _ _ | refine Frame.step (pinChange_frame _ _ _ _ _ _) ?_)

theorem closedLimitAccepted_frame (s : State) (g : Fin 8) (v : Bool) :
    Frame [.pins, .gtc, .avp, .prt] s (s.closedLimitAccepted g v) := by
  unfold State.closedLimitAccepted
  try dsimp only
  (repeat' split) <;>
    (repeat with_reducible first
      | exact Frame.refl _ _ | refine Frame.step (pinChange_frame _ _ _ _ _ _) ?_)

theorem obstructionAccepted_frame (s : State) (g : Fin 8) (v : Bool) :
    Frame [.pins, .gtc, .avp, .prt] s (s.obstructionAccepted g v) := by
  unfold State.obstructionAccepted
  try dsimp only
  (repeat' split) <;>
    (repeat with_reducible first
      | exact Frame.refl _ _ | refine Frame.step (pinChange_frame _ _ _ _ _ _) ?_)

theorem signWaitExpiry_frame (s : State) (g : Fin 8) :
    Frame [.gtc, .avp, .prt] s (s.signWaitExpiry g) := by
  unfold State.signWaitExpiry
  try dsimp only
  (repeat' split) <;>
    (repeat with_reducible first
      | exact Frame.refl _ _ | refine Frame.step (setGate_frame _ _ _) ?_ | refine Frame.step (record_frame _ _) ?_)

theorem countdownExpiry_frame (s : State) (g : Fin 8) :
    Frame [.gtc, .avp, .prt] s (s.countdownExpiry g) := by
  unfold State.countdownExpiry
  try dsimp only
  (repeat' split) <;>
    (repeat with_reducible first
      | exact Frame.refl _ _ | refine Frame.step (onGate_frame _ _ _) ?_)

theorem travelExpiry_frame (s : State) (g : Fin 8) :
    Frame [.gtc, .avp, .prt] s (s.travelExpiry g) := by
  unfold State.travelExpiry
  try dsimp only
  (repeat' split) <;>
    (repeat with_reducible first
      | exact Frame.refl _ _ | refine Frame.step (onGate_frame _ _ _) ?_)

theorem retryExpiry_frame (s : State) (g : Fin 8) :
    Frame [.gtc, .avp, .prt] s (s.retryExpiry g) := by
  unfold State.retryExpiry
  try dsimp only
  (repeat' split) <;>
    (repeat with_reducible first
      | exact Frame.refl _ _ | refine Frame.step (onGate_frame _ _ _) ?_)

theorem deadTimeEnd_frame (s : State) (g : Fin 8) :
    Frame [.gtc, .avp, .prt] s (s.deadTimeEnd g) := by
  unfold State.deadTimeEnd
  try dsimp only
  (repeat' split) <;>
    (repeat with_reducible first
      | exact Frame.refl _ _ | refine Frame.step (onGate_frame _ _ _) ?_)

theorem dutyPeriodEnd_frame (s : State) (g : Fin 8) :
    Frame [.gtc, .avp, .prt] s (s.dutyPeriodEnd g) := by
  unfold State.dutyPeriodEnd
  try dsimp only
  (repeat' split) <;>
    (repeat with_reducible first
      | exact Frame.refl _ _ | refine Frame.step (onGate_frame _ _ _) ?_)

theorem startGates_frame (s : State) : Frame [.gtc, .prt] s s.startGates := by
  unfold State.startGates
  refine Frame.trans ?_ (Frame.foldl _ _ (fun t g => ?_) _)
  · exact Frame.with_gtc (Frame.refl _ _)
  · split
    · exact (recordGate_frame _ _ _ _).mono
    · exact Frame.refl _ _

/-! ### Condition -/

theorem setReady_frame (s : State) (k : Fin 6) (r : StationRec) :
    Frame [.cnd] s (s.setReady k r) := by
  unfold State.setReady
  try dsimp only
  (repeat' split) <;>
    (repeat with_reducible first
      | exact Frame.refl _ _ | refine Frame.step (setStation_frame _ _ _) ?_)

theorem wxRequest_frame (s : State) (k : Fin 6) (c : Kind) (w : Option Content) :
    Frame [.ord, .rsv, .prt] s (s.wxRequest k c w) := by
  unfold State.wxRequest
  try dsimp only
  (repeat' split) <;>
    (repeat with_reducible first
      | exact Frame.refl _ _ | refine Frame.step (wxRaise_frame _ _ _) ?_
      | refine Frame.step (wxRetire_frame _ _ _) ?_)

theorem wxRequests_frame (s : State) (k : Fin 6) (r : StationRec) :
    Frame [.ord, .rsv, .prt] s (s.wxRequests k r) := by
  unfold State.wxRequests
  try dsimp only
  (repeat' split) <;>
    (repeat with_reducible first
      | exact Frame.refl _ _ | refine Frame.step (wxRequest_frame _ _ _ _) ?_)

theorem conclude_frame (s : State) (k : Fin 6) (r : StationRec) :
    Frame [.cnd, .ord, .rsv, .prt] s (s.conclude k r) := by
  unfold State.conclude
  try dsimp only
  (repeat' split) <;>
    (repeat with_reducible first
      | exact Frame.refl _ _ | refine Frame.step (wxRequests_frame _ _ _) ?_
      | refine Frame.step (setStation_frame _ _ _) ?_ | refine Frame.step (setReady_frame _ _ _) ?_)

theorem noteClass_frame (s : State) (k : Fin 6) (c : SurfaceClass) (m : Option Int) :
    Frame [.rsv, .prt] s (s.noteClass k c m) := by
  unfold State.noteClass
  try dsimp only
  (repeat' split) <;>
    (repeat with_reducible first
      | exact Frame.refl _ _ | refine Frame.step (markDirty_frame _) ?_ | refine Frame.step (record_frame _ _) ?_)

theorem noteQuality_frame (s : State) (k : Fin 6) (a b : Quality) :
    Frame [.cnd, .prt] s (s.noteQuality k a b) := by
  unfold State.noteQuality
  try dsimp only
  (repeat' split) <;>
    (repeat with_reducible first
      | exact Frame.refl _ _ | refine Frame.step (record_frame _ _) ?_
      | refine Frame.step (setStation_frame _ _ _) ?_)

theorem scanHandOver_frame (s : State) (k : Fin 6) (r : StationRec) (a b : Quality) (x y : Option Int) :
    Frame [.cnd, .ord, .rsv, .prt] s (s.scanHandOver k r a b x y) := by
  unfold State.scanHandOver
  try dsimp only
  (repeat' split) <;>
    (repeat with_reducible first
      | exact Frame.refl _ _ | refine Frame.step (conclude_frame _ _ _) ?_
      | refine Frame.step (noteClass_frame _ _ _ _) ?_ | refine Frame.step (setStation_frame _ _ _) ?_
      | refine Frame.step (noteQuality_frame _ _ _ _) ?_)

theorem windHandOver_frame (s : State) (k : Fin 6) (r : StationRec) (a b : Nat) :
    Frame [.cnd, .ord, .rsv, .prt] s (s.windHandOver k r a b) := by
  unfold State.windHandOver
  try dsimp only
  (repeat' split) <;>
    (repeat with_reducible first
      | exact Frame.refl _ _ | refine Frame.step (conclude_frame _ _ _) ?_ | refine Frame.step (record_frame _ _) ?_
      | refine Frame.step (setStation_frame _ _ _) ?_)

theorem improvementExpiry_frame (s : State) (k : Fin 6) :
    Frame [.cnd, .ord, .rsv, .prt] s (s.improvementExpiry k) := by
  unfold State.improvementExpiry
  try dsimp only
  (repeat' split) <;>
    (repeat with_reducible first
      | exact Frame.refl _ _ | refine Frame.step (conclude_frame _ _ _) ?_
      | refine Frame.step (noteClass_frame _ _ _ _) ?_ | refine Frame.step (setStation_frame _ _ _) ?_)

/-! ### Signs -/

theorem placeJob_frame (s : State) (l : Fin 2) (j : Job) (b : Bool) :
    Frame [.flc] s (s.placeJob l j b) := by
  unfold State.placeJob
  try dsimp only
  (repeat' split) <;>
    (repeat with_reducible first
      | exact Frame.refl _ _ | refine Frame.step (setLine_frame _ _ _) ?_)

theorem reviewConfirmed_frame (s : State) (i : Fin 24) : Frame [.signs, .gtc, .avp, .prt] s (s.reviewConfirmed i) := by
  unfold State.reviewConfirmed
  extract_lets c
  split
  · exact Frame.refl _ s
  · exact Frame.step (reportSignToPaths_frame _ _) (Frame.step (reportSignToGates_frame _ _)
      ((setSign_frame s i _).mono))

theorem reportLink_frame (s : State) (i : Fin 24) (k : Link) :
    Frame [.signs, .gtc, .avp, .prt] s (s.reportLink i k) := by
  unfold State.reportLink
  try dsimp only
  (repeat' split) <;>
    (repeat with_reducible first
      | exact Frame.refl _ _ | refine Frame.step (reviewConfirmed_frame _ _) ?_
      | refine Frame.step (setSign_frame _ _ _) ?_)

theorem exchangeRoles_frame (s : State) (i : Fin 24) :
    Frame [.signs, .gtc, .avp, .prt] s (s.exchangeRoles i) := by
  unfold State.exchangeRoles
  try dsimp only
  (repeat' split) <;>
    (repeat with_reducible first
      | exact Frame.refl _ _ | refine Frame.step (reviewConfirmed_frame _ _) ?_
      | refine Frame.step (setSign_frame _ _ _) ?_)

theorem joinQueue_frame (s : State) (i : Fin 24) :
    Frame [.scp] s (s.joinQueue i) := by
  unfold State.joinQueue
  try dsimp only
  (repeat' split) <;>
    (repeat with_reducible first
      | exact Frame.refl _ _ | refine Frame.with_scp ?_)

theorem publishToSign_frame (s : State) (i : Fin 24) :
    Frame [.scp] s (publishToSign s i) := by
  unfold State.publishToSign
  try dsimp only
  (repeat' split) <;>
    (repeat with_reducible first
      | exact Frame.refl _ _ | refine Frame.step (joinQueue_frame _ _) ?_)

theorem publishToSigns_frame (s : State) :
    Frame [.scp] s (s.publishToSigns) := by
  unfold State.publishToSigns
  refine Frame.foldl _ _ (fun t a => ?_) s
  (repeat' split) <;>
    (repeat with_reducible first
      | exact Frame.refl _ _ | refine Frame.step (publishToSign_frame _ _) ?_)

theorem lineGranted_frame (s : State) (l : Fin 2) :
    Frame [.flc] s (s.lineGranted l) := by
  unfold State.lineGranted
  try dsimp only
  (repeat' split) <;>
    (repeat with_reducible first
      | exact Frame.refl _ _ | refine Frame.step (setLine_frame _ _ _) ?_)

theorem grant_frame (s : State) :
    Frame [.scp, .flc] s (s.grant) := by
  unfold State.grant
  try dsimp only
  (repeat' split) <;>
    (repeat with_reducible first
      | exact Frame.refl _ _ | refine Frame.step (lineGranted_frame _ _) ?_
      | refine Frame.step (setArbiter_frame _ _) ?_)

theorem composerAsks_frame (s : State) :
    Frame [.scp, .flc] s (s.composerAsks) := by
  unfold State.composerAsks
  try dsimp only
  (repeat' split) <;>
    (repeat with_reducible first
      | exact Frame.refl _ _ | refine Frame.step (grant_frame _) ?_ | refine Frame.step (setArbiter_frame _ _) ?_)

theorem lineAsks_frame (s : State) (l : Fin 2) :
    Frame [.scp, .flc] s (s.lineAsks l) := by
  unfold State.lineAsks
  try dsimp only
  (repeat' split) <;>
    (repeat with_reducible first
      | exact Frame.refl _ _ | refine Frame.step (grant_frame _) ?_ | refine Frame.step (setArbiter_frame _ _) ?_)

theorem portAsks_frame (s : State) (p : Port) (q : PageReq) :
    Frame [.scp, .flc] s (s.portAsks p q) := by
  unfold State.portAsks
  try dsimp only
  (repeat' split) <;>
    (repeat with_reducible first
      | exact Frame.refl _ _ | refine Frame.step (grant_frame _) ?_ | refine Frame.step (setArbiter_frame _ _) ?_)

theorem release_frame (s : State) :
    Frame [.scp, .flc] s (s.release) := by
  unfold State.release
  try dsimp only
  (repeat' split) <;>
    (repeat with_reducible first
      | exact Frame.refl _ _ | refine Frame.step (grant_frame _) ?_ | refine Frame.step (setArbiter_frame _ _) ?_)

theorem takeSign_frame (s : State) (i : Fin 24) (r : SignRec) :
    Frame [.signs, .scp, .flc] s (s.takeSign i r) := by
  unfold State.takeSign
  try dsimp only
  (repeat' split) <;>
    (repeat with_reducible first
      | exact Frame.refl _ _ | refine Frame.step (composerAsks_frame _) ?_
      | refine Frame.step (setSign_frame _ _ _) ?_ | refine Frame.with_scp ?_)

theorem composerTake_frame (s : State) :
    Frame [.signs, .scp, .flc] s (s.composerTake) := by
  unfold State.composerTake
  try dsimp only
  (repeat' split) <;>
    (repeat with_reducible first
      | exact Frame.refl _ _ | refine Frame.step (takeSign_frame _ _ _) ?_)

theorem endComposition_frame (s : State) (c : Composition) (r : SignRec) :
    Frame [.signs, .scp, .flc] s (s.endComposition c r) := by
  unfold State.endComposition
  extract_lets i s1 d dropped x2 s2 s3 s4 x5 s5
  have h1 : Frame [.signs, .scp, .flc] s s1 := (finishDrawing_frame s r c).mono
  have h2 : Frame [.signs, .scp, .flc] s s2 := Frame.step (setSign_frame _ _ _) h1
  have h3 : Frame [.signs, .scp, .flc] s s3 := Frame.step (placeJob_frame _ _ _ _) h2
  have h4 : Frame [.signs, .scp, .flc] s s4 := by
    show Frame _ s (if _ then s3 else s3.joinQueue i)
    split
    · exact h3
    · exact Frame.step (joinQueue_frame _ _) h3
  exact Frame.step (grant_frame _) (Frame.with_scp (Frame.step (setSign_frame _ _ _) h4))

theorem compositionEnd_frame (s : State) :
    Frame [.signs, .scp, .flc] s (s.compositionEnd) := by
  unfold State.compositionEnd
  try dsimp only
  (repeat' split) <;>
    (repeat with_reducible first
      | exact Frame.refl _ _ | refine Frame.step (endComposition_frame _ _ _) ?_)

theorem composerAccessEnd_frame (s : State) :
    Frame [.scp, .flc] s (s.composerAccessEnd) := by
  unfold State.composerAccessEnd
  try dsimp only
  (repeat' split) <;>
    (repeat with_reducible first
      | exact Frame.refl _ _ | refine Frame.step (composerAsks_frame _) ?_ | refine Frame.step (release_frame _) ?_
      | refine Frame.with_scp ?_)

theorem lightToSign_frame (s : State) (i : Fin 24) :
    Frame [.signs, .flc] s (lightToSign s i) := by
  unfold State.lightToSign
  try dsimp only
  (repeat' split) <;>
    (repeat with_reducible first
      | exact Frame.refl _ _ | refine Frame.step (placeJob_frame _ _ _ _) ?_
      | refine Frame.step (setSign_frame _ _ _) ?_)

theorem lightToSigns_frame (s : State) :
    Frame [.signs, .flc] s (s.lightToSigns) := by
  unfold State.lightToSigns
  refine Frame.foldl _ _ (fun t a => ?_) s
  (repeat' split) <;>
    (repeat with_reducible first
      | exact Frame.refl _ _ | refine Frame.step (lightToSign_frame _ _) ?_)

theorem pageMemoryAccessEnd_frame (s : State) :
    Frame [.scp, .flc, .prt] s (s.pageMemoryAccessEnd) := by
  unfold State.pageMemoryAccessEnd
  try dsimp only
  (repeat' split) <;>
    (repeat with_reducible first
      | exact Frame.refl _ _ | refine Frame.step (answerBody_frame _ _ _) ?_
      | refine Frame.step (composerAccessEnd_frame _) ?_ | refine Frame.step (release_frame _) ?_)

/-! ### Field lines -/

theorem takeJob_frame (s : State) (l : Fin 2) (j : Job) (t : Trans) (f : Option (List Byte)) :
    Frame [.flc] s (s.takeJob l j t f) := by
  unfold State.takeJob
  try dsimp only
  (repeat' split) <;>
    (repeat with_reducible first
      | exact Frame.refl _ _ | refine Frame.step (setLine_frame _ _ _) ?_)

theorem beginTransfer_frame (s : State) (i : Fin 24) :
    Frame [.signs, .gtc, .avp, .prt] s (s.beginTransfer i) := by
  unfold State.beginTransfer
  try dsimp only
  (repeat' split) <;>
    (repeat with_reducible first
      | exact Frame.refl _ _ | refine Frame.step (reportLink_frame _ _ _) ?_
      | refine Frame.step (setSign_frame _ _ _) ?_)

theorem pageTransfer_frame (s : State) (l : Fin 2) :
    Frame [.flc, .signs, .gtc, .avp, .prt] s (s.pageTransfer l) := by
  unfold State.pageTransfer
  try dsimp only
  (repeat' split) <;>
    (repeat with_reducible first
      | exact Frame.refl _ _ | refine Frame.step (beginTransfer_frame _ _) ?_
      | refine Frame.step (takeJob_frame _ _ _ _ _) ?_)

theorem lampTransfer_frame (s : State) (l : Fin 2) :
    Frame [.scp, .flc, .signs, .gtc, .avp, .prt] s (s.lampTransfer l) := by
  unfold State.lampTransfer
  try dsimp only
  (repeat' split) <;>
    (repeat with_reducible first
      | exact Frame.refl _ _ | refine Frame.step (lineAsks_frame _ _) ?_
      | refine Frame.step (beginTransfer_frame _ _) ?_ | refine Frame.step (takeJob_frame _ _ _ _ _) ?_)

theorem brightnessJob_frame (s : State) (l : Fin 2) :
    Frame [.flc] s (s.brightnessJob l) := by
  unfold State.brightnessJob
  try dsimp only
  (repeat' split) <;>
    (repeat with_reducible first
      | exact Frame.refl _ _ | refine Frame.step (takeJob_frame _ _ _ _ _) ?_)

theorem poll_frame (s : State) (l : Fin 2) :
    Frame [.flc] s (s.poll l) := by
  unfold State.poll
  try dsimp only
  (repeat' split) <;>
    (repeat with_reducible first
      | exact Frame.refl _ _ | refine Frame.step (setLine_frame _ _ _) ?_)

theorem pageBlock_frame (s : State) (l : Fin 2) :
    Frame [.flc] s (s.pageBlock l) := by
  unfold State.pageBlock
  try dsimp only
  (repeat' split) <;>
    (repeat with_reducible first
      | exact Frame.refl _ _ | refine Frame.step (setLine_frame _ _ _) ?_)

theorem afterPageFrame_frame (s : State) (l : Fin 2) (t : Trans) (n : Nat) :
    Frame [.scp, .flc] s (s.afterPageFrame l t n) := by
  unfold State.afterPageFrame
  try dsimp only
  (repeat' split) <;>
    (repeat with_reducible first
      | exact Frame.refl _ _ | refine Frame.step (setLine_frame _ _ _) ?_ | refine Frame.step (lineAsks_frame _ _) ?_)

theorem fieldFrameSent_frame (s : State) (l : Fin 2) :
    Frame [.scp, .flc] s (s.fieldFrameSent l) := by
  unfold State.fieldFrameSent
  try dsimp only
  (repeat' split) <;>
    (repeat with_reducible first
      | exact Frame.refl _ _ | refine Frame.step (afterPageFrame_frame _ _ _ _) ?_
      | refine Frame.step (setLine_frame _ _ _) ?_)

theorem putBackJob_frame (s : State) (l : Fin 2) (t : Trans) :
    Frame [.flc] s (s.putBackJob l t) := by
  unfold State.putBackJob
  try dsimp only
  (repeat' split) <;>
    (repeat with_reducible first
      | exact Frame.refl _ _ | refine Frame.step (placeJob_frame _ _ _ _) ?_)

theorem endTransaction_frame (s : State) (l : Fin 2) (t : Trans) :
    Frame [.flc, .signs] s (s.endTransaction l t) := by
  unfold State.endTransaction
  try dsimp only
  (repeat' split) <;>
    (repeat with_reducible first
      | exact Frame.refl _ _ | refine Frame.step (setSign_frame _ _ _) ?_
      | refine Frame.step (setLine_frame _ _ _) ?_)

theorem takeReport_frame (s : State) (l : Fin 2) (i : Fin 24) (q : SignReply) :
    Frame [.signs, .prt] s (s.takeReport l i q) := by
  unfold State.takeReport
  try dsimp only
  (repeat' split) <;>
    (repeat with_reducible first
      | exact Frame.refl _ _ | refine Frame.step (record_frame _ _) ?_ | refine Frame.step (setSign_frame _ _ _) ?_)

theorem takeConfirm_frame (s : State) (l : Fin 2) (t : Trans) (q : SignReply) :
    Frame [.flc, .signs, .gtc, .avp, .prt] s (s.takeConfirm l t q) := by
  unfold State.takeConfirm
  extract_lets i s1 n
  have h1 : Frame [.flc, .signs, .gtc, .avp, .prt] s s1 :=
    Frame.step (takeReport_frame _ _ _ _) ((endTransaction_frame s l t).mono)
  split
  · exact Frame.step (exchangeRoles_frame _ _) (Frame.step (setSign_frame _ _ _) h1)
  · exact Frame.step (putBackJob_frame _ _ _) (Frame.step (reportLink_frame _ _ _)
      (Frame.step (setSign_frame _ _ _) h1))

theorem requestComposition_frame (s : State) (i : Fin 24) :
    Frame [.scp] s (s.requestComposition i) := by
  unfold State.requestComposition
  try dsimp only
  (repeat' split) <;>
    (repeat with_reducible first
      | exact Frame.refl _ _ | refine Frame.step (joinQueue_frame _ _) ?_)

theorem takeStatusLink_frame (s : State) (i : Fin 24) (c : Check) :
    Frame [.scp, .signs, .gtc, .avp, .prt] s (s.takeStatusLink i c) := by
  unfold State.takeStatusLink
  try dsimp only
  (repeat' split) <;>
    (repeat with_reducible first
      | exact Frame.refl _ _ | refine Frame.step (requestComposition_frame _ _) ?_
      | refine Frame.step (reportLink_frame _ _ _) ?_)

theorem takeStatus_frame (s : State) (l : Fin 2) (t : Trans) (q : SignReply) :
    Frame [.scp, .flc, .signs, .gtc, .avp, .prt] s (s.takeStatus l t q) := by
  unfold State.takeStatus
  try dsimp only
  (repeat' split) <;>
    (repeat with_reducible first
      | exact Frame.refl _ _ | refine Frame.step (takeStatusLink_frame _ _ _) ?_
      | refine Frame.step (takeReport_frame _ _ _ _) ?_ | refine Frame.step (endTransaction_frame _ _ _) ?_)

theorem misplacedReply_frame (s : State) (l : Fin 2) :
    Frame [.flc] s (s.misplacedReply l) := by
  unfold State.misplacedReply
  try dsimp only
  (repeat' split) <;>
    (repeat with_reducible first
      | exact Frame.refl _ _ | refine Frame.step (setLine_frame _ _ _) ?_)

theorem confirm_frame (s : State) (l : Fin 2) (q : SignReply) :
    Frame [.flc, .signs, .gtc, .avp, .prt] s (s.confirm l q) := by
  unfold State.confirm
  try dsimp only
  (repeat' split) <;>
    (repeat with_reducible first
      | exact Frame.refl _ _ | refine Frame.step (takeConfirm_frame _ _ _ _) ?_
      | refine Frame.step (misplacedReply_frame _ _) ?_)

theorem status_frame (s : State) (l : Fin 2) (q : SignReply) :
    Frame [.scp, .flc, .signs, .gtc, .avp, .prt] s (s.status l q) := by
  unfold State.status
  try dsimp only
  (repeat' split) <;>
    (repeat with_reducible first
      | exact Frame.refl _ _ | refine Frame.step (takeStatus_frame _ _ _ _) ?_
      | refine Frame.step (misplacedReply_frame _ _) ?_)

theorem goOffline_frame (s : State) (l : Fin 2) (i : Fin 24) :
    Frame [.flc, .signs, .gtc, .avp, .prt] s (s.goOffline l i) := by
  unfold State.goOffline
  try dsimp only
  (repeat' split) <;>
    (repeat with_reducible first
      | exact Frame.refl _ _ | refine Frame.step (reportLink_frame _ _ _) ?_
      | refine Frame.step (setLine_frame _ _ _) ?_)

theorem takeNoReply_frame (s : State) (l : Fin 2) (t : Trans) :
    Frame [.flc, .signs, .gtc, .avp, .prt] s (s.takeNoReply l t) := by
  unfold State.takeNoReply
  extract_lets i s0 x n s1
  have h1 : Frame [.flc, .signs, .gtc, .avp, .prt] s s1 :=
    Frame.step (setSign_frame _ _ _) (Frame.step (setLine_frame _ _ _) ((endTransaction_frame s l t).mono))
  (repeat' split) <;>
    first
      | exact h1
      | exact Frame.step (goOffline_frame _ _ _) h1
      | exact Frame.step (putBackJob_frame _ _ _) h1
      | exact Frame.step (putBackJob_frame _ _ _) (Frame.step (reportLink_frame _ _ _) h1)

theorem replyLimitExpiry_frame (s : State) (l : Fin 2) :
    Frame [.flc, .signs, .gtc, .avp, .prt] s (s.replyLimitExpiry l) := by
  unfold State.replyLimitExpiry
  try dsimp only
  (repeat' split) <;>
    (repeat with_reducible first
      | exact Frame.refl _ _ | refine Frame.step (takeNoReply_frame _ _ _) ?_)

theorem invalidReply_frame (s : State) (l : Fin 2) (c : InvalidCause) :
    Frame [.flc] s (s.invalidReply l c) := by
  unfold State.invalidReply
  try dsimp only
  (repeat' split) <;>
    (repeat with_reducible first
      | exact Frame.refl _ _ | refine Frame.step (setLine_frame _ _ _) ?_)

theorem strayCharacter_frame (s : State) (l : Fin 2) (c : CharStatus) :
    Frame [.flc] s (s.strayCharacter l c) := by
  unfold State.strayCharacter
  try dsimp only
  (repeat' split) <;>
    (repeat with_reducible first
      | exact Frame.refl _ _ | refine Frame.step (setLine_frame _ _ _) ?_)

theorem pollTimerExpiry_frame (s : State) (i : Fin 24) :
    Frame [.signs] s (s.pollTimerExpiry i) := by
  unfold State.pollTimerExpiry
  try dsimp only
  (repeat' split) <;>
    (repeat with_reducible first
      | exact Frame.refl _ _ | refine Frame.step (setSign_frame _ _ _) ?_)

/-! ### Measurement -/

theorem handStation_frame (s : State) (k : Fin 6) :
    Frame [.cnd, .ord, .rsv, .prt] s (handStation s k) := by
  unfold State.handStation
  try dsimp only
  (repeat' split) <;>
    (repeat with_reducible first
      | exact Frame.refl _ _ | refine Frame.step (scanHandOver_frame _ _ _ _ _ _ _) ?_)

theorem handOver_frame (s : State) : Frame [.cnd, .ord, .rsv, .prt, .signs, .flc] s s.handOver := by
  unfold State.handOver
  exact Frame.step (lightToSigns_frame _) (Frame.foldl _ _ (fun t k => (handStation_frame t k).mono) s)

theorem conversionEnd_frame (s : State) (c : Nat) (o : Bool) :
    Frame [.mea, .cnd, .ord, .rsv, .prt, .signs, .flc] s (s.conversionEnd c o) := by
  unfold State.conversionEnd
  split
  · exact Frame.refl _ s
  · extract_lets n1
    split
    · exact Frame.step (handOver_frame _) (Frame.with_mea (Frame.refl _ s))
    · exact Frame.with_mea (Frame.refl _ s)

theorem scanTimerExpiry_frame (s : State) :
    Frame [.mea] s (s.scanTimerExpiry) := by
  unfold State.scanTimerExpiry
  try dsimp only
  (repeat' split) <;>
    (repeat with_reducible first
      | exact Frame.refl _ _ | refine Frame.with_mea ?_)

theorem anemometerEdge_frame (s : State) (i : Fin 3) (c h : Nat) :
    Frame [.mea] s (s.anemometerEdge i c h) := by
  unfold State.anemometerEdge
  try dsimp only
  (repeat' split) <;>
    (repeat with_reducible first
      | exact Frame.refl _ _ | refine Frame.step (setAnemometer_frame _ _ _) ?_)

theorem anemometerCalm_frame (s : State) (i : Fin 3) :
    Frame [.mea] s (s.anemometerCalm i) := by
  unfold State.anemometerCalm
  try dsimp only
  (repeat' split) <;>
    (repeat with_reducible first
      | exact Frame.refl _ _ | refine Frame.step (setAnemometer_frame _ _ _) ?_)

theorem sampleStation_frame (s : State) (k : Fin 6) :
    Frame [.mea, .cnd, .ord, .rsv, .prt] s (sampleStation s k) := by
  unfold State.sampleStation
  try dsimp only
  (repeat' split) <;>
    (repeat with_reducible first
      | exact Frame.refl _ _ | refine Frame.step (windHandOver_frame _ _ _ _ _) ?_ | refine Frame.with_mea ?_)

theorem windSample_frame (s : State) :
    Frame [.mea, .cnd, .ord, .rsv, .prt] s (s.windSample) := by
  unfold State.windSample
  refine Frame.foldl _ _ (fun t a => ?_) s
  (repeat' split) <;>
    (repeat with_reducible first
      | exact Frame.refl _ _ | refine Frame.step (sampleStation_frame _ _) ?_)

/-! ### Ports, the image and starts -/

theorem resetPort_frame (s : State) (p : Port) :
    Frame [.img, .scp, .prt] s (s.resetPort p) := by
  unfold State.resetPort
  try dsimp only
  (repeat' split) <;>
    (repeat with_reducible first
      | exact Frame.refl _ _ | refine Frame.step (record_frame _ _) ?_ | refine Frame.step (setPort_frame _ _ _) ?_
      | refine Frame.step (dropReplies_frame _ _) ?_)

theorem breakEnd_frame (s : State) (p : Port) :
    Frame [.prt] s (s.breakEnd p) := by
  unfold State.breakEnd
  try dsimp only
  (repeat' split) <;>
    (repeat with_reducible first
      | exact Frame.refl _ _ | refine Frame.step (setPort_frame _ _ _) ?_)

theorem rxFifoOverrun_frame (s : State) (p : Port) :
    Frame [.prt] s (s.rxFifoOverrun p) := by
  unfold State.rxFifoOverrun
  try dsimp only
  (repeat' split) <;>
    (repeat with_reducible first
      | exact Frame.refl _ _ | refine Frame.step (setPort_frame _ _ _) ?_)

theorem noticeSend_frame (s : State) (p : Port) :
    Frame [.prt] s (s.noticeSend p) := by
  unfold State.noticeSend
  try dsimp only
  (repeat' split) <;>
    (repeat with_reducible first
      | exact Frame.refl _ _ | refine Frame.step (setPort_frame _ _ _) ?_)

theorem portFrameSent_frame (s : State) (p : Port) :
    Frame [.prt] s (s.portFrameSent p) := by
  unfold State.portFrameSent
  try dsimp only
  (repeat' split) <;>
    (repeat with_reducible first
      | exact Frame.refl _ _ | refine Frame.step (setPort_frame _ _ _) ?_)

theorem cutWrite_frame (s : State) : Frame [.img, .cuts] s s.cutWrite := by
  unfold State.cutWrite
  split
  · intro f hf
    cases f <;> first | exact Frame.hit hf rfl | exact Eq.refl _
  · exact Frame.refl _ s

theorem startPorts_frame (s : State) (c : StartCause) :
    Frame [.prt] s (s.startPorts c) := by
  unfold State.startPorts
  try dsimp only
  (repeat' split) <;>
    (repeat with_reducible first
      | exact Frame.refl _ _ | refine Frame.step (record_frame _ _) ?_ | refine Frame.with_prt ?_)

theorem startBlocks_frame (s : State) :
    Frame [.mea, .rsv, .cnd, .scp, .signs, .flc, .ord, .prt, .avp, .gtc] s s.startBlocks := by
  unfold State.startBlocks
  exact Frame.step (startGates_frame _) (Frame.step (startPaths_frame _) (Frame.step (startOrders_frame _)
    (Frame.step (startLines_frame _) (Frame.step (startSigns_frame _) (Frame.step (startStations_frame _)
      (Frame.step (startAspects_frame _) ((startMeasure_frame s).mono)))))))

theorem start_frame (s : State) (c : StartCause) :
    Frame [.powered, .img, .map, .ord, .rsv, .mea, .cnd, .avp, .gtc, .scp, .signs, .flc, .prt, .cuts] s (s.start c) := by
  unfold State.start
  extract_lets s0 s1
  have h0 : Frame [.powered, .img, .map, .ord, .rsv, .mea, .cnd, .avp, .gtc, .scp, .signs, .flc, .prt, .cuts] s s0 :=
    Frame.step (cutWrite_frame _) (Frame.with_powered (Frame.refl _ s))
  have h1 : Frame [.powered, .img, .map, .ord, .rsv, .mea, .cnd, .avp, .gtc, .scp, .signs, .flc, .prt, .cuts] s s1 := by
    show Frame _ s (if _ then s0.clearRetained else s0)
    split
    · exact Frame.step (clearRetained_frame _) h0
    · exact h0
  exact Frame.step (startBlocks_frame _) (Frame.step (startPorts_frame _ _) (Frame.step (loadImage_frame _) h1))

theorem afterBackup_frame (s : State) (b : Bool) : Frame [.img] s (s.afterBackup b) := by
  unfold State.afterBackup
  split
  · exact Frame.refl _ s
  · exact Frame.with_img (Frame.refl _ s)

theorem powerUp_frame (s : State) (b : Bool) :
    Frame [.powered, .img, .map, .ord, .rsv, .mea, .cnd, .avp, .gtc, .scp, .signs, .flc, .prt, .cuts] s (s.powerUp b) :=
  Frame.step (start_frame _ _) ((afterBackup_frame s b).mono)

theorem resetPin_frame (s : State) :
    Frame [.powered, .img, .map, .ord, .rsv, .mea, .cnd, .avp, .gtc, .scp, .signs, .flc, .prt, .cuts] s (s.resetPin) := by
  unfold State.resetPin
  try dsimp only
  (repeat' split) <;>
    (repeat with_reducible first
      | exact Frame.refl _ _ | refine Frame.step (start_frame _ _) ?_)

theorem clockTick_frame (s : State) :
    Frame [.img, .ord, .rsv, .prt] s (s.clockTick) := by
  unfold State.clockTick
  try dsimp only
  (repeat' split) <;>
    (repeat with_reducible first
      | exact Frame.refl _ _ | refine Frame.step (advanceOrders_frame _ _) ?_
      | refine Frame.step (setClock_frame _ _) ?_)

theorem jumpTo_frame (s : State) (t : Nat) :
    Frame [.img, .ord, .rsv, .prt] s (s.jumpTo t) := by
  unfold State.jumpTo
  try dsimp only
  (repeat' split) <;>
    (repeat with_reducible first
      | exact Frame.refl _ _ | refine Frame.step (rewindOrders_frame _ _) ?_
      | refine Frame.step (advanceOrders_frame _ _) ?_ | refine Frame.step (setClock_frame _ _) ?_)

theorem mainPowerLoss_frame (s : State) : Frame [.powered, .img, .cuts, .gtc] s s.mainPowerLoss := by
  unfold State.mainPowerLoss
  split
  · have h := Frame.with_gtc (x := Vector.ofFn (fun g : Fin 8 => unpoweredGate s.gtc[g]))
      (Frame.with_powered (x := false) ((cutWrite_frame s).mono (m := [.powered, .img, .cuts, .gtc])))
    exact h
  · exact Frame.refl _ s

theorem imgAnswer_frame (s : State) (q : ImgReq) (rc : ReplyCode) (d : List Byte) :
    Frame [.prt] s (s.imgAnswer q rc d) := by
  unfold State.imgAnswer
  try dsimp only
  (repeat' split) <;>
    (repeat with_reducible first
      | exact Frame.refl _ _ | refine Frame.step (answer_frame _ _ _ _) ?_)

theorem takeWaiting_frame (l : List ImgReq) : ∀ s : State, Frame [.img, .prt] s (State.takeWaiting l s) := by
  induction l with
  | nil => intro s; exact Frame.with_img (Frame.refl _ _)
  | cons q t ih =>
    intro s
    unfold State.takeWaiting
    split
    · exact Frame.trans ((imgAnswer_frame _ _ _ _).mono) (ih _)
    · split
      · exact Frame.trans ((imgAnswer_frame _ _ _ _).mono) (ih _)
      · exact Frame.with_img (Frame.refl _ _)

theorem imgTake_frame (s : State) (q : ImgReq) : Frame [.img, .prt] s (s.imgTake q) := by
  unfold State.imgTake
  split
  · exact Frame.with_img (Frame.refl _ _)
  · exact takeWaiting_frame _ _

theorem restartAfterWrite_frame (s : State) (q : ImgReq) :
    Frame [.powered, .img, .map, .ord, .rsv, .mea, .cnd, .avp, .gtc, .scp, .signs, .flc, .prt, .cuts] s (s.restartAfterWrite q) := by
  unfold State.restartAfterWrite
  split
  · exact Frame.with_img (Frame.refl _ s)
  · exact start_frame s _

theorem rowWriteComplete_frame (s : State) : Frame [.powered, .img, .map, .ord, .rsv, .mea, .cnd, .avp, .gtc, .scp, .signs, .flc, .prt, .cuts] s s.rowWriteComplete := by
  unfold State.rowWriteComplete
  split
  · dsimp only
    split
    · exact Frame.step (restartAfterWrite_frame _ _) (Frame.step (imgAnswer_frame _ _ _ _) (Frame.step (storeRow_frame _ _ _) (Frame.refl _ _)))
    · exact Frame.step (takeWaiting_frame _ _) (Frame.step (imgAnswer_frame _ _ _ _) (Frame.step (storeRow_frame _ _ _) (Frame.refl _ _)))
  · exact Frame.refl _ _

theorem restartRequest_frame (s : State) :
    Frame [.powered, .img, .map, .ord, .rsv, .mea, .cnd, .avp, .gtc, .scp, .signs, .flc, .prt, .cuts] s s.restartRequest := by
  unfold State.restartRequest
  split
  · exact Frame.with_img (Frame.refl _ s)
  · exact start_frame s _

theorem restartFor_frame (s : State) (p : Port) :
    Frame [.powered, .img, .map, .ord, .rsv, .mea, .cnd, .avp, .gtc, .scp, .signs, .flc, .prt, .cuts] s (s.restartFor p) := by
  unfold State.restartFor
  split
  · exact start_frame s _
  · exact Frame.refl _ s

theorem portBreak_frame (s : State) (p : Port) :
    Frame [.powered, .img, .map, .ord, .rsv, .mea, .cnd, .avp, .gtc, .scp, .signs, .flc, .prt, .cuts] s (s.portBreak p) := by
  unfold State.portBreak
  split
  · exact Frame.refl _ s
  · exact Frame.step (restartFor_frame _ _) ((resetPort_frame s p).mono)

/-! ### Aspects -/

theorem passBegin_frame (s : State) :
    Frame [.rsv] s (s.passBegin) := by
  unfold State.passBegin
  try dsimp only
  (repeat' split) <;>
    (repeat with_reducible first
      | exact Frame.refl _ _ | refine Frame.with_rsv ?_)

theorem passCompletion_frame (s : State) : Frame [.rsv, .scp, .gtc, .avp, .prt] s s.passCompletion := by
  unfold State.passCompletion
  split
  · exact Frame.refl _ s
  · extract_lets w
    split
    · exact (passIdle_frame s).mono
    · exact Frame.step (publishToPaths_frame _) (Frame.step (publishToSigns_frame _)
        (Frame.step (publishToGates_frame _) (Frame.step (publishTable_frame _ _) ((passIdle_frame s).mono))))

end State

end Sys2Proof.Machine
end

