-- ==== Sys2Proof/Laws/Requests.lean ====
section
/-! SUPPORT. What a request does (R161): a request that its port takes at once is served by its owner, and one that fails
a test is answered by the port; every request command is `receiveRequest` of its request. -/

namespace Sys2Proof.Machine

theorem byteOf_code_get (r : Request) (tag : Byte) (args : List Byte) : get8 (r.body tag args) 0 = r.code := by
  cases r <;> rfl

theorem Request.ofCode_code (r : Request) : Request.ofCode r.code = some r := by cases r <;> rfl

theorem Request.argBytes_le (r : Request) : r.argBytes ≤ 34 := by cases r <;> decide

theorem Request.body_length (r : Request) (tag : Byte) (args : List Byte) :
    (r.body tag args).length = args.length + 2 := by simp [Request.body]

/-- Every request command receives its request. -/
theorem exec_command (r : Request) (p : Port) (tag : Byte) (args : List Byte) (s : State) :
    exec (r.command p tag args) s = .next (s.receiveRequest r p tag args) := by cases r <;> rfl

namespace State

/-- A frame of at most 240 bytes that arrives at a listening port is served at once. -/
theorem receiveFrame_listening {s : State} {p : Port} {body : List Byte} (h : s.listening p)
    (hl : 2 ≤ body.length ∧ body.length ≤ 240) : s.receiveFrame p body = (s.serving p).serve p body := by
  obtain ⟨-, hr, hp, hx, ho, hs⟩ := h
  have hc : (s.port p).clearFor body = true := by
    simp [PortUnit.clearFor, PortUnit.rxFill, hp, hx, ho, hs, hl]
    omega
  unfold receiveFrame serveNext
  simp only [PortUnit.rxFrame, hc, if_true, setPort_port, hr, hp, List.nil_append]
  simp only [serving, setPort_setPort]
  congr 2
  rw [← hp]

/-- A request that its port takes at once is served by its owner. -/
theorem receive_taken {s : State} {r : Request} {p : Port} {tag : Byte} {args : List Byte} (h : s.takes p r args) :
    s.receiveRequest r p tag args = serveOwner r ⟨p, r.code, tag⟩ args (s.serving p) := by
  obtain ⟨hl, hp, ha⟩ := h
  have hle := r.argBytes_le
  have hb := r.body_length tag args
  rw [receiveRequest, if_pos hl.1, receiveFrame_listening hl (by omega), serve, byteOf_code_get, Request.ofCode_code]
  have hi : (s.serving p).img = s.img := rfl
  simp only [hi, hp, Bool.not_true, Bool.false_eq_true, if_false]
  rw [if_neg (by omega)]
  rfl

/-- The answer of an owner replaces the service phase and the reply alone. -/
theorem answerBody_serving (p : Port) (body : List Byte) (s : State) :
    (s.serving p).answerBody p body = s.answerBody p body := by
  simp [serving, answerBody, setPort_setPort]

theorem answer_serving (p : Port) (code : Nat) (tag : Byte) (rc : ReplyCode) (data : List Byte) (s : State) :
    (s.serving p).answer ⟨p, code, tag⟩ rc data = s.answer ⟨p, code, tag⟩ rc data := answerBody_serving p _ s

/-! ### A port that waits for its owner

The service phase of the asking port is seen by no owner: every operation that an owner uses commutes with it. -/

theorem serving_record (p : Port) (e : Event) (s : State) : (s.serving p).record e = (s.record e).serving p := by
  simp only [serving, record_port]
  simp only [State.record, State.setPort]
  congr 1
  apply vector_ext
  intro i
  rw [ofFn_get, setAt_get, setAt_get, ofFn_get]
  by_cases h : portIndex p = i
  · subst h
    rw [if_pos rfl, if_pos rfl]
    unfold PortUnit.push
    by_cases hl : (s.port p).notices.length < 32
    · rw [if_pos hl, if_pos hl]
    · rw [if_neg hl, if_neg hl]
  · rw [if_neg h, if_neg h]

theorem serving_with_ord (p : Port) (u : OrdUnit) (s : State) :
    (s.serving p).setOrd u = (s.setOrd u).serving p := rfl

theorem serving_markDirty (p : Port) (s : State) : (s.serving p).markDirty = s.markDirty.serving p := rfl

theorem serving_setPath (p : Port) (k : Fin 12) (x : Path) (s : State) :
    (s.serving p).setPath k x = (s.setPath k x).serving p := rfl

theorem serving_setStation (p : Port) (k : Fin 6) (x : Station) (s : State) :
    (s.serving p).setStation k x = (s.setStation k x).serving p := rfl

theorem serving_setGate (p : Port) (g : Fin 8) (x : Gate) (s : State) :
    (s.serving p).setGate g x = (s.setGate g x).serving p := rfl

theorem serving_admitOrder (p : Port) (o : Order) (s : State) :
    (s.serving p).admitOrder o = (s.admitOrder o).serving p := by
  unfold admitOrder
  exact (congrArg markDirty (serving_record p _ (s.setOrd _))).trans rfl

theorem serving_putOrder (p : Port) (o : Order) (w : OrderState) (s : State) :
    (s.serving p).putOrder o w = (s.putOrder o w).serving p := by
  unfold putOrder
  split <;> rfl

theorem serving_renewOrder (p : Port) (e d : Order) (s : State) :
    renewOrder e d (s.serving p) = (renewOrder e d s).serving p := by
  unfold renewOrder
  rw [serving_putOrder, serving_record]
  rfl

theorem serving_retire (p : Port) (n : Nat) (r : EndReason) (s : State) :
    (s.serving p).retire n r = (s.retire n r).serving p := by
  unfold retire
  have h : (s.serving p).ord = s.ord := rfl
  rw [h]
  split
  · rfl
  · exact (congrArg markDirty (serving_record p _ (s.setOrd _))).trans rfl

theorem serving_changeState (p : Port) (o : Order) (st : OrderState) (s : State) :
    (s.serving p).changeState o st = (s.changeState o st).serving p := by
  unfold changeState
  rw [serving_putOrder, serving_record]
  rfl

theorem serving_foldl {α : Type} (p : Port) (f : State → α → State) (l : List α)
    (h : ∀ s a, f (s.serving p) a = (f s a).serving p) (s : State) :
    l.foldl f (s.serving p) = (l.foldl f s).serving p := by
  induction l generalizing s with
  | nil => rfl
  | cons a t ih => rw [List.foldl_cons, List.foldl_cons, h, ih]

theorem serving_advanceOrders (p : Port) (t : Nat) (s : State) :
    (s.serving p).advanceOrders t = (s.advanceOrders t).serving p := by
  unfold advanceOrders
  refine serving_foldl p _ _ (fun s o => ?_) s
  unfold advanceOrder
  (repeat' split) <;> first | rfl | exact serving_retire .. | exact serving_changeState ..

theorem serving_rewindOrders (p : Port) (t : Nat) (s : State) :
    (s.serving p).rewindOrders t = (s.rewindOrders t).serving p := by
  unfold rewindOrders
  refine serving_foldl p _ _ (fun s o => ?_) s
  unfold rewindOrder
  split <;> first | rfl | exact serving_changeState ..

theorem serving_testPath (p : Port) (k : Fin 12) (r : PathRec) (s : State) :
    (s.serving p).testPath k r = (s.testPath k r).serving p := by
  unfold testPath
  have h1 : (s.serving p).avp = s.avp := rfl
  have h2 : (s.serving p).unmetItem r = s.unmetItem r := rfl
  have h3 : (s.serving p).unmetField r = s.unmetField r := rfl
  rw [h1, h2, h3]
  split
  · split
    · exact serving_record p _ (s.setPath k _)
    · rfl
  · split
    · rfl
    · exact serving_record p _ (s.setPath k _)
  · rfl

theorem serving_testPaths (p : Port) (named : PathRec → Bool) (l : List PathState) (s : State) :
    (s.serving p).testPaths named l = (s.testPaths named l).serving p := by
  unfold testPaths
  refine serving_foldl p _ _ (fun s k => ?_) s
  have h1 : (s.serving p).path? k.val = s.path? k.val := rfl
  have h2 : (s.serving p).avp = s.avp := rfl
  rw [h1, h2]
  (repeat' split) <;> first | rfl | exact serving_testPath ..

theorem serving_reportGate (p : Port) (g : Fin 8) (s : State) :
    (s.serving p).reportGate g = (s.reportGate g).serving p := by
  unfold reportGate
  have h : (s.serving p).valid = s.valid := rfl
  rw [h]
  split
  · exact serving_testPaths ..
  · rfl

theorem serving_recordGate (p : Port) (g : Fin 8) (x : Gate) (b : Bool) (s : State) :
    (s.serving p).recordGate g x b = (s.recordGate g x b).serving p := by
  unfold recordGate
  rw [serving_record]
  split
  · exact serving_record ..
  · rfl

theorem serving_enterGate (p : Port) (g : Fin 8) (s : State) (x : Gate) :
    enterGate g (s.serving p) x = (enterGate g s x).serving p := by
  unfold enterGate
  rw [serving_setGate, serving_recordGate, serving_reportGate]
  rfl

/-- A transition of a gate does not see the service phase of the port that asks for it. -/
theorem serving_moveGate (p : Port) (g : Fin 8) (m : Gate × List Gate) (s : State) :
    (s.serving p).moveGate g m = (s.moveGate g m).serving p := by
  unfold moveGate
  rw [serving_setGate]
  exact serving_foldl p _ _ (fun s x => serving_enterGate p g s x) _

end State

end Sys2Proof.Machine
end

