-- ==== Sys2Proof/Laws/Gates.lean ====
section
/-! SUPPORT. What entering a state makes of a gate (R112, R115 to R121), in the closed terms of `Safety.lean`; how a
transition with one, two or three entries is carried out (R127); and where a new entry stands in the order table. -/

namespace Sys2Proof.Machine

/-! ### The order table -/

/-- A new entry stands behind every entry of a number not above its own. -/
theorem insertOrder_split (o : Order) (l : List Order) : insertOrder o l =
    l.takeWhile (fun y => decide (y.number ≤ o.number)) ++ o :: l.dropWhile (fun y => decide (y.number ≤ o.number)) := by
  induction l with
  | nil => rfl
  | cons x t ih =>
    unfold insertOrder
    by_cases h : o.number < x.number
    · have : ¬x.number ≤ o.number := by omega
      simp [h, this]
    · have : x.number ≤ o.number := by omega
      simp [h, this, ih]

/-! ### Service queues -/

/-- A job of the sign waits exactly when the sign is among the signs of the jobs. -/
theorem any_sign_iff (l : List Job) (i : Fin 24) : (l.any fun j => j.sign == i) = decide (i ∈ l.map Job.sign) := by
  rw [Bool.eq_iff_iff, List.any_eq_true, decide_eq_true_iff, List.mem_map]
  simp only [beq_iff_eq]

namespace Gate

/-! ### Entries -/

theorem halted_eq (st : GatePos) (c : Option FaultCause) (x : Gate) :
    x.halted st c = { (x.enter st).stop with cause := c } := by
  unfold halted enter stop
  cases x.drive <;> simp

theorem stop_enter_cause (st : GatePos) (x : Gate) : (x.enter st).stop.cause = none := by
  unfold stop enter
  cases x.drive <;> simp

theorem halted_none (st : GatePos) (x : Gate) : x.halted st none = (x.enter st).stop := by
  rw [halted_eq, ← stop_enter_cause st x]

theorem enterFault_eq (c : FaultCause) (x : Gate) : x.enterFault c = [x.halted .fault (some c)] := by
  rw [halted_eq]
  rfl

theorem atLimit_eq (st : GatePos) (x : Gate) : x.atLimit st = { x.halted st none with retries := 0 } := by
  rw [halted_none]
  rfl

/-- Entry into OPENING (R120). -/
theorem enterOpening_eq (r : GateRec) (x : Gate) : x.enterOpening r = x.opens r := by
  unfold enterOpening opens
  cases ho : x.openLimit with
  | true =>
    simp only [atLimit_eq]
    rfl
  | false =>
    unfold driven request startLine enter dutyAfter DriveLine.running
    cases x.drive <;> by_cases hs : x.state = .blocked <;> by_cases hr : r.ramp = 0 <;> simp [hs, hr]

/-- Entry into CLOSING (R118), and into CLOSED at the closed limit (R120). -/
theorem enterClosing_eq (r : GateRec) (x : Gate) : x.enterClosing r = x.closes r := by
  unfold enterClosing closes
  cases hc : x.closedLimit with
  | true =>
    have hs : (x.enter .closing).atLimit .closed = x.shut := atLimit_eq .closed (x.enter .closing)
    have hd : x.shut.demand = x.demand ∧ x.shut.inhibit = x.inhibit := ⟨rfl, rfl⟩
    unfold enterClosed
    simp only [hs, hd, enterOpening_eq]
    by_cases h : x.demand = some .opened ∧ x.inhibit = false
    · simp [h]
      rfl
    · have h' : ¬(x.demand = some .opened ∧ (!x.inhibit) = true) := by simpa using h
      simp only [h, h', if_true, if_false]
      rfl
  | false =>
    unfold driven request startLine enter dutyAfter DriveLine.running
    cases x.drive <;> by_cases hr : r.ramp = 0 <;> simp [hr]

/-- The first entry of `enterBlocked`: the gate is raised and the retry counted (R118, R119). -/
theorem raise_blocked_eq (r : GateRec) (x : Gate) :
    ({ x.enter .blocked with retries := x.retries + 1 } : Gate).request r .raise =
      { x.driven r .raise .blocked with retries := x.retries + 1 } := by
  unfold driven request startLine enter dutyAfter DriveLine.running
  cases x.drive <;> by_cases hr : r.ramp = 0 <;> simp [hr]

theorem enterBlocked_eq (r : GateRec) (x y : Gate)
    (hy : y = { x.driven r .raise .blocked with retries := x.retries + 1 }) : x.enterBlocked r =
      if x.openLimit then
        if r.retryLimit < x.retries + 1 then [y, y.halted .fault (some .retriesExhausted)] else [y.blockedWait]
      else [y] := by
  rw [hy, ← raise_blocked_eq, ← enterFault_eq]
  rfl

/-- Entry into PREWARN (R115 to R117): one entry, or with an emergency prewarn time of 0 and no obstruction those of
CLOSING behind it. -/
theorem enterPrewarn_eq (r : GateRec) (signs : Bool) (x y : Gate) (hy : y = x.prewarned r signs) :
    x.enterPrewarn r signs = if x.emergency = true ∧ r.emergency = 0 ∧ x.obstruction = false then
      y :: y.closes r else [y] := by
  have facts : (x.enter .prewarn).stop.obstruction = x.obstruction ∧ (x.enter .prewarn).stop.signTimer = none ∧
      (x.enter .prewarn).stop.countKind = none ∧ (x.enter .prewarn).stop.remaining = 0 := by
    unfold stop enter
    cases x.drive <;> simp
  subst hy
  unfold enterPrewarn prewarned
  rw [halted_none]
  generalize (x.enter .prewarn).stop = y at facts
  obtain ⟨ho, ht, hk, hr⟩ := facts
  have hcount : ∀ k n, y.countdown k n =
      { y with phase := some .countdown, countKind := some k, remaining := n } := by
    intro k n
    unfold countdown
    rw [← ht]
  simp only [hcount]
  by_cases he : x.emergency = true
  · by_cases h0 : r.emergency = 0
    · cases hob : x.obstruction with
      | true =>
        simp only [he, h0, countdownOver, ho, hob]
        cases y
        simp_all
      | false =>
        simp only [he, h0, countdownOver, ho, hob]
        simp only [true_and, if_true, Bool.false_eq_true, if_false, and_false]
        rw [enterClosing_eq]
    · simp [he, h0]
  · cases signs <;> simp [he]

end Gate

namespace State

/-! ### Transitions -/

theorem recordGate_plain (g : Fin 8) (x : Gate) (entered : Bool) (s : State)
    (h : x.state ≠ .fault ∨ x.cause = none ∨ entered = false) :
    s.recordGate g x entered = s.record (x.stateEvent g.val) := by
  unfold recordGate
  dsimp only
  split
  · next h1 h2 =>
    rcases h with h | h | h
    · exact absurd h1 h
    · rw [h] at h2
      cases h2
    · cases h
  · rfl

theorem recordGate_fault (g : Fin 8) (x : Gate) (s : State) (c : FaultCause) (h : x.state = .fault)
    (hc : x.cause = some c) :
    s.recordGate g x true = (s.record (x.stateEvent g.val)).record (.gateFault g.val c) := by
  unfold recordGate
  rw [h, hc]

/-- An entry replaces the gate whole: of the gate before, only whether it was in FAULT counts. -/
theorem enterGate_setGate (g : Fin 8) (s : State) (y z : Gate) (h : y.state = s.gtc[g].state) :
    enterGate g (s.setGate g y) z = enterGate g s z := by
  unfold enterGate
  have e1 : (s.setGate g y).gtc[g] = y := setAt_get_same ..
  have e2 : (s.setGate g y).setGate g z = s.setGate g z := by simp [setGate]
  rw [e1, e2, h]

/-- A transition with at least one entry does not show the gate that it leaves. -/
theorem moveGate_entries (g : Fin 8) (s : State) (y z : Gate) (l : List Gate) (h : y.state = s.gtc[g].state) :
    s.moveGate g (y, z :: l) = l.foldl (enterGate g) (enterGate g s z) := by
  unfold moveGate
  rw [List.foldl_cons, enterGate_setGate g s y z h]

end State

end Sys2Proof.Machine
end

