-- ==== Sys2Proof/Laws/Memory.lean ====
section
/-! SUPPORT. Page memory and the stored rows: a read after a write, and that every write keeps the canonical form. -/

namespace Sys2Proof.Machine

/-! ### Page memory -/

theorem memWfFrom_iff (m : List Host.Cell) : ∀ lo, memWfFrom lo m = true ↔
    m.Pairwise (fun a b => a.1 < b.1) ∧ (∀ c ∈ m, lo ≤ c.1 ∧ c.2 ≠ 0#8) := by
  induction m with
  | nil => intro lo; simp [memWfFrom]
  | cons c t ih =>
    intro lo
    obtain ⟨a, b⟩ := c
    simp only [memWfFrom, Bool.and_eq_true, decide_eq_true_eq, ih, List.pairwise_cons, List.mem_cons, forall_eq_or_imp]
    constructor
    · rintro ⟨⟨h1, h2⟩, h3, h4⟩
      exact ⟨⟨fun c hc => (h4 c hc).1, h3⟩, ⟨h1, h2⟩, fun c hc => ⟨le_trans h1 (le_trans (Nat.le_succ a) (h4 c hc).1),
        (h4 c hc).2⟩⟩
    · rintro ⟨⟨h1, h2⟩, ⟨h3, h4⟩, h5⟩
      exact ⟨⟨h3, h4⟩, h2, fun c hc => ⟨h1 c hc, (h5 c hc).2⟩⟩

/-- The canonical form of page memory: addresses strictly rising, no zero byte listed. -/
theorem memWf_iff (m : List Host.Cell) : memWf m = true ↔
    m.Pairwise (fun a b => a.1 < b.1) ∧ (∀ c ∈ m, c.2 ≠ 0#8) := by
  simp [memWf, memWfFrom_iff]

theorem cellsFrom_mem (bs : List Byte) : ∀ base, ∀ c ∈ cellsFrom base bs,
    base ≤ c.1 ∧ c.1 < base + bs.length ∧ c.2 ≠ 0#8 := by
  induction bs with
  | nil => intro base c hc; simp [cellsFrom] at hc
  | cons b t ih =>
    intro base c hc
    simp only [cellsFrom] at hc
    split at hc
    · have := ih _ _ hc
      exact ⟨by omega, by simp only [List.length_cons]; omega, this.2.2⟩
    · next hb =>
      rcases List.mem_cons.mp hc with rfl | hc
      · simp [hb]
      · have := ih _ _ hc
        exact ⟨by omega, by simp only [List.length_cons]; omega, this.2.2⟩

theorem cellsFrom_pairwise (bs : List Byte) : ∀ base, (cellsFrom base bs).Pairwise (fun a b => a.1 < b.1) := by
  induction bs with
  | nil => intro base; simp [cellsFrom]
  | cons b t ih =>
    intro base
    simp only [cellsFrom]
    split
    · exact ih _
    · refine List.pairwise_cons.mpr ⟨fun c hc => ?_, ih _⟩
      have := cellsFrom_mem t (base + 1) c hc
      show base < c.1
      omega

/-- A write keeps the canonical form of page memory. -/
theorem memWrite_wf (m : List Host.Cell) (base : Nat) (bs : List Byte) (h : memWf m = true) :
    memWf (memWrite m base bs) = true := by
  rw [memWf_iff] at h ⊢
  obtain ⟨hp, hz⟩ := h
  unfold memWrite
  constructor
  · rw [List.pairwise_append, List.pairwise_append]
    refine ⟨⟨hp.filter _, cellsFrom_pairwise bs base, ?_⟩, hp.filter _, ?_⟩
    · intro a ha c hc
      have h1 := (List.mem_filter.mp ha).2
      have h2 := cellsFrom_mem bs base c hc
      simp at h1; omega
    · intro a ha c hc
      have h2 := (List.mem_filter.mp hc).2
      rcases List.mem_append.mp ha with ha | ha
      · have h1 := (List.mem_filter.mp ha).2
        simp at h1 h2; omega
      · have h1 := cellsFrom_mem bs base a ha
        simp at h2; omega
  · intro c hc
    rcases List.mem_append.mp hc with hc | hc
    · rcases List.mem_append.mp hc with hc | hc
      · exact hz c (List.mem_filter.mp hc).1
      · exact (cellsFrom_mem bs base c hc).2.2
    · exact hz c (List.mem_filter.mp hc).1

theorem memRead_append (l m : List Host.Cell) (x : Nat) :
    memRead (l ++ m) x = if x ∈ l.map Prod.fst then memRead l x else memRead m x := by
  induction l with
  | nil => simp
  | cons c t ih =>
    obtain ⟨a, b⟩ := c
    simp only [List.cons_append, memRead, List.map_cons, List.mem_cons]
    by_cases h : a = x
    · simp [h]
    · have h' : ¬x = a := fun e => h e.symm
      simp [h, h', ih]

theorem memRead_filter (p : Nat → Bool) (m : List Host.Cell) (x : Nat) :
    memRead (m.filter (fun c => p c.1)) x = if p x then memRead m x else 0#8 := by
  induction m with
  | nil => simp [memRead]
  | cons c t ih =>
    obtain ⟨a, b⟩ := c
    by_cases h : a = x
    · subst h
      by_cases hp : p a = true
      · simp [hp, memRead]
      · simp only [List.filter_cons, hp]; simpa [hp] using ih
    · by_cases hp : p a = true
      · simp only [List.filter_cons, hp, if_true, memRead, h, if_false]; exact ih
      · simp only [List.filter_cons, hp, memRead, h, if_false]; exact ih

theorem memRead_absent (m : List Host.Cell) (x : Nat) (h : x ∉ m.map Prod.fst) : memRead m x = 0#8 := by
  induction m with
  | nil => rfl
  | cons c t ih =>
    obtain ⟨a, b⟩ := c
    simp only [List.map_cons, List.mem_cons, not_or] at h
    simp only [memRead]
    rw [if_neg (fun e => h.1 e.symm)]
    exact ih h.2

theorem memRead_cellsFrom (bs : List Byte) : ∀ base x, memRead (cellsFrom base bs) x =
    if base ≤ x ∧ x < base + bs.length then bs.getD (x - base) 0#8 else 0#8 := by
  induction bs with
  | nil => intro base x; simp [cellsFrom, memRead]
  | cons b t ih =>
    intro base x
    have hx : ∀ (l : List Host.Cell), (∀ c ∈ l, base + 1 ≤ c.1) → memRead l base = 0#8 := by
      intro l hl
      apply memRead_absent
      intro hm
      obtain ⟨c, hc, he⟩ := List.mem_map.mp hm
      have := hl c hc
      omega
    by_cases h0 : x = base
    · subst h0
      simp only [cellsFrom]
      split
      · next hb =>
        rw [hx _ (fun c hc => (cellsFrom_mem t _ c hc).1)]
        simp [hb]
      · simp [memRead]
    · have hstep : memRead (cellsFrom base (b :: t)) x = memRead (cellsFrom (base + 1) t) x := by
        simp only [cellsFrom]
        split
        · rfl
        · simp only [memRead]; rw [if_neg (fun e => h0 e.symm)]
      rw [hstep, ih]
      simp only [List.length_cons]
      by_cases h1 : base ≤ x ∧ x < base + (t.length + 1)
      · have h2 : base + 1 ≤ x ∧ x < base + 1 + t.length := by omega
        rw [if_pos h1, if_pos h2]
        obtain ⟨k, hk⟩ : ∃ k, x - base = k + 1 := ⟨x - base - 1, by omega⟩
        have hk' : x - (base + 1) = k := by omega
        rw [hk, hk']
        simp
      · have h2 : ¬(base + 1 ≤ x ∧ x < base + 1 + t.length) := by omega
        rw [if_neg h1, if_neg h2]

/-- A read after a write: the byte written inside the bytes written, the byte before everywhere else. -/
theorem memRead_memWrite (m : List Host.Cell) (base : Nat) (bs : List Byte) (x : Nat) :
    memRead (memWrite m base bs) x =
      if base ≤ x ∧ x < base + bs.length then bs.getD (x - base) 0#8 else memRead m x := by
  unfold memWrite
  have hmem : ∀ (p : Nat → Bool), x ∈ (m.filter (fun c => p c.1)).map Prod.fst → p x = true := by
    intro p hm
    obtain ⟨c, hc, he⟩ := List.mem_map.mp hm
    have := (List.mem_filter.mp hc).2
    rw [← he]; exact this
  rw [memRead_append, memRead_append]
  rw [memRead_filter (fun a => decide (a < base)), memRead_filter (fun a => decide (base + bs.length ≤ a)),
    memRead_cellsFrom]
  by_cases h1 : x < base
  · have h2 : ¬(base ≤ x ∧ x < base + bs.length) := by omega
    rw [if_neg h2]
    by_cases h3 : x ∈ (m.filter (fun c => decide (c.1 < base)) ++ cellsFrom base bs).map Prod.fst
    · rw [if_pos h3]
      by_cases h4 : x ∈ (m.filter (fun c => decide (c.1 < base))).map Prod.fst
      · rw [if_pos h4]; simp [h1]
      · exfalso
        rw [List.map_append, List.mem_append] at h3
        rcases h3 with h3 | h3
        · exact h4 h3
        · obtain ⟨c, hc, he⟩ := List.mem_map.mp h3
          have := cellsFrom_mem bs base c hc
          omega
    · rw [if_neg h3]
      have h5 : memRead m x = memRead (m.filter (fun c => decide (c.1 < base))) x := by
        rw [memRead_filter (fun a => decide (a < base))]; simp [h1]
      rw [h5, memRead_absent (m.filter (fun c => decide (c.1 < base))) x
        (fun hm => h3 (by rw [List.map_append, List.mem_append]; exact Or.inl hm))]
      have : ¬ base + bs.length ≤ x := by omega
      simp [this, h2]
  · have h4 : x ∉ (m.filter (fun c => decide (c.1 < base))).map Prod.fst := by
      intro hm
      have := hmem (fun a => decide (a < base)) hm
      simp at this; omega
    by_cases h2 : base ≤ x ∧ x < base + bs.length
    · rw [if_pos h2]
      by_cases h3 : x ∈ (m.filter (fun c => decide (c.1 < base)) ++ cellsFrom base bs).map Prod.fst
      · rw [if_pos h3, if_neg h4, if_pos h2]
      · rw [if_neg h3]
        have h5 : memRead (cellsFrom base bs) x = 0#8 :=
          memRead_absent _ _ (fun hm => h3 (by rw [List.map_append, List.mem_append]; exact Or.inr hm))
        rw [memRead_cellsFrom, if_pos h2] at h5
        have : ¬ base + bs.length ≤ x := by omega
        rw [if_pos h2, h5]; simp [this]
    · rw [if_neg h2]
      have h3 : x ∉ (m.filter (fun c => decide (c.1 < base)) ++ cellsFrom base bs).map Prod.fst := by
        rw [List.map_append, List.mem_append]
        rintro (h | h)
        · exact h4 h
        · obtain ⟨c, hc, he⟩ := List.mem_map.mp h
          have := cellsFrom_mem bs base c hc
          omega
      rw [if_neg h3]
      have : base + bs.length ≤ x := by omega
      simp [this]

/-- One composer access keeps the canonical form of page memory. -/
theorem DrawOp.apply_wf (img : ImgUnit) (i : Fin 24) (a t : Bool) (m : List Host.Cell) (op : DrawOp)
    (h : memWf m = true) : memWf (op.apply img i a t m) = true := by
  cases op with
  | clear page => exact memWrite_wf _ _ _ h
  | window page x0 y0 x1 y1 g c =>
    simp only [DrawOp.apply]
    generalize windowRows t y0 y1 = rows
    induction rows generalizing m with
    | nil => exact h
    | cons y rest ih => exact ih _ (memWrite_wf _ _ _ h)

/-! ### Rows -/

theorem Rows.wfFrom_iff (m : Rows) : ∀ lo, Rows.wfFrom lo m = true ↔
    m.Pairwise (fun a b => a.1 < b.1) ∧ (∀ c ∈ m, lo ≤ c.1 ∧ c.2 ≠ .erased) := by
  induction m with
  | nil => intro lo; simp [Rows.wfFrom]
  | cons c t ih =>
    intro lo
    obtain ⟨a, b⟩ := c
    simp only [Rows.wfFrom, Bool.and_eq_true, decide_eq_true_eq, ih, List.pairwise_cons, List.mem_cons, forall_eq_or_imp]
    constructor
    · rintro ⟨⟨h1, h2⟩, h3, h4⟩
      exact ⟨⟨fun c hc => (h4 c hc).1, h3⟩, ⟨h1, h2⟩, fun c hc => ⟨le_trans h1 (le_trans (Nat.le_succ a) (h4 c hc).1),
        (h4 c hc).2⟩⟩
    · rintro ⟨⟨h1, h2⟩, ⟨h3, h4⟩, h5⟩
      exact ⟨⟨h3, h4⟩, h2, fun c hc => ⟨h1 c hc, (h5 c hc).2⟩⟩

theorem Rows.set_mem (m : Rows) (r : Nat) (x : Row) : ∀ c ∈ Rows.set m r x, c = (r, x) ∧ x ≠ .erased ∨ c ∈ m := by
  induction m with
  | nil =>
    intro c hc
    simp only [Rows.set] at hc
    split at hc
    · simp at hc
    · next h => left; exact ⟨by simpa using hc, h⟩
  | cons d t ih =>
    intro c hc
    obtain ⟨q, y⟩ := d
    simp only [Rows.set] at hc
    split at hc
    · split at hc
      · right; exact hc
      · next h =>
        rcases List.mem_cons.mp hc with rfl | hc
        · left; exact ⟨rfl, h⟩
        · right; exact hc
    · split at hc
      · split at hc
        · right; exact List.mem_cons_of_mem _ hc
        · next h =>
          rcases List.mem_cons.mp hc with rfl | hc
          · left; exact ⟨rfl, h⟩
          · right; exact List.mem_cons_of_mem _ hc
      · rcases List.mem_cons.mp hc with rfl | hc
        · right; simp
        · rcases ih c hc with h | h
          · left; exact h
          · right; exact List.mem_cons_of_mem _ h

/-- A row write keeps the canonical form of the stored image. -/
theorem Rows.set_wf (m : Rows) (r : Nat) (x : Row) (h : m.wf = true) : (Rows.set m r x).wf = true := by
  have key : ∀ (m : Rows) (lo : Nat), lo ≤ r → Rows.wfFrom lo m = true → Rows.wfFrom lo (Rows.set m r x) = true := by
    intro m
    induction m with
    | nil =>
      intro lo hlo _
      simp only [Rows.set]
      split
      · rfl
      · next hx => simp [Rows.wfFrom, hlo, hx]
    | cons d t ih =>
      intro lo hlo hw
      obtain ⟨q, y⟩ := d
      simp only [Rows.wfFrom, Bool.and_eq_true, decide_eq_true_eq] at hw
      simp only [Rows.set]
      split
      · next hrq =>
        split
        · simp [Rows.wfFrom, hw]
        · next hx =>
          simp only [Rows.wfFrom, Bool.and_eq_true, decide_eq_true_eq]
          exact ⟨⟨hlo, hx⟩, ⟨by omega, hw.1.2⟩, hw.2⟩
      · split
        · next hrq =>
          split
          · have h3 := hw.2
            rw [Rows.wfFrom_iff] at h3 ⊢
            exact ⟨h3.1, fun c hc => ⟨by have := (h3.2 c hc).1; omega, (h3.2 c hc).2⟩⟩
          · next hx =>
            simp only [Rows.wfFrom, Bool.and_eq_true, decide_eq_true_eq]
            exact ⟨⟨hlo, hx⟩, by rw [hrq]; exact hw.2⟩
        · simp only [Rows.wfFrom, Bool.and_eq_true, decide_eq_true_eq]
          exact ⟨hw.1, ih _ (by omega) hw.2⟩
  exact key m 0 (Nat.zero_le r) h

theorem Rows.find_absent (m : Rows) (lo r : Nat) (h : Rows.wfFrom lo m = true) (hr : r < lo) : m.find r = none := by
  induction m generalizing lo with
  | nil => rfl
  | cons d t ih =>
    obtain ⟨q, y⟩ := d
    simp only [Rows.wfFrom, Bool.and_eq_true, decide_eq_true_eq] at h
    simp only [Rows.find]
    rw [if_neg (by omega)]
    exact ih (q + 1) h.2 (by omega)

/-- A row read after a row write, in the canonical form: the row written, every other row as before. -/
theorem Rows.get_set (m : Rows) (r q : Nat) (x : Row) (h : m.wf = true) :
    (Rows.set m r x).get q = if q = r then x else m.get q := by
  have key : ∀ (m : Rows) (lo : Nat), Rows.wfFrom lo m = true →
      ((Rows.set m r x).find q).getD .erased = if q = r then x else (m.find q).getD .erased := by
    intro m
    induction m with
    | nil =>
      intro lo _
      by_cases hx : x = .erased
      · simp [Rows.set, Rows.find, hx]
      · by_cases hq : q = r
        · simp [Rows.set, Rows.find, hx, hq]
        · have : ¬ r = q := fun e => hq e.symm
          simp [Rows.set, Rows.find, hx, hq, this]
    | cons d t ih =>
      intro lo hw
      obtain ⟨a, y⟩ := d
      have hw' := hw
      simp only [Rows.wfFrom, Bool.and_eq_true, decide_eq_true_eq] at hw
      simp only [Rows.set]
      split
      · next hra =>
        have habs : Rows.find ((a, y) :: t) r = none := by
          refine Rows.find_absent _ a r ?_ hra
          simp [Rows.wfFrom, hw.1.2, hw.2]
        by_cases hx : x = .erased
        · rw [if_pos hx]
          by_cases hq : q = r
          · rw [hq, habs]; simp [hx]
          · simp [hq]
        · rw [if_neg hx]
          by_cases hq : q = r
          · simp [Rows.find, hq]
          · have : ¬ r = q := fun e => hq e.symm
            simp only [Rows.find, this, if_false, hq]
      · split
        · next hra =>
          subst hra
          have habs : Rows.find t r = none := Rows.find_absent t (r + 1) r hw.2 (by omega)
          by_cases hx : x = .erased
          · rw [if_pos hx]
            by_cases hq : q = r
            · rw [hq, habs]; simp [hx]
            · have : ¬ r = q := fun e => hq e.symm
              simp [Rows.find, hq, this]
          · rw [if_neg hx]
            by_cases hq : q = r
            · simp [Rows.find, hq]
            · have : ¬ r = q := fun e => hq e.symm
              simp [Rows.find, hq, this]
        · next hra1 hra2 =>
          by_cases haq : a = q
          · have : ¬ q = r := by omega
            simp [Rows.find, haq, this]
          · simp only [Rows.find, haq, if_false]
            exact ih (a + 1) hw.2
  exact key m 0 h

/-- An erased row does not pass its check (notes/assumptions/2.md). -/
theorem Row.erased_fails : Row.passes .erased = false := by decide +kernel

/-- Page memory, the stored image and the loaded image of the reset state are in canonical form. -/
theorem reset_canonical : memWf State.reset.scp.memory = true ∧ State.reset.img.rows.wf = true ∧
    State.reset.img.loaded.wf = true := by decide

end Sys2Proof.Machine
end

