-- ==== Sys2Proof/WellFormed.lean ====
section
/-! DEFINITION. The commands that can reach the device. Most bounds are in the operand types; what is left is the
longest request body a frame can carry (R167: LEN 2..240, of which two bytes are CODE and TAG), the loop voltages
(fractions of the loop source, R93) and a reply that is invalid for its status carrying at least one bad character. -/

namespace Sys2Proof

/-- A character carries an error status (R147). -/
def CharStatus.bad (c : CharStatus) : Bool := c.parity || c.framing || c.overrun

/-- The longest argument list that a frame of LEN 240 can carry (R167). -/
def maxArgs : Nat := 238

/-- The command can reach the device: its operands are ones that the line, the sensor or the pin can deliver. -/
def WellFormed : Instr → Bool
  | .orderPost _ _ args | .orderLift _ _ args | .orderRead _ _ args | .orderList _ _ args
  | .aspectRead _ _ args | .stationRead _ _ args | .channelRead _ _ args | .trimSet _ _ args
  | .pathRead _ _ args | .pathHold _ _ args | .pathEndHold _ _ args | .pathClear _ _ args
  | .gateRead _ _ args | .gateInhibit _ _ args | .gateReset _ _ args | .signRead _ _ args
  | .signPageRead _ _ args | .timeSet _ _ args | .timeRead _ _ args | .imageRead _ _ args
  | .imageWrite _ _ args | .restart _ _ args | .portStatus _ _ args => decide (args.length ≤ maxArgs)
  | .loopSample v => v.toList.all (fun x => decide (x ≤ 1000))
  | .invalidReply _ (.status cs) => cs.any CharStatus.bad
  | .invalidReply _ .badCheck | .invalidReply _ .foreign | .invalidReply _ .badLength | .invalidReply _ .gap => true
  | .frameDiscard _ _ | .strayByte _ _ | .xoff _ | .xon _ | .portBreak _ | .replyPlace _ | .noticeSend _
  | .portFrameSent _ | .clockTick | .passBegin | .passCompletion | .scanTimerExpiry | .comparatorTrip _
  | .countOverflow | .improvementTimerExpiry _ | .anemometerEdge _ _ _ | .anemometerCalm _ | .windSample
  | .acceptedZone _ _ | .confirmTimerExpiry _ | .openLimitAccepted _ _ | .closedLimitAccepted _ _
  | .obstructionAccepted _ _ | .signWaitExpiry _ | .countdownEnd _ | .travelTimerExpiry _ | .retryDelayExpiry _
  | .deadTimeEnd _ | .dutyPeriodEnd _ | .lanternFrameBoundary | .composerTake | .compositionEnd
  | .pageMemoryAccessEnd | .pollTimerExpiry _ | .pageTransfer _ | .lampTransfer _ | .brightnessJob _ | .poll _
  | .pageBlock _ | .fieldFrameSent _ | .confirm _ _ | .status _ _ | .replyLimitExpiry _ | .strayCharacter _ _
  | .rowWriteComplete | .powerUp _ | .resetPin | .mainPowerLoss | .rxFifoOverrun _ | .breakEnd _ => true

end Sys2Proof
end

