-- ==== Sys2Proof/Tests/Slice0.lean ====
section
/-! SUPPORT. Checks on small states: ill-formed commands, worked values of the chapters, and for every statement with
hypotheses a state and operands that meet them, clause by clause. -/

namespace Sys2Proof.Machine.Tests

open Sys2Proof Sys2Proof.Machine

set_option Elab.async false

/-! ### Ill-formed commands -/

/-- R167: no frame carries 239 argument bytes. -/
theorem test_illFormed_longRequest : WellFormed (.orderPost .centre 0#8 (List.replicate 239 0#8)) = false := by
  decide +kernel

/-- R93: a loop input does not exceed its source. -/
theorem test_illFormed_loopVoltage : WellFormed (.loopSample (Vector.replicate 12 1001)) = false := by decide +kernel

/-- R147: a reply is invalid for its status only with a bad character. -/
theorem test_illFormed_goodStatus :
    WellFormed (.invalidReply 0 (.status [⟨false, false, false⟩])) = false := by decide +kernel

theorem test_wellFormed_limits : WellFormed (.orderPost .centre 0#8 (List.replicate 238 0#8)) = true ∧
    WellFormed (.loopSample (Vector.replicate 12 1000)) = true ∧
    WellFormed (.invalidReply 0 (.status [⟨true, false, false⟩])) = true := by decide +kernel

/-- No row of the table has bits. -/
theorem test_noWordSpellsACommand : decodeTableWord 16 0 = none := by decide

/-! ### The states -/

/-- A row by its first bytes. -/
def row (l : List Nat) : Row := ⟨((l ++ List.replicate 32 0).take 32).map byteOf, 0#16⟩

/-- A corridor of two segments with a MATRIX sign 0 (line 0), a LAMP sign 1 (line 1), a gate 0 on segment 0 with sign 0 as
its approach, a path 0 on segment 0 with gate 0 as its barrier and loop 3, and a station 0 of segment 0 with wind input 1;
notice 1 is held. -/
def rows : Rows :=
  [(0, row [2, 2, 1, 1, 1, 10]), (1, row [1, 0, 80]), (2, row [0, 255, 255]),
    (17, row [0, 5, 0, 0, 0, 1, 0, 14, 4]), (18, row [1, 7, 1, 1, 0, 1, 0, 15, 4, 0, 1, 2, 3, 4, 5, 6, 7]),
    (41, row [0, 0, 0, 255, 255, 0, 60, 0, 20, 0, 30, 30, 2, 20, 40, 4, 4, 6, 8, 2]),
    (49, row [0, 0, 3, 2, 0, 2, 88, 0, 255, 255, 255]),
    (61, row [1, 0, 0, 20, 5, 2, 10, 0, 0, 40, 60, 0, 0, 39, 16, 0, 100, 0, 200, 0, 20, 1]),
    (86, row [72, 73])]

/-- The device on that corridor, under a valid map, with its clock set and default policies. -/
def dev : State :=
  { State.reset with
    map := ⟨true, none, 0⟩
    img := { State.reset.img with loaded := rows, failed := [82, 83, 84, 85], timeUnset := false } }

/-- Path 0, gate 0, sign 0 and line 0 of that corridor, with a change. -/
def devPath (f : Path → Path) : State := dev.setPath 0 (f dev.avp[0])
def devGate (f : Gate → Gate) : State := dev.setGate 0 (f dev.gtc[0])
def devSign (f : Sign → Sign) : State := dev.setSign 0 (f dev.signs[0])
def devLine (l : Fin 2) (f : Line → Line) : State := dev.setLine l (f dev.flc[l])
def devPort (f : PortUnit → PortUnit) : State := dev.setPort .site (f (dev.port .site))
def devImg (f : ImgUnit → ImgUnit) : State := { dev with img := f dev.img }

/-- An ACTIVE closure by the centre port over segment 0, both directions. -/
def closure : Order :=
  ⟨7, .ctr, .close .snow, 0, 0, .both, false, none, none, 0, none, none, .active, 1⟩

def devOrder (o : Order) : State := { dev with ord := ⟨[o], 7, 1⟩ }

def gate0 : GateRec := parseGate (row [0, 0, 0, 255, 255, 0, 60, 0, 20, 0, 30, 30, 2, 20, 40, 4, 4, 6, 8, 2]).data
def path0 : PathRec := parsePath (row [0, 0, 3, 2, 0, 2, 88, 0, 255, 255, 255]).data
def sign0 : SignRec := parseSign (row [0, 5, 0, 0, 0, 1, 0, 14, 4]).data

theorem dev_records : dev.gate? 0 = some gate0 ∧ dev.path? 0 = some path0 ∧ dev.sign? 0 = some sign0 := by
  decide +kernel

/-! ### Worked values of the chapters -/

/-- R146: the check value of the CRC with these parameters over the digits 1 to 9. -/
theorem test_crc16_digits : crc16 ([49, 50, 51, 52, 53, 54, 55, 56, 57].map byteOf) = 0x29B1#16 := by decide +kernel

/-- 00_scope 5.2: halves away from zero. -/
theorem test_roundDiv_halves : roundDiv (-316416) 2048 = -155 ∧ roundDiv (-800) 64 = -13 ∧ roundDiv (-562) 4 = -141 ∧
    roundDiv 293 2 = 147 := by decide +kernel

/-- Chapter 2, R23: a speed of 135 is posted as 120, of 47 as 40, of 15 as 20. -/
theorem test_adjust_speed : (Content.speed 135).adjust = .speed 120 ∧ (Content.speed 47).adjust = .speed 40 ∧
    (Content.speed 15).adjust = .speed 20 := by decide

/-- R19: 65535 is followed by 1. -/
theorem test_nextCount_wraps : nextCount 65535 = 1 ∧ nextCount 0 = 1 := by decide

/-- Chapter 3, propagation: CLOSE AVALANCHE on 4..5 with turn points 0, 3 and 7 closes back to neither 3 nor beyond in S. -/
theorem test_propagation_stopsAtTurnPoint :
    ((PassCopy.closures ⟨[⟨30, .close .avalanche, 4, 5, .both, false, none, .active, 1⟩],
      [true, false, false, true, false, false, false, true].map (fun t => ⟨t, none, none⟩), []⟩ .S).map Closure.closed) =
      [.no, .no, .no, .no, .byOrder, .byOrder, .no, .no] := by decide +kernel

/-- The same in N: segment 6 has no turn point and lies ahead of nothing but 5, so (6, N) is closed by propagation. -/
theorem test_propagation_carriesNorth :
    ((PassCopy.closures ⟨[⟨30, .close .avalanche, 4, 5, .both, false, none, .active, 1⟩],
      [true, false, false, true, false, false, false, true].map (fun t => ⟨t, none, none⟩), []⟩ .N).map Closure.closed) =
      [.no, .no, .no, .no, .byOrder, .byOrder, .byPropagation, .no] := by decide +kernel

/-- Chapter 4, one surface conversion: result −142, ring −139 to −142, smoothed −141. -/
theorem test_surfaceConversion :
    let x := ({ Chan.atStart with ring := [-139, -140, -141] } : Chan).convert 6 4 40000 74
      ⟨true, ⟨3296, 4090, 0, 20, 12, 0⟩, false⟩ false false 19500
    x.lastN = some 3994 ∧ x.result = some (-142) ∧ x.flags = ⟨false, false, false, false⟩ ∧ meanOf x.ring = some (-141) ∧
      cabinetCode (-80) = 74 := by decide +kernel

/-- Chapter 4, wind ring: 420 gives 143, 385 gives 156, and 77 is clamped to 750. -/
theorem test_windSamples : windSampleOf 60000 (some 420) = ⟨143, false⟩ ∧ windSampleOf 60000 (some 385) = ⟨156, false⟩ ∧
    windSampleOf 60000 (some 77) = ⟨750, true⟩ ∧ windSampleOf 60000 none = ⟨0, false⟩ := by decide +kernel

/-- Chapter 5, a night of frost: NEAR then FREEZE from CLEAR takes NEAR at the second result. -/
theorem test_frost_leastSevere :
    let r := { parseStation [] with tf := -20, band := 30, hyst := 10, wc := 2, hold := 2 }
    let x := ({ Station.atStart with cls := .clear } : Station)
    (x.fresh r 5).cls = .clear ∧ (x.fresh r 5).counter = 1 ∧ ((x.fresh r 5).fresh r (-25)).cls = .near ∧
      ((x.fresh r 5).fresh r (-25)).counter = 0 := by decide +kernel

/-- The same night: −8 starts the timer without clear-through, and −15 stops nothing that runs. -/
theorem test_frost_improvement :
    let r := { parseStation [] with tf := -20, band := 30, hyst := 10, wc := 2, hold := 2 }
    let x := ({ Station.atStart with cls := .freeze } : Station)
    (x.fresh r (-15)).timer = none ∧ (x.fresh r (-8)).timer = some 0 ∧ (x.fresh r (-8)).clearThrough = false ∧
      ((x.fresh r (-8)).improve).cls = .near := by decide +kernel

/-- Chapter 7, duty ramp: start duty 40, 1.5 s. -/
theorem test_dutyRamp :
    [0, 1, 2, 3, 5, 37, 74, 75].map (dutyAfter { parseGate [] with startDuty := 40, ramp := 3 }) =
      [40, 40, 41, 42, 44, 69, 99, 100] := by decide +kernel

/-- Chapter 7: at 100 s an emergency upgrades 80 s of countdown to 30 s. -/
theorem test_gateUpgrade :
    let r := { parseGate [] with prewarn := 120, emergency := 30 }
    let x := ({ Gate.unused with state := .prewarn, demand := some .closed } : Gate).countdown .normal 80
    (x.publish r false .closed true 6).1.remaining = 30 ∧
      (x.publish r false .closed true 6).1.countKind = some .emergency := by decide +kernel

/-- Chapter 7: a second obstruction passes the retry limit 1 at the open limit. -/
theorem test_gateRetriesExhausted :
    let r := { parseGate [] with retryLimit := 1 }
    let x := ({ Gate.unused with state := .blocked, drive := .raise } : Gate)
    (({ x with retries := 1 }).openLimitTo r false true).1.retryTimer = some 0 ∧
      ((({ x with retries := 2 }).openLimitTo r false true).2.map Gate.cause) = [some .retriesExhausted] := by
  decide +kernel

/-- R93: the zone bounds. -/
theorem test_zoneBounds : zoneOf 124 = .short ∧ zoneOf 125 = .trip ∧ zoneOf 374 = .trip ∧ zoneOf 375 = .normal ∧
    zoneOf 874 = .normal ∧ zoneOf 875 = .opened := by decide +kernel

/-- R133: of two texts and a notice, the notice takes the free page. -/
theorem test_placement_counts :
    (placement dev.img [.closure (.roadClosed (some .snow)) none, .announce 945, .avalanche 3, .restrict ⟨true, true, false⟩,
      .speed 70, .ice, .notice 1]).2 = 4 ∧
    pageCount (placement dev.img [.closure (.roadClosed (some .snow)) none, .announce 945, .avalanche 3, .notice 1]).1 =
      2 := by decide +kernel

/-- Chapter 10, a paused partner: two events more than 32 are lost, and a break counts the queue. -/
theorem test_pausedPartner :
    let n : Notice := ⟨.portReset .service, 0, false⟩
    let q := (({ PortUnit.atStart with notices := List.replicate 32 n } : PortUnit).push n).push n
    q.notices.length = 32 ∧ q.lost = 2 ∧ q.reset.lost = 34 ∧ q.reset.notices = [] := by decide +kernel

/-- R170: a row passes exactly with the check of its bytes. -/
theorem test_rowCheck : (Row.of (List.replicate 32 1#8)).passes = true ∧ Row.erased.passes = false := by decide +kernel

/-- Page memory: a write is read back, a zero byte is not listed, and a neighbour is untouched. -/
theorem test_pageMemory :
    memRead (memWrite [] 5 [7#8, 0#8]) 5 = 7#8 ∧ memWrite (memWrite [] 5 [7#8]) 5 [0#8] = [] ∧
      memRead (memWrite [(6, 9#8)] 5 [7#8]) 6 = 9#8 := by decide +kernel

/-! ### States and operands that meet the hypotheses of the statements

Each `hyp_<Statement>` names a state and operands for every clause of `Obligations.<Statement>`. -/

/-- An idle port of the corridor's device takes a request with arguments of the right length. -/
theorem dev_takes (r : Request) (p : Port) (args : List Byte) (s : State) (hp : s.powered = true)
    (hq : s.port p = PortUnit.afterReset) (hi : s.img.permits p r.code = true) (ha : args.length = r.argBytes) :
    s.takes p r args := by
  refine ⟨⟨hp, ?_, ?_, ?_, ?_, ?_⟩, hi, ha⟩ <;> rw [hq] <;> rfl

theorem hyp_StepRunsFrontCommand : ({ dev with pending := [.xon .site] } : State).pending = .xon .site :: dev.pending := rfl

theorem hyp_EmptyQueueIsOneSecond :
    dev.pending = [] ∧ dev.powered = true ∧ ({ dev with powered := false } : State).powered = false ∧
      (dev.station? (0 : Fin 6).val).isSome = true ∧ dev.station? (5 : Fin 6).val = none ∧
      (dev.path? (0 : Fin 12).val = some path0 ∧ dev.path? (11 : Fin 12).val = none ∧
        ((devPath fun x => { x with timer := some 599 }).avp[0]).timer = some 599) ∧
      (dev.map.valid = true ∧ dev.gate? (0 : Fin 8).val = some gate0 ∧ dev.gate? (7 : Fin 8).val = none ∧
        ((devGate fun x => { x with state := .prewarn, phase := some .countdown, remaining := 1 }).gtc[0]).phase =
          some .countdown) ∧
      dev.linedSign? (0 : Fin 24).val = some sign0 ∧ dev.linedSign? (23 : Fin 24).val = none := by decide +kernel

theorem hyp_UnpoweredDeviceStands :
    ({ dev with powered := false } : State).powered = false ∧ dev.img.clock < 4294967295 := by decide +kernel

theorem hyp_ColdStartIsResetAndLawful : State.reset.img.rows = [] ∧ State.reset.img.writing = none := by decide +kernel

/-- A step of the corridor's device with an order in the table. -/
theorem hyp_FormsAndQueuesKept :
    ((devOrder closure).canonical ∧ (devOrder closure).queuesOk) ∧
      ∃ t, step (devOrder closure) = .next t := by
  refine ⟨?_, _, rfl⟩
  simp only [State.canonical, State.queuesOk]
  decide +kernel

theorem hyp_PortsKept : (devOrder closure).portsOk ∧ ∃ t, step (devOrder closure) = .next t := by
  refine ⟨fun p => ?_, _, rfl⟩
  simp only [State.portOk]
  cases p <;> decide +kernel

theorem hyp_OrderTableKept : (devOrder closure).ordersOk ∧ ∃ t, step (devOrder closure) = .next t := by
  refine ⟨⟨?_, ?_, ?_, ?_⟩, _, rfl⟩
  · exact List.pairwise_singleton ..
  · exact List.pairwise_singleton ..
  · intro o ho
    obtain rfl : o = closure := by simpa [devOrder] using ho
    exact ⟨by decide, by decide, by intro h; exact absurd h (by decide), by intro h; exact absurd h (by decide)⟩
  · decide +kernel

theorem hyp_QuietWithoutMapKept :
    State.reset.quietWithoutMap ∧ State.reset.map.valid = false ∧ ∃ t, step State.reset = .next t := by
  refine ⟨fun _ => ⟨rfl, rfl, rfl, rfl, rfl, ?_, ?_, ?_, ?_⟩, rfl, _, rfl⟩
  · decide +kernel
  · intro l
    refine ⟨by revert l; decide +kernel, fun t h => ?_⟩
    have : ∀ l : Fin 2, (State.reset.flc[l]).trans = none := by decide +kernel
    rw [this l] at h
    exact absurd h (by simp)
  · decide +kernel
  · decide +kernel

theorem hyp_DrivesAndPathsKept : dev.drivesOk ∧ dev.pathsOk ∧ ∃ t, step dev = .next t := by
  refine ⟨fun _ _ g => ?_, fun k => ?_, _, rfl⟩
  · have : dev.gtc[g] = Gate.unused := by revert g; decide +kernel
    rw [this]
    exact ⟨.inl rfl, rfl⟩
  · have : dev.avp[k] = Path.atStart := by revert k; decide +kernel
    rw [this]
    exact ⟨rfl, rfl, rfl⟩

/-! #### Ports -/

theorem hyp_DecoderPassesEveryFrame : PortUnit.atStart.clearFor [1#8, 2#8] = true ∧
    PortUnit.atStart.clearFor (List.replicate 240 0#8) = true := by decide +kernel

theorem hyp_DecoderDiscardsBadCheck : PortUnit.atStart.clearFor [1#8, 2#8] = true ∧
    [0#8, 0#8] ≠ put16 (crc16 (lenBody [1#8, 2#8])).toNat := by decide +kernel

theorem hyp_RequestTestsInOrder : dev.listening .centre ∧ dev.img.permits .centre Request.restart.code = false ∧
    dev.img.permits .centre Request.orderRead.code = true ∧ ([] : List Byte).length ≠ Request.orderRead.argBytes ∧
    Request.ofCode (0x18#8 : Byte).toNat = none ∧ Request.ofCode (0#8 : Byte).toNat = none ∧
    (∀ v ∈ [ServicePhase.serving, .replyWait], ∀ passed ∈ [[], [List.replicate 8 0#8]],
      let s := devPort fun q => { q with service := v, passed := passed }
      s.powered = true ∧ (s.port .site).service = v ∧ (s.port .site).rx = .hunt ∧ (s.port .site).overrunNext = false ∧
        (s.port .site).spacing = false ∧ (s.port .site).rxFill + (List.replicate 238 (0#8 : Byte)).length + 6 ≤ 256) := by
  simp only [State.listening]
  decide +kernel

theorem hyp_AnswersAndEvents : (dev.port .centre).notices.length < 32 ∧
    ((devPort fun q => { q with notices := List.replicate 32 ⟨.portReset .site, 0, false⟩ }).port .site).notices.length =
      32 := by decide +kernel

theorem hyp_BytesBetweenFrames :
    (∀ v ∈ [ServicePhase.ready, .serving, .replyWait], ∀ passed ∈ [[], [List.replicate 240 0#8]],
      let s := devPort fun q => { q with service := v, passed := passed }
      (v ≠ .ready ∨ passed = []) → s.powered = true ∧ (s.port .site).rx = .hunt ∧ (s.port .site).overrunNext = false ∧
        (s.port .site).spacing = false ∧ (s.port .site).rxFill < 256) ∧
    ((0#8 : Byte) ≠ masterLead ∧ (0#8 : Byte) ≠ xoffByte ∧ (0#8 : Byte) ≠ xonByte) ∧
    (let s := devPort fun q => { q with rx := .inFrame [2#8, 0#8, 0#8] }
     s.powered = true ∧ (s.port .site).spacing = false ∧ (s.port .site).overrunNext = false ∧
      (s.port .site).passed = [] ∧ (s.port .site).rx = .inFrame (2#8 :: [0#8, 0#8]) ∧ 2 ≤ (2#8 : Byte).toNat ∧
      (2#8 : Byte).toNat ≤ 240 ∧ [0#8, 0#8].length + 1 < (2#8 : Byte).toNat + 2) := by
  decide +kernel

theorem hyp_DiscardCountsItsCause : dev.powered = true ∧ (dev.port .site).spacing = false ∧ (dev.port .site).passed = [] ∧
    (dev.port .site).overrunNext = false := by decide +kernel

theorem hyp_BreakResetsThePort : dev.powered = true ∧ (dev.port .site).spacing = false ∧
    ((devPort fun q => { q with spacing := true }).port .site).spacing = true ∧ dev.img.replyTo ≠ some .site ∧
    (let s := devImg fun m => { m with replyTo := some .site }
     s.img.replyTo = some .site ∧ (s.port .site).spacing = false) := by decide +kernel

theorem hyp_FramesLeaveThePort :
    (let q := (devPort fun q => { q with service := .replyWait, reply := some [1#8, 2#8, 3#8] }).port .site
     q.service = .replyWait ∧ q.reply = some [1#8, 2#8, 3#8] ∧ q.txFill + (masterFrame [1#8, 2#8, 3#8]).length ≤ 256 ∧
      q.passed = []) ∧
    (let q := (devPort fun q => { q with service := .replyWait, reply := some [1#8, 2#8, 3#8], passed := [[4#8, 5#8]] }).port
      .site
     q.passed = [4#8, 5#8] :: []) ∧
    (let q := (devPort fun q => { q with service := .replyWait, reply := some [1#8, 2#8, 3#8]
                                         tx := [List.replicate 250 0#8] }).port .site
     256 < q.txFill + (masterFrame [1#8, 2#8, 3#8]).length ∧ q.tx ≠ []) ∧
    dev.img.replyTo ≠ some .site ∧ (devImg fun m => { m with replyTo := some .site }).img.replyTo = some .site ∧
    (dev.port .site).service ≠ .replyWait ∧
    (dev.port .site).tx = [] ∧ (dev.port .site).xoff = false ∧ (dev.port .site).notices ≠ [] ∧
    (dev.port .site).spacing = false := by decide +kernel

theorem hyp_PortStatusReplies : dev.takes .site .portStatus [] :=
  dev_takes _ _ _ _ rfl rfl (by decide +kernel) rfl

/-! #### Orders -/

/-- CLOSE SNOW on segment 0, both directions, at once; without end. -/
def postArgs : List Byte := [0, 0, 0, 2, 1, 0, 0, 0, 0, 0, 0, 0, 0, 0, 0].map byteOf

theorem dev_posts (s : State) (hp : s.powered = true) (hq : s.port .centre = PortUnit.afterReset)
    (hi : s.img = dev.img) : s.takes .centre .orderPost postArgs :=
  dev_takes _ _ _ _ hp hq (by rw [hi]; decide +kernel) rfl

/-- The common hypotheses of a post that passes the first six tests. -/
theorem post_passes : dev.map.valid = true ∧ (parsePost postArgs).first ≤ (parsePost postArgs).last ∧
    (parsePost postArgs).last < dev.img.nseg ∧ contentOf (parsePost postArgs).kind (parsePost postArgs).value =
      some (.close .snow) ∧ dirsOf (parsePost postArgs).dirs = some .both ∧ (parsePost postArgs).duration = none ∧
    (parsePost postArgs).start = none ∧ dev.img.timeUnset = false ∧
    (draftOrder .centre (.close .snow) .both (parsePost postArgs) dev.img.clock).ended dev.img.clock = false := by
  decide +kernel

theorem hyp_PostAdmitsAnOrder : dev.takes .centre .orderPost postArgs ∧
    dev.ord.renewal (draftOrder .centre (.close .snow) .both (parsePost postArgs) dev.img.clock) = none ∧
    dev.ord.held Port.centre.issuer < Port.centre.issuer.quota ∧ dev.ord.portPool < 34 :=
  ⟨dev_posts dev rfl rfl rfl, by decide +kernel⟩

theorem hyp_PostRenewsItsEntry : (devOrder closure).takes .centre .orderPost postArgs ∧
    (devOrder closure).ord.renewal (draftOrder .centre (.close .snow) .both (parsePost postArgs) dev.img.clock) =
      some closure := ⟨dev_posts _ rfl rfl rfl, by decide +kernel⟩

/-- 20 centre orders, and 34 orders of the ports of which 14 are the centre's. -/
def manyOrders (ctr avs site : Nat) : OrdUnit :=
  ⟨(List.range ctr).map (fun n => { closure with number := n + 1 }) ++
    (List.range avs).map (fun n => { closure with number := n + 21, issuer := .avs }) ++
    (List.range site).map (fun n => { closure with number := n + 41, issuer := .site }), 60, 60⟩

/-- A post on segment 1 alone, with duration 0, or with an end that has passed; a notice that is not held. -/
theorem hyp_PostRefusedInOrder :
    State.reset.takes .centre .orderPost postArgs ∧ State.reset.map.valid = false ∧
    ¬((parsePost ([0, 1, 0, 2].map byteOf)).first ≤ (parsePost ([0, 1, 0, 2].map byteOf)).last) ∧
    ¬((parsePost ([0, 0, 2, 2].map byteOf)).last < dev.img.nseg) ∧
    contentOf 0 6 = none ∧ contentOf 5 0 = none ∧ dirsOf 3 = none ∧
    (parsePost ([0, 0, 0, 2, 1, 0, 2].map byteOf)).duration = some 0 ∧
    (contentOf 4 2 = some (.notice 2) ∧ dev.img.noticeText 2 = none) ∧
    ((dev.img.noticeText 1).isSome = true) ∧
    ((parsePost ([0, 0, 0, 2, 1, 0, 1].map byteOf)).start.isSome = true ∧ State.reset.img.timeUnset = true) ∧
    (let x := parsePost ([0, 0, 0, 2, 1, 0, 3, 0, 0, 0, 1, 0, 1].map byteOf)
     (draftOrder .centre (.close .snow) .both x 61).ended 61 = true ∧
      (draftOrder .centre (.close .snow) .both x 60).ended 60 = false) ∧
    ((manyOrders 20 0 0).renewal (draftOrder .centre (.close .wind) .S (parsePost postArgs) 0) = none ∧
      Port.centre.issuer.quota ≤ (manyOrders 20 0 0).held Port.centre.issuer) ∧
    ((manyOrders 14 20 0).held Port.centre.issuer < Port.centre.issuer.quota ∧ 34 ≤ (manyOrders 14 20 0).portPool) := by
  refine ⟨dev_takes _ _ _ _ rfl rfl (by decide +kernel) rfl, ?_⟩
  decide +kernel

theorem hyp_FreshNumberIsFree : (manyOrders 20 20 10).table.length ≤ 64 ∧ (65535 : Nat) ≤ 65535 := by decide +kernel

def liftArgs : List Byte := [0#8, 7#8]

theorem dev_lifts (p : Port) (s : State) (hp : s.powered = true) (hq : s.port p = PortUnit.afterReset)
    (hi : s.img = dev.img) : s.takes p .orderLift liftArgs :=
  dev_takes _ _ _ _ hp hq (by rw [hi]; cases p <;> decide +kernel) rfl

def wxSpeed : Order := { closure with issuer := .wx, content := .speed 50, station := some 0 }

theorem hyp_LiftRetiresAPlainOrder :
    ((devOrder closure).takes .centre .orderLift liftArgs ∧ (devOrder closure).ord.find (get16 liftArgs 0) = some closure ∧
      (devOrder closure).img.mayLift .centre closure.issuer = true ∧ closure.path = none ∧ closure.issuer ≠ .wx) ∧
    ((devOrder wxSpeed).takes .centre .orderLift liftArgs ∧ (devOrder wxSpeed).ord.find (get16 liftArgs 0) = some wxSpeed ∧
      (devOrder wxSpeed).img.mayLift .centre wxSpeed.issuer = true ∧ wxSpeed.path = none ∧ wxSpeed.issuer = .wx ∧
      wxSpeed.station = some (0 : Fin 6).val) := by
  refine ⟨⟨dev_lifts _ _ rfl rfl rfl, ?_⟩, dev_lifts _ _ rfl rfl rfl, ?_⟩ <;> decide +kernel

def tripOrder : Order := { closure with issuer := .trip, content := .close .avalanche, path := some 0 }
def holdOrder : Order := { tripOrder with issuer := .avs }

/-- The device with an order linked to path 0 and the path as `f` sets it. -/
def devLinked (o : Order) (f : Path → Path) : State := { devPath f with ord := ⟨[o], 7, 1⟩ }

theorem hyp_LiftOfALinkedOrder :
    (dev.takes .service .orderLift liftArgs ∧ dev.ord.find (get16 liftArgs 0) = none) ∧
    ((devOrder tripOrder).ord.find (get16 liftArgs 0) = some tripOrder ∧
      (devOrder tripOrder).img.mayLift .centre tripOrder.issuer = false ∧
      (devOrder tripOrder).img.mayLift .service tripOrder.issuer = true ∧ tripOrder.path = some (0 : Fin 12).val ∧
      tripOrder.number = 7) ∧ ({ devOrder tripOrder with map := State.reset.map } : State).map.valid = false ∧
    (let s := devLinked tripOrder fun x => { x with state := .latched, tripOrder := some 7 }
     s.avp[(0 : Fin 12)].tripOrder = some tripOrder.number ∧ s.avp[(0 : Fin 12)].state = .latched) ∧
    (let s := devLinked tripOrder fun x => { x with state := .tripped, tripOrder := some 7 }
     s.avp[(0 : Fin 12)].tripOrder = some tripOrder.number ∧ s.avp[(0 : Fin 12)].state ≠ .latched) ∧
    (let s := devLinked holdOrder fun x => { x with state := .hold, holdOrder := some 7, released := true, zone := some .trip }
     s.avp[(0 : Fin 12)].tripOrder = none ∧ s.avp[(0 : Fin 12)].holdOrder = some holdOrder.number ∧
      s.avp[(0 : Fin 12)].state = .hold ∧ s.avp[(0 : Fin 12)].released = true ∧ s.avp[(0 : Fin 12)].zone = some .trip ∧
      s.img.mayLift .service holdOrder.issuer = true) ∧
    (let s := devLinked holdOrder fun x => { x with state := .holdPending, holdOrder := some 7 }
     s.avp[(0 : Fin 12)].tripOrder = none ∧ s.avp[(0 : Fin 12)].holdOrder = some holdOrder.number ∧
      s.avp[(0 : Fin 12)].state = .holdPending ∧ s.avp[(0 : Fin 12)].released = false) ∧
    (let s := devOrder holdOrder
     s.avp[(0 : Fin 12)].tripOrder ≠ some holdOrder.number ∧ s.avp[(0 : Fin 12)].holdOrder ≠ some holdOrder.number) := by
  refine ⟨⟨dev_lifts _ _ rfl rfl rfl, ?_⟩, ?_⟩ <;> decide +kernel

theorem hyp_ClockTickCarriesTheOrders :
    (({ dev with img := { dev.img with clock := 4294967295 } } : State).img.clock = 4294967295 ∧
      (devOrder closure).img.clock < 4294967295 ∧ (devOrder closure).powered = true ∧ (devOrder closure).ascending ∧
      closure ∈ (devOrder closure).ord.table) ∧
    ({ closure with finish := some 9 } : Order).ended 9 = true ∧
    (let o : Order := { closure with state := .scheduled, start := some 9 }
     o.ended 9 = false ∧ o.state ≠ .active ∧ o.started 9 = true) ∧
    (let o : Order := { closure with state := .scheduled, start := some 69, lead := 1 }
     o.ended 9 = false ∧ o.state = .scheduled ∧ o.started 9 = false ∧ o.windowOpen 9 = true ∧ o.windowOpen 8 = false) ∧
    (closure.ended 9 = false ∧ closure.state = .active) := by
  refine ⟨⟨rfl, by decide +kernel, rfl, List.pairwise_singleton .., List.mem_singleton.mpr rfl⟩, ?_⟩
  decide +kernel

theorem hyp_TimeSetJumpsTheClock :
    (devOrder closure).takes .centre .timeSet [0#8, 0#8, 0#8, 9#8] ∧ (devOrder closure).ascending ∧
    (devOrder closure).img.clock < get32 [0#8, 0#8, 0#8, 9#8] 0 ∧ get32 [0#8, 0#8, 0#8, 0#8] 0 = (devOrder closure).img.clock ∧
    get32 [0#8, 0#8, 0#8, 9#8] 0 < ({ dev with img := { dev.img with clock := 10 } } : State).img.clock ∧
    (let o : Order := { closure with state := .announced, start := some 69, lead := 1 }
     o.state = .announced ∧ o.windowOpen 8 = false ∧ o.windowOpen 9 = true) ∧ closure.state ≠ .announced ∧
    dev.takes .centre .timeRead [] := by
  refine ⟨dev_takes _ _ _ _ rfl rfl (by decide +kernel) rfl, List.pairwise_singleton .., ?_, ?_, ?_, ?_, ?_,
    dev_takes _ _ _ _ rfl rfl (by decide +kernel) rfl⟩ <;> decide +kernel

theorem hyp_OrderAndAspectReads :
    (devOrder closure).takes .site .orderRead liftArgs ∧ (devOrder closure).ord.find (get16 liftArgs 0) = some closure ∧
    dev.ord.find (get16 liftArgs 0) = none ∧ dev.takes .site .orderList [0#8, 0#8] ∧
    dev.takes .site .aspectRead [0#8, 1#8] ∧ (get8 [0#8, 1#8] 0 ≤ get8 [0#8, 1#8] 1 ∧ get8 [0#8, 1#8] 1 < dev.img.nseg) ∧
    ¬(get8 [0#8, 2#8] 1 < dev.img.nseg) ∧ get8 [0#8, 15#8] 1 < 16 ∧ State.reset.map.valid = false := by
  refine ⟨dev_takes _ _ _ _ rfl rfl (by decide +kernel) rfl, ?_, ?_, dev_takes _ _ _ _ rfl rfl (by decide +kernel) rfl,
    dev_takes _ _ _ _ rfl rfl (by decide +kernel) rfl, ?_⟩ <;> decide +kernel

/-! #### Aspects -/

def passOf (l : List PassOrder) : PassCopy := ⟨l, [⟨true, some 0, some 80⟩, ⟨false, none, none⟩], [.freeze]⟩

def passClosure : PassOrder := ⟨30, .close .snow, 0, 1, .both, true, none, .active, 5⟩

theorem hyp_ClosureByOrder : passClosure ∈ (passOf [passClosure]).orders ∧ passClosure.counts .active 1 .N ∧
    passClosure.content = .close .snow ∧ ¬∃ o ∈ (passOf []).orders, o.counts .active 1 .N ∧ ∃ r, o.content = .close r := by
  refine ⟨List.mem_singleton.mpr rfl, ⟨rfl, by decide, by decide, trivial⟩, rfl, by simp [passOf]⟩

theorem hyp_ClosureCarriesBack : (passOf [passClosure]).segments.length = 1 + 1 ∧ 0 + 1 < (passOf []).segments.length ∧
    (passOf []).segments[0]? = some ⟨true, some 0, some 80⟩ ∧ (passOf []).segments[0 + 1]? = some ⟨false, none, none⟩ ∧
    ((passOf [passClosure]).closures .S)[0 + 1]? = some ⟨.byOrder, some .snow, true⟩ ∧
    ((passOf []).closures .N)[0]? = some ⟨.no, none, false⟩ ∧ (passOf []).segments[2]? = none ∧
    (3 : Fin 32).val = 2 * (0 + 1) + 1 := by decide +kernel

/-- A record with every kind of entry. -/
def fullPass : PassCopy := passOf
  [⟨1, .avwarn 3, 0, 0, .S, false, none, .active, 1⟩, ⟨2, .restrict ⟨true, true, true⟩, 0, 0, .both, false, none, .active, 2⟩,
    ⟨3, .speed 50, 0, 0, .S, false, none, .active, 3⟩, ⟨4, .notice 1, 0, 0, .S, false, none, .active, 4⟩,
    ⟨5, .close .works, 0, 0, .S, false, some 900, .announced, 0⟩]

theorem hyp_LevelAndRestrictions : (fullPass.record 0 .S).map (fun a => (a.level, a.restr)) =
    some (3, ⟨true, true, true⟩) := by decide +kernel

theorem hyp_SpeedAnnouncementAndCondition : (fullPass.record 0 .S).map (fun a => (a.speed, a.announced, a.condition)) =
    some (some 50, some 900, .freeze) ∧ fullPass.segments[0]? = some ⟨true, some 0, some 80⟩ ∧
    (fullPass.record 1 .S).isSome = true ∧ fullPass.segments[1]? = some ⟨false, none, none⟩ := by decide +kernel

theorem hyp_NoticeOfTheHighestStamp : (fullPass.record 0 .S).map Aspect.notice = some (some (1, 4)) ∧
    (fullPass.record 1 .S).map Aspect.notice = some none := by decide +kernel

theorem hyp_PassBeginsWhenDirty :
    (dev.powered = true ∧ dev.rsv.dirty = true ∧ dev.rsv.pass = none ∧ dev.map.valid = true) ∧
    State.reset.map.valid = false ∧
    ({ dev with rsv := { dev.rsv with pass := some fullPass } } : State).rsv.pass ≠ none := by decide +kernel

/-- The corridor's device with a pass in flight. -/
def devPass : State := { dev with rsv := { dev.rsv with pass := some dev.passCopy } }

theorem hyp_PassCompletionPublishes :
    devPass.powered = true ∧ devPass.rsv.pass = some dev.passCopy ∧
    dev.passCopy.work devPass.rsv.published ≠ devPass.rsv.published ∧
    dev.passCopy.work (dev.passCopy.work devPass.rsv.published) = dev.passCopy.work devPass.rsv.published ∧
    dev.passCopy.record ((31 : Fin 32).val / 2) .N = none ∧ devPass.map.valid = true ∧
    devPass.gate? (0 : Fin 8).val = some gate0 ∧ devPass.sign? (0 : Fin 24).val = some sign0 ∧
    devPass.path? (0 : Fin 12).val = some path0 ∧ State.reset.map.valid = false ∧ dev.gate? (7 : Fin 8).val = none := by
  decide +kernel

/-- A publication reaches a gate that enters no state and one that enters one. -/
theorem hyp_PassCompletionPublishes_entries :
    (∀ d ∈ [Demand.opened, .closed], ((Gate.unused).publish gate0 true d false 1).2 =
      if d = .closed then [{ Gate.unused with
        demand := some .closed, demandGen := some 1, state := .prewarn, phase := some .countdown
        countKind := some .normal, remaining := gate0.prewarn }] else []) := by decide +kernel

/-- The publication clauses for one gate: the same demand with and without the upgrade of its emergency flag, whose countdown
is long or ends at once, and a new demand in every state. -/
theorem hyp_PassCompletionPublishes_gate :
    let u := Gate.unused
    let p : Gate := { u with state := .prewarn, demand := some .closed }
    (0 < min gate0.prewarn gate0.emergency ∧ min gate0.prewarn ({ gate0 with emergency := 0 } : GateRec).emergency = 0) ∧
    ({ p with phase := some .signWait } : Gate).phase = some .signWait ∧
    (let x : Gate := { p with phase := some .countdown, countKind := some .normal, remaining := 1 }
     x.demand = some .closed ∧ x.emergency = false ∧ x.state = .prewarn ∧ x.phase = some .countdown ∧
      x.countKind = some .normal ∧ 0 < min x.remaining gate0.emergency ∧ x.obstruction = false ∧
      ({ x with obstruction := true } : Gate).obstruction = true ∧
      min ({ x with remaining := 0 } : Gate).remaining gate0.emergency = 0) ∧
    (let x : Gate := { p with phase := some .obstructed }
     x.phase ≠ some .signWait ∧ x.phase ≠ some .countdown) ∧
    (let x : Gate := { p with phase := some .countdown, countKind := some .emergency }
     x.phase ≠ some .signWait ∧ x.countKind ≠ some .normal) ∧
    (u.demand ≠ some .closed ∧ u.state = .opened ∧ u.inhibit = false ∧ ({ u with inhibit := true } : Gate).inhibit = true) ∧
    (let x : Gate := { u with state := .opening, drive := .raise, demand := some .opened }
     x.demand ≠ some .closed ∧ x.state = .opening) ∧
    (let x : Gate := { p with openLimit := true, phase := some .signWait }
     x.demand ≠ some .opened ∧ x.state = .prewarn ∧ x.openLimit = true ∧ p.openLimit = false) ∧
    (∀ l : Bool, let x : Gate := { u with state := .blocked, retryTimer := some 1, openLimit := l, demand := some .closed }
     x.demand ≠ some .opened ∧ x.state = .blocked ∧ x.retryTimer.isSome = true) ∧
    (∀ l : Bool, let x : Gate := { u with state := .closing, drive := .lower, openLimit := l, demand := some .closed }
     x.demand ≠ some .opened ∧ x.state = .closing) ∧
    (let x : Gate := { u with state := .blocked, drive := .raise, demand := some .closed }
     x.demand ≠ some .opened ∧ x.state = .blocked ∧ x.retryTimer = none) ∧
    (let x : Gate := { u with state := .closed, demand := some .closed }
     x.demand ≠ some .opened ∧ x.state = .closed ∧ x.inhibit = false ∧ x.state ≠ .opened ∧ x.state ≠ .opening) ∧
    ({ u with state := .fault } : Gate).state = .fault := by decide +kernel

/-! #### Measurement and condition -/

def scan0 : Scan := ⟨tableErased, Vector.replicate 16 .atStart, none, [0, 1, 2, 15], [], 130, false⟩

def devScan (n : Option Scan) : State := { dev with mea := { dev.mea with scan := n } }

theorem hyp_ScanTimerBeginsAScan : (devScan (some scan0)).powered = true ∧ (devScan (some scan0)).mea.scan ≠ none ∧
    (devScan none).mea.scan = none := by decide +kernel

/-- Counts at the edges of the reference window; a channel, the cabinet and an overrange. -/
theorem hyp_ConversionPassesTheStages :
    (devScan (some scan0)).mea.scan = some scan0 ∧ scan0.todo = 0 :: [1, 2, 15] ∧
    conversionOf (.comparatorTrip 8192) = some (8192, false) ∧ (scan0.convert dev.img 8192 false).todo ≠ [] ∧
    (scan0.convert dev.img 60000 false).todo ≠ [] ∧ conversionOf .countOverflow = some (65535, true) ∧
    (let n := scan0.convert dev.img 40000 false
     n.todo = 1 :: [2, 15] ∧ (n.convert dev.img 20000 false).todo ≠ [] ∧ (n.convert dev.img 65535 true).todo ≠ [] ∧
      (n.work[(1 : Fin 16)]).ring = [] ∧
      (n.convert dev.img 20000 false).todo = 2 :: [15] ∧ 2 ≤ (2 : Fin 16).val ∧
      ((n.convert dev.img 20000 false).convert dev.img 20000 false).todo = 15 :: [] ∧ 2 ≤ (15 : Fin 16).val) ∧
    (let n := { scan0 with todo := [1, 2], work := setAt scan0.work 1 { Chan.atStart with ring := [10], miss := 1 } }
     (n.work[(1 : Fin 16)]).ring ≠ [] ∧ (n.work[(1 : Fin 16)]).miss < 2 ∧ (n.convert dev.img 65535 true).todo ≠ []) := by
  decide +kernel

theorem hyp_ScanCompletionIsPublished :
    (scan0.convert dev.img 8191 false).todo = [] ∧ (scan0.convert dev.img 60001 false).todo = [] ∧
    (let n := { scan0 with cref := some 40000, todo := [2] }
     (devScan (some n)).mea.scan = some n ∧ conversionOf (.comparatorTrip 20000) = some (20000, false) ∧
      (n.convert dev.img 20000 false).todo = [] ∧ (2 : Fin 16) ∈ (n.convert dev.img 20000 false).got ∧
      (3 : Fin 16) ∉ (n.convert dev.img 20000 false).got ∧
      ((n.convert dev.img 20000 false).copy[(3 : Fin 16)]).enable = true) ∧
    (let n := { scan0 with copy := setAt tableErased 4 ⟨false, .default, true⟩, todo := [] }
     (4 : Fin 16) ∉ n.got ∧ (n.copy[(4 : Fin 16)]).enable = false) ∧
    dev.sign? (0 : Fin 24).val = some sign0 ∧ (dev.station? (0 : Fin 6).val).isSome = true ∧
    dev.station? (5 : Fin 6).val = none := by decide +kernel

/-- The last conversion of a scan of channel 2, the surface of station 0, whose air channel 3 has missed `miss` results. -/
def lastOfScan (miss : Nat) (f : State → State) : State :=
  let n := { scan0 with
    cref := some 40000, todo := [2], copy := setAt tableErased 3 ⟨true, .default, true⟩
    work := setAt scan0.work 3 { Chan.atStart with ring := [-5], miss := miss } }
  f (devScan (some n))

/-- The clauses of that statement about the next state: surface FRESH, air HELD or STALE, and the signs at level 16 with and
without a change, a job, and a link that is OFFLINE. -/
theorem hyp_ScanCompletionIsPublished_handOver :
    (∀ miss ∈ [0, 2], (match exec (.comparatorTrip 20000) (lastOfScan miss id) with
      | .next t => decide ((t.surfaceChan 0).quality = .fresh ∧ (meanOf (t.surfaceChan 0).ring).isSome = true ∧
          (t.airChan 0).quality = (if miss = 0 then Quality.held else .stale) ∧ (t.signs[(0 : Fin 24)]).brightness = 16)
      | _ => false) = true) ∧
    ((lastOfScan 0 id).signs[(0 : Fin 24)]).brightness = 16 ∧
    (let s := lastOfScan 0 fun s => s.setSign 0 { s.signs[(0 : Fin 24)] with brightness := 5 }
     (s.signs[(0 : Fin 24)]).brightness = 5 ∧ (s.signs[(0 : Fin 24)]).link ≠ .offline ∧
      (s.flc[sign0.lineIndex]).queue.filter (fun y => decide (y.sign = 0)) = [] ∧
      ((s.setLine 0 { s.flc[(0 : Fin 2)] with queue := [⟨0, .lamp 4, 5⟩] }).flc[sign0.lineIndex]).queue.filter
        (fun y => decide (y.sign = 0)) ≠ []) ∧
    ((devSign fun x => { x with link := .offline }).signs[(0 : Fin 24)]).link = .offline ∧
    (dev.sign? (2 : Fin 24).val = none ∧ (14 : Fin 16).val = sign0.light ∧ ¬16 ≤ sign0.light ∧
      (1 : Fin 2) ≠ sign0.lineIndex ∧ ({ sign0 with light := 16 } : SignRec).light = 16) := by decide +kernel

theorem hyp_WindIsSampled : dev.powered = true ∧ (dev.station? (0 : Fin 6).val).isSome = true ∧
    (dev.station? (0 : Fin 6).val).bind windInput = some 1 ∧ (dev.mea.anemometers[(1 : Fin 3)]).period = none ∧
    (dev.station? (5 : Fin 6).val).bind windInput = none ∧
    meanOf ([⟨143, false⟩, ⟨156, false⟩].map fun x : WindSample => (x.speed : Int)) = some ((150 : Nat) : Int) := by
  decide +kernel

def trimArgs (channel hi enable : Byte) : List Byte := [channel, hi, 0#8, 0#8, 0#8, 0#8, 0#8, 0#8, 0#8, enable]

theorem hyp_TrimAndChannelRequests :
    (dev.takes .site .trimSet (trimArgs 1#8 8#8 1#8) ∧ get8 (trimArgs 1#8 8#8 1#8) 0 = (1 : Fin 16).val) ∧
    (dev.takes .site .trimSet (trimArgs 15#8 0x3F#8 0#8) ∧ get16 (trimArgs 15#8 0x3F#8 0#8) 1 ≤ 16383) ∧
    (dev.takes .site .trimSet (trimArgs 1#8 0x40#8 0#8) ∧ 16383 < get16 (trimArgs 1#8 0x40#8 0#8) 1 ∧
      get8 (trimArgs 1#8 0x40#8 0#8) 9 = 0) ∧
    (dev.takes .site .trimSet (trimArgs 0#8 0#8 0#8) ∧ dev.takes .site .trimSet (trimArgs 16#8 0#8 0#8)) ∧
    (dev.takes .centre .channelRead [0#8] ∧ dev.takes .centre .channelRead [15#8] ∧ dev.takes .centre .channelRead [16#8]) ∧
    (getInt16 [0xEF#8, 0xFF#8] 0 < -4096 ∧ -4096 ≤ getInt16 [0xF0#8, 0x00#8] 0 ∧ 4095 < getInt16 [0x10#8, 0x00#8] 0) := by
  have h : ∀ a : List Byte, a.length = 10 → dev.takes .site .trimSet a :=
    fun a ha => dev_takes _ _ _ _ rfl rfl (by decide +kernel) ha
  have c : ∀ a : List Byte, a.length = 1 → dev.takes .centre .channelRead a :=
    fun a ha => dev_takes _ _ _ _ rfl rfl (by decide +kernel) ha
  refine ⟨⟨h _ rfl, ?_⟩, ⟨h _ rfl, ?_⟩, ⟨h _ rfl, ?_⟩, ⟨h _ rfl, h _ rfl⟩, ⟨c _ rfl, c _ rfl, c _ rfl⟩, ?_⟩ <;>
    decide +kernel

/-- The limits of each comparison: confirm count reached, improvement just passed, storm and strong just reached. -/
theorem hyp_ClassAndWindRules :
    let r := { parseStation [] with tf := 0, band := 30, hyst := 10, wc := 2, hold := 2, strong := 100, storm := 200 }
    let x := ({ Station.atStart with cls := .clear } : Station)
    (Station.atStart.cls = .unknown) ∧ (rawClassOf r (30 - r.tf)).worseThan x.cls = true ∧ x.counter + 1 < r.wc ∧
    r.wc ≤ ({ x with counter := 1 } : Station).counter + 1 ∧
    ({ r with wc := 1 } : StationRec).wc ≤ x.counter + 1 ∧ x.counter = 0 ∧
    ((rawClassOf r (31 - r.tf)).worseThan x.cls = false ∧ improves r x.cls (31 - r.tf) = false) ∧
    ((rawClassOf r (11 - r.tf)).worseThan .freeze = false ∧ improves r .freeze (11 - r.tf) = true ∧ 0 < r.hold ∧
      improves r .freeze (10 - r.tf) = false) ∧ (r.storm ≤ 200 ∧ 199 < r.storm ∧ r.strong ≤ 100 ∧ 99 < r.strong) ∧
    (({ x with wind := .storm } : Station).wind = .storm ∧ ({ x with wind := .strong } : Station).wind = .strong ∧
      ((199 : Nat) : Int) < (r.storm : Int) - r.windHyst ∧ ((99 : Nat) : Int) < (r.strong : Int) - r.windHyst ∧
      ¬((100 : Nat) : Int) < (r.strong : Int) - r.windHyst ∧ 60 * r.windHold ≤ 0 ∧
      1199 < 60 * ({ r with windHold := 20 } : StationRec).windHold) ∧
    (({ r with hold := 0 } : StationRec).hold = 0 ∧ x.timer = none ∧
      improves { r with hold := 0 } .freeze (11 - r.tf) = true) ∧
    x.wind = .normal ∧ (devOrder wxSpeed).ord.wxEntry (0 : Fin 6).val (Content.speed 50).kind = some wxSpeed ∧
    wxSpeed.content ≠ .speed 70 ∧ dev.ord.wxEntry (0 : Fin 6).val .speed = none ∧
    (dev.cnd[(0 : Fin 6)]).suppressed .speed = false ∧ dev.img.span (0 : Fin 6).val = some (0, 0) ∧
    ({ Station.atStart with supSpeed := true } : Station).suppressed .speed = true := by decide +kernel

/-- The clauses of that statement about a hand-over: a station that becomes ready, one that is not, and a suppression flag
that stands and one that is cleared; an entry to retire. -/
theorem hyp_ClassAndWindRules_handOver :
    (let s := dev.setStation 0 { dev.cnd[(0 : Fin 6)] with
       cls := .freeze, wind := .storm, supSpeed := true, supClose := true, snow := true, ready := true }
     s.map.valid = true ∧ (s.img.span (0 : Fin 6).val).isSome = true ∧ (s.cnd[(0 : Fin 6)]).cls ≠ .unknown ∧
      (s.cnd[(0 : Fin 6)]).ready = true ∧ (s.cnd[(0 : Fin 6)]).suppressed .speed = true) ∧
    (let s := dev.setStation 0 { dev.cnd[(0 : Fin 6)] with cls := .clear, supSpeed := true }
     (s.cnd[(0 : Fin 6)]).cls = .clear ∧ (s.cnd[(0 : Fin 6)]).ready = false ∧ s.mea.wind[(0 : Fin 6)] = [] ∧
      ((s.station? (0 : Fin 6).val).bind windInput).isNone = false) ∧
    (dev.cnd[(0 : Fin 6)]).cls = .unknown ∧ dev.img.span (5 : Fin 6).val = none ∧ State.reset.map.valid = false ∧
    (devOrder wxSpeed).ord.wxEntry (0 : Fin 6).val .speed = some wxSpeed ∧
    (devOrder wxSpeed).ord.wxEntry (0 : Fin 6).val .close = none ∧
    (dev.ord.table.find? (fun y => y.issuer == .wx && y.station == some (0 : Fin 6).val && y.content.kind == .speed) = none ∧
      dev.ord.stamps < 4294967295 ∧ (devOrder wxSpeed).ord.table.find?
        (fun y => y.issuer == .wx && y.station == some (0 : Fin 6).val && y.content.kind == .speed) = some wxSpeed) := by
  decide +kernel

theorem hyp_ImprovementTakesTheBetterClass :
    (dev.powered = true ∧ dev.station? (5 : Fin 6).val = none ∧ (dev.cnd[(0 : Fin 6)]).timer = none) ∧
    (let s := dev.setStation 0 { dev.cnd[(0 : Fin 6)] with cls := .freeze, timer := some 600 }
     (s.station? (0 : Fin 6).val).isSome = true ∧ (s.cnd[(0 : Fin 6)]).timer = some 600) := by decide +kernel

/-! #### Paths -/


theorem path0_failClosed : path0.failClosed = true ∧ path0.input = some 3 ∧ path0.confirm = 600 := by decide +kernel

/-- The path with the given state and accepted zone, its links fitting. -/
def atState (st : PathState) (z : Option Zone) (x : Path) : Path := { x with state := st, zone := z }

theorem hyp_AcceptedZoneMovesThePath :
    dev.powered = true ∧ dev.map.valid = true ∧ dev.pathOfLoop 3 = some 0 ∧ dev.path? (0 : Fin 12).val = some path0 ∧
    dev.pathOfLoop 4 = none ∧ (if dev.avp[(0 : Fin 12)].candidate = some .trip then 2 else 1) < path0.debounce ∧
    dev.avp[(0 : Fin 12)].state = .quiet ∧ dev.ord.tripEntry (0 : Fin 12).val = none ∧
    (∀ st ∈ [PathState.quiet, .tripped, .latched, .holdPending, .hold], ∀ z ∈ [Zone.short, .trip, .normal, .opened],
      ∀ old ∈ [none, some (if z = Zone.normal then Zone.trip else .normal)],
      let x := (devPath fun x => { atState st old x with candidate := some z, debounce := 1 }).avp[(0 : Fin 12)]
      x.zone ≠ some z ∧ x.state = st ∧
        path0.debounce ≤ (if x.candidate = some z then x.debounce + 1 else 1)) ∧
    ((devPath (atState .quiet (some .trip))).avp[(0 : Fin 12)]).zone = some .trip ∧ path0.failClosed = true ∧
    (parsePath (row [0, 0, 3, 2, 1, 2, 88, 255]).data).failClosed = false ∧
    ({ dev with map := State.reset.map } : State).pathOfLoop 3 = some 0 ∧
    (let e : Order := { closure with issuer := .trip, content := .close .avalanche, path := some 0 }
     (devOrder e).ord.table.find? (fun y => y.issuer == .trip && y.path == some (0 : Fin 12).val) = some e) ∧
    dev.ord.table.find? (fun y => y.issuer == .trip && y.path == some (0 : Fin 12).val) = none ∧
    (closure.state = .active ∧ ({ closure with state := .scheduled } : Order).state ≠ .active) := by decide +kernel

theorem hyp_LoopSampleCountsTheCandidate :
    dev.powered = true ∧ dev.path? (0 : Fin 12).val = some path0 ∧ dev.supervised (0 : Fin 12).val = some (3 : Fin 12).val ∧
    ((devPath fun x => { x with zone := some .normal }).avp[(0 : Fin 12)]).zone = some .normal ∧
    (let x := (devPath fun x => { x with candidate := some .trip, debounce := 1 }).avp[(0 : Fin 12)]
     x.zone ≠ some .trip ∧ x.candidate = some .trip ∧ path0.debounce ≤ x.debounce + 1) ∧
    (let x := (devPath fun x => { x with candidate := some .trip }).avp[(0 : Fin 12)]
     x.candidate = some .trip ∧ x.debounce + 1 < path0.debounce) ∧
    (dev.avp[(0 : Fin 12)].zone ≠ some .trip ∧ dev.avp[(0 : Fin 12)].candidate ≠ some .trip ∧ 1 < path0.debounce) ∧
    (parsePath (row [0, 0, 3, 1]).data).debounce ≤ 1 ∧ dev.supervised (1 : Fin 12).val = none ∧
    dev.pathOfLoop 3 = some 0 := by decide +kernel

/-- Everything of path 0 is met: segment 0 closed, gate 0 CLOSED, sign 0 closure-confirmed. -/
def heldDev (st : PathState) : State :=
  let a : Aspect := { Aspect.unknown with resolved := true, closed := .byOrder, reason := some .avalanche }
  let s := devPath fun x => { x with state := st, holdOrder := some 7, timer := if st = .holdPending then some 600 else none }
  ((({ s with rsv := { s.rsv with published := setAt (setAt s.rsv.published 0 a) 1 a } } : State).setGate 0
    { dev.gtc[0] with state := .closed }).setSign 0 { dev.signs[0] with confirmed := true })

theorem hyp_HoldIsConfirmedOrFails :
    (dev.path? (0 : Fin 12).val = some path0 ∧ dev.avp[(0 : Fin 12)].state ≠ .holdPending) ∧
    ((heldDev .holdPending).powered = true ∧ (heldDev .holdPending).avp[(0 : Fin 12)].state = .holdPending ∧
      ((heldDev .holdPending).avp[(0 : Fin 12)].timer).isSome = true ∧ (heldDev .holdPending).unmetItem path0 = none) ∧
    (let s := (heldDev .holdPending).setGate 0 { dev.gtc[0] with state := .closing }
     s.avp[(0 : Fin 12)].state = .holdPending ∧ s.unmetItem path0 = some (.gate 0)) ∧
    (let s := (heldDev .hold).setSign 0 { dev.signs[0] with confirmed := false }
     s.avp[(0 : Fin 12)].state = .hold ∧ s.unmetField path0 = some (.sign 0)) ∧
    (let s := dev
     s.unmetItem path0 = some (.segment 0 .S) ∧ s.unmetField path0 = some (.gate 0) ∧ s.approachOf 0 = [0]) ∧
    ((heldDev .hold).avp[(0 : Fin 12)].state = .hold ∧ (heldDev .hold).unmetField path0 = none) ∧
    (0 : Fin 8).val ∈ path0.barriers ∧ dev.map.valid = true ∧ State.reset.map.valid = false := by decide +kernel

/-- A path in HOLD_PENDING whose last unmet item is its barrier gate, in CLOSING. -/
theorem hyp_HoldIsConfirmedOrFails_gate :
    let s := (heldDev .holdPending).setGate 0 { Gate.unused with state := .closing, drive := .lower, demand := some .closed }
    s.powered = true ∧ s.map.valid = true ∧ s.path? (0 : Fin 12).val = some path0 ∧
      s.gate? (0 : Fin 8).val = some gate0 ∧ (0 : Fin 8).val ∈ path0.barriers ∧ s.avp[(0 : Fin 12)].state = .holdPending ∧
      s.gtc[(0 : Fin 8)].state = .closing ∧ s.gtc[(0 : Fin 8)].closedLimit = false ∧
      s.gtc[(0 : Fin 8)].openLimit = false ∧ s.gtc[(0 : Fin 8)].demand ≠ some .opened ∧
      (s.setGate 0 { s.gtc[(0 : Fin 8)] with state := .closed }).unmetItem path0 = none := by decide +kernel

theorem takes_path (r : Request) (s : State) (hr : r.argBytes = 1) (hp : s.powered = true)
    (hq : s.port .service = PortUnit.afterReset) (hi : s.img.permits .service r.code = true) :
    s.takes .service r [0#8] := dev_takes _ _ _ _ hp hq hi hr.symm

theorem hyp_PathHoldCreatesItsOrder :
    dev.takes .service .pathHold [0#8] ∧ State.reset.takes .service .pathHold [0#8] ∧ State.reset.map.valid = false ∧
    dev.path? (get8 [1#8] 0) = none ∧ dev.pathIs [0#8] 0 path0 ∧ dev.avp[(0 : Fin 12)].state = .quiet ∧
    dev.ord.held .avs < 20 ∧ dev.ord.portPool < 34 ∧ (heldDev .hold).avp[(0 : Fin 12)].state ≠ .quiet ∧
    20 ≤ (manyOrders 0 20 0).held .avs ∧ ((manyOrders 20 14 0).held .avs < 20 ∧ 34 ≤ (manyOrders 20 14 0).portPool) := by
  refine ⟨takes_path _ _ rfl rfl rfl (by decide +kernel), takes_path _ _ rfl rfl rfl (by decide +kernel), ?_⟩
  simp only [State.pathIs]
  decide +kernel

/-- A lift matrix without any permission. -/
def devNoLift : State := { dev with img := { dev.img with failed := [83, 84, 85] } }

theorem hyp_PathClearAndEndHold :
    dev.takes .service .pathClear [0#8] ∧ dev.takes .service .pathEndHold [0#8] ∧ dev.pathIs [0#8] 0 path0 ∧
    devNoLift.img.mayLift .service .trip = false ∧ devNoLift.img.mayLift .service .avs = false ∧
    dev.img.mayLift .service .trip = true ∧ dev.img.mayLift .service .avs = true ∧
    ((devPath (atState .tripped none)).avp[(0 : Fin 12)]).state = .tripped ∧ dev.avp[(0 : Fin 12)].state = .quiet ∧
    (let x := (devPath fun x => { x with state := .latched, tripOrder := some 7 }).avp[(0 : Fin 12)]
     x.state = .latched ∧ x.tripOrder = some 7) ∧
    (let x := (devPath fun x => { x with state := .hold, holdOrder := some 7, released := true, zone := some .trip }).avp[(0 : Fin 12)]
     x.state = .hold ∧ x.released = true ∧ x.zone = some .trip) ∧
    (let x := (devPath fun x => { x with state := .hold, holdOrder := some 7, released := true, zone := some .normal }).avp[(0 : Fin 12)]
     ¬(x.released = true ∧ x.zone = some .trip) ∧ x.holdOrder = some 7) := by
  refine ⟨takes_path _ _ rfl rfl rfl (by decide +kernel), takes_path _ _ rfl rfl rfl (by decide +kernel), ?_⟩
  simp only [State.pathIs]
  decide +kernel

/-! #### Gates -/

/-- The corridor with an emergency prewarn time of 0 in the record of gate 0. -/
def devNow : State := devImg fun m => { m with loaded := rows.map fun x =>
  if x.1 = 41 then (41, row [0, 0, 0, 255, 255, 0, 60, 0, 0, 0, 30, 30, 2, 20, 40, 4, 4, 6, 8, 2]) else x }

/-- Any gate can stand at gate 0 of the corridor, with either record. -/
theorem hyp_gate (x : Gate) :
    ((devGate fun _ => x).powered = true ∧ (devGate fun _ => x).map.valid = true ∧
      (devGate fun _ => x).gate? (0 : Fin 8).val = some gate0 ∧ (devGate fun _ => x).gtc[(0 : Fin 8)] = x) ∧
    (devNow.setGate 0 x).powered = true ∧ (devNow.setGate 0 x).map.valid = true ∧
      (devNow.setGate 0 x).gate? (0 : Fin 8).val = some { gate0 with emergency := 0 } ∧
      (devNow.setGate 0 x).gtc[(0 : Fin 8)] = x := by
  have h1 : dev.gate? (0 : Fin 8).val = some gate0 := by decide +kernel
  have h2 : devNow.gate? (0 : Fin 8).val = some { gate0 with emergency := 0 } := by decide +kernel
  exact ⟨⟨rfl, rfl, h1, rfl⟩, rfl, rfl, h2, rfl⟩

/-- The open limit of a gate at `hyp_gate`: both limits, a limit that ends OPENING (alone, on to PREWARN, with an emergency
prewarn time of 20 and of 0, under the inhibit flag), BLOCKED at and above the retry limit, and every state that only stores
the level; then the level lost. -/
theorem hyp_GateInputsMoveTheGate :
    let g := Gate.unused
    (g.openLimit = false ∧ ({ g with closedLimit := true, state := .closed } : Gate).state ≠ .fault) ∧
    (({ g with state := .opening } : Gate).closedLimit = false ∧ g.demand ≠ some .closed) ∧
    (let x : Gate := { g with state := .opening, demand := some .closed }
     x.demand = some .closed ∧ x.inhibit = false ∧ x.emergency = false ∧
      ({ x with inhibit := true } : Gate).inhibit = true ∧ ({ x with emergency := true } : Gate).emergency = true ∧
      0 < gate0.emergency ∧ ({ gate0 with emergency := 0 } : GateRec).emergency = 0 ∧ x.obstruction = false ∧
      ({ x with obstruction := true } : Gate).obstruction = true) ∧
    (let x : Gate := { g with state := .blocked }
     x.retryTimer = none ∧ ({ x with retries := 2 } : Gate).retries ≤ gate0.retryLimit ∧
      gate0.retryLimit < ({ x with retries := 3 } : Gate).retries ∧
      ({ x with retryTimer := some 0 } : Gate).retryTimer.isSome = true) ∧
    (∀ st ∈ [GatePos.opened, .prewarn, .closing, .closed, .opening, .blocked, .fault],
      ({ g with state := st } : Gate).state = st ∧ ({ g with state := st } : Gate).closedLimit = false ∧
      ({ g with state := st, openLimit := true } : Gate).openLimit = true) := by decide +kernel

/-- The closed limit and the obstruction: both limits, CLOSING ended (alone, and on to OPENING), CLOSED left; the obstruction
in CLOSING without and with the open limit, within and above the retry limit; its end in OBSTRUCTED without and with the
closed limit, with and without a demand OPEN; and the levels that are only stored. -/
theorem hyp_GateInputsMoveTheGate_others :
    let g := Gate.unused
    (g.closedLimit = false ∧ ({ g with openLimit := true } : Gate).state ≠ .fault) ∧
    (let x : Gate := { g with state := .closing }
     x.openLimit = false ∧ x.demand ≠ some .opened ∧ x.state ≠ .prewarn ∧ x.obstruction = false ∧
      ({ x with demand := some .opened } : Gate).demand = some .opened ∧
      ({ x with inhibit := true } : Gate).inhibit = true ∧ x.inhibit = false ∧
      ({ x with openLimit := true } : Gate).openLimit = true ∧ ({ x with retries := 1 } : Gate).retries + 1 ≤ gate0.retryLimit ∧
      gate0.retryLimit < ({ x with retries := 2 } : Gate).retries + 1) ∧
    (({ g with state := .closed, closedLimit := true } : Gate).closedLimit = true ∧
      ({ g with closedLimit := true } : Gate).state ≠ .closed ∧ g.state ≠ .closing) ∧
    (let x : Gate := { g with state := .prewarn, phase := some .obstructed, obstruction := true }
     x.obstruction = true ∧ x.phase = some .obstructed ∧ x.closedLimit = false ∧
      ({ x with closedLimit := true } : Gate).closedLimit = true ∧ x.demand ≠ some .opened ∧
      ({ x with demand := some .opened } : Gate).demand = some .opened ∧ x.inhibit = false ∧ x.openLimit = false ∧
      ({ x with openLimit := true } : Gate).openLimit = true ∧
      ({ x with phase := some .countdown } : Gate).phase ≠ some .obstructed) ∧
    (∀ c, ({ g with state := .fault, cause := some c } : Gate).cause = some c ∧ (dev.gtc[(0 : Fin 8)]).state ≠ .fault) ∧
    ({ g with state := .fault } : Gate).state = .fault := by
  refine ⟨by decide, by decide +kernel, by decide, by decide, fun c => ⟨rfl, by decide +kernel⟩, rfl⟩

/-- The clauses of that statement about MAP_INVALID: a new level that moves the gate, one that leaves it, the level it has,
a new cause alone, and a gate without a record. -/
theorem hyp_GateInputsMoveTheGate_invalid :
    let s := ({ dev with map := State.reset.map } : State)
    let at' (x : Gate) : Gate := (s.setGate 0 x).gtc[(0 : Fin 8)]
    let x : Gate := { Gate.unused with state := .fault, cause := some .displaced }
    s.powered = true ∧ s.map.valid = false ∧ s.gate? (0 : Fin 8).val = some gate0 ∧ s.gate? (7 : Fin 8).val = none ∧
      at' x = x ∧ { x with openLimit := true } ≠ x ∧ { x with obstruction := true } ≠ x ∧ { x with openLimit := false } = x ∧
      (let y : Gate := { x with closedLimit := true, state := .closed, cause := none }
       at' y = y ∧ { y with openLimit := true } ≠ y ∧ { y with closedLimit := false } ≠ y) := by decide +kernel

/-- The timers of a gate at `hyp_gate`: each phase that an expiry ends, with the obstruction clear and asserted and the closed
limit clear and asserted, and a phase that no expiry ends. -/
theorem hyp_GateTimersMoveTheGate :
    let g := Gate.unused
    (({ g with state := .prewarn, phase := some .signWait } : Gate).phase = some .signWait ∧ g.phase ≠ some .signWait) ∧
    (∀ o c : Bool, let x : Gate := { g with state := .prewarn, phase := some .countdown, obstruction := o, closedLimit := c }
     x.state = .prewarn ∧ x.phase = some .countdown ∧ x.obstruction = o ∧ x.closedLimit = c) ∧
    (g.state ≠ .prewarn ∧ g.travel = none ∧ g.state ≠ .closing ∧ g.state ≠ .opening ∧ g.state ≠ .blocked) ∧
    (∀ st ∈ [GatePos.closing, .opening, .blocked], let x : Gate := { g with state := st, travel := some 30 }
     x.travel.isSome = true ∧ x.state = st ∧ x.retryTimer = none) ∧
    (∀ o c : Bool, let x : Gate := { g with state := .blocked, retryTimer := some 20, obstruction := o, closedLimit := c }
     x.state = .blocked ∧ x.retryTimer.isSome = true ∧ x.obstruction = o ∧ x.closedLimit = c) ∧
    dev.gate? (7 : Fin 8).val = none := by decide +kernel

theorem hyp_DriveAndLanternFollow :
    dev.powered = true ∧ dev.map.valid = true ∧ dev.gate? (0 : Fin 8).val = some gate0 ∧
    ((devGate fun x => { x with drive := .dead }).gtc[(0 : Fin 8)]).drive = .dead ∧
    ((devGate fun x => { x with drive := .dead }).gtc[(0 : Fin 8)]).waitingLine = none ∧
    ((devGate fun x => { x with drive := .dead, waitingLine := some .raise }).gtc[(0 : Fin 8)]).waitingLine = some .raise ∧
    ((devGate fun x => { x with drive := .dead, waitingLine := some .lower }).gtc[(0 : Fin 8)]).waitingLine = some .lower ∧
    ((devGate fun x => { x with drive := .lower, periods := 99 }).gtc[(0 : Fin 8)]).drive = .lower ∧
    dev.gtc[(0 : Fin 8)].drive = .off := by decide +kernel

theorem hyp_GateResetAndInhibit :
    dev.map.valid = true ∧ dev.gateIs [0#8] 0 gate0 ∧ dev.gateIs [0#8, 1#8] 0 gate0 ∧
    dev.takes .site .gateReset [0#8] ∧ (∀ b : Byte, dev.takes .site .gateInhibit [0#8, b]) ∧
    dev.gtc[(0 : Fin 8)].state ≠ .fault ∧
    (let x := (devGate fun x => { x with state := .fault, cause := some .displaced, closedLimit := true }).gtc[(0 : Fin 8)]
     x.state = .fault ∧ x.openLimit ≠ x.closedLimit ∧ x.demand = none ∧ x.inhibit = false ∧ x.openLimit = false ∧
      x.demand ≠ some .opened) ∧
    (let x := (devGate fun x => { x with state := .fault, openLimit := true, demand := some .closed }).gtc[(0 : Fin 8)]
     x.state = .fault ∧ x.openLimit = true ∧ x.closedLimit = false ∧ x.inhibit = false ∧ x.demand = some .closed ∧
      x.emergency = false ∧ ({ x with emergency := true } : Gate).emergency = true ∧ 0 < gate0.emergency) ∧
    gate0.approach.all dev.signConfirmed = false ∧
    gate0.approach.all (dev.setSign 0 { dev.signs[(0 : Fin 24)] with confirmed := true }).signConfirmed = true ∧
    (let x := (devGate fun x => { x with state := .fault, closedLimit := true, demand := some .opened }).gtc[(0 : Fin 8)]
     x.state = .fault ∧ x.openLimit = false ∧ x.closedLimit = true ∧ x.demand = some .opened) ∧
    ({ dev.gtc[(0 : Fin 8)] with inhibit := true } : Gate).inhibit = true ∧
    get8 [0#8, 1#8] 1 = 1 ∧ get8 [0#8, 0#8] 1 = 0 ∧ 1 < get8 [0#8, 2#8] 1 ∧
    ((devGate fun x => { x with state := .closing }).gtc[(0 : Fin 8)]).state = .closing ∧
    (let x := (devGate fun x => { x with inhibit := true, demand := some .closed }).gtc[(0 : Fin 8)]
     x.inhibit = true ∧ x.state = .opened ∧ x.demand = some .closed ∧ x.emergency = false) ∧
    (let x := (devGate fun x => { x with state := .closed, inhibit := true, demand := some .opened }).gtc[(0 : Fin 8)]
     x.inhibit = true ∧ x.state = .closed ∧ x.demand = some .opened ∧ x.openLimit = false) ∧
    (get8 [1#8] 0 = 1 ∧ dev.gate? (get8 [1#8] 0) = none ∧ State.reset.map.valid = false) ∧
    (devNow.map.valid = true ∧ get8 [0#8] 0 = (0 : Fin 8).val ∧
      devNow.gate? (0 : Fin 8).val = some { gate0 with emergency := 0 }) ∧
    (let x := (devGate fun x => { x with emergency := true, demand := some .closed, inhibit := true }).gtc[(0 : Fin 8)]
     x.state = .opened ∧ x.emergency = true ∧ x.obstruction = false ∧ x.closedLimit = false ∧ x.inhibit = true ∧
      ({ x with obstruction := true } : Gate).obstruction = true ∧ dev.gtc[(0 : Fin 8)].inhibit = false) := by
  have h1 : dev.gateIs [0#8] 0 gate0 := ⟨by decide +kernel, by decide +kernel⟩
  have h2 : dev.gateIs [0#8, 1#8] 0 gate0 := ⟨by decide +kernel, by decide +kernel⟩
  refine ⟨rfl, h1, h2, dev_takes _ _ _ _ rfl rfl (by decide +kernel) rfl,
    fun b => dev_takes _ _ _ _ rfl rfl (by decide +kernel) rfl, ?_⟩
  decide +kernel

theorem hyp_GateResetAndInhibit_refused :
    State.reset.takes .site .gateReset [0#8] ∧ State.reset.takes .site .gateInhibit [0#8, 0#8] ∧
    dev.takes .site .gateReset [1#8] ∧ dev.takes .site .gateInhibit [1#8, 0#8] ∧
    devNow.takes .site .gateReset [0#8] ∧ devNow.takes .site .gateInhibit [0#8, 0#8] := by
  refine ⟨?_, ?_, ?_, ?_, ?_, ?_⟩ <;> exact dev_takes _ _ _ _ rfl rfl (by decide +kernel) rfl

theorem hyp_RecordReadsReply :
    (dev.takes .centre .stationRead [0#8] ∧ get8 [0#8] 0 = (0 : Fin 6).val ∧ (0 : Fin 6).val < readBound dev dev.img.counts.stations 6) ∧
    (dev.takes .centre .stationRead [1#8] ∧ readBound dev dev.img.counts.stations 6 ≤ get8 [1#8] 0) ∧
    (dev.takes .centre .pathRead [0#8] ∧ (0 : Fin 12).val < readBound dev dev.img.counts.paths 12) ∧
    (dev.takes .centre .pathRead [1#8] ∧ readBound dev dev.img.counts.paths 12 ≤ get8 [1#8] 0) ∧
    (dev.takes .centre .pathRead [12#8] ∧ 12 ≤ get8 [12#8] 0) ∧
    (dev.takes .centre .gateRead [0#8] ∧ (0 : Fin 8).val < readBound dev dev.img.counts.gates 8) ∧
    (State.reset.takes .centre .gateRead [7#8] ∧
      (7 : Fin 8).val < readBound State.reset State.reset.img.counts.gates 8) ∧
    (dev.takes .centre .gateRead [1#8] ∧ readBound dev dev.img.counts.gates 8 ≤ get8 [1#8] 0) ∧
    (dev.takes .centre .gateRead [8#8] ∧ 8 ≤ get8 [8#8] 0) ∧
    (dev.takes .centre .signRead [1#8] ∧ (1 : Fin 24).val < readBound dev dev.img.counts.signs 24) ∧
    (dev.takes .centre .signRead [2#8] ∧ readBound dev dev.img.counts.signs 24 ≤ get8 [2#8] 0) ∧
    (dev.takes .centre .signRead [24#8] ∧ 24 ≤ get8 [24#8] 0) := by
  have t : ∀ (r : Request) (b : Byte), dev.img.permits .centre r.code = true → r.argBytes = 1 →
      dev.takes .centre r [b] := fun r b h h1 => dev_takes _ _ _ _ rfl rfl h h1.symm
  refine ⟨⟨t _ _ ?_ rfl, ?_⟩, ⟨t _ _ ?_ rfl, ?_⟩, ⟨t _ _ ?_ rfl, ?_⟩, ⟨t _ _ ?_ rfl, ?_⟩, ⟨t _ _ ?_ rfl, ?_⟩,
    ⟨t _ _ ?_ rfl, ?_⟩, ⟨dev_takes _ _ _ _ rfl rfl ?_ rfl, ?_⟩, ⟨t _ _ ?_ rfl, ?_⟩, ⟨t _ _ ?_ rfl, ?_⟩,
    ⟨t _ _ ?_ rfl, ?_⟩, ⟨t _ _ ?_ rfl, ?_⟩, ⟨t _ _ ?_ rfl, ?_⟩⟩ <;>
    decide +kernel
/-! #### Signs and field lines -/

def resolvedRow : Aspect := { Aspect.unknown with resolved := true }

/-- The corridor's device with a publication and signs 1 and 0 queued, sign 1 in a transfer. -/
def devQueued : State :=
  let s := ({ dev with
    rsv := { dev.rsv with published := setAt dev.rsv.published 0 resolvedRow }
    scp := { dev.scp with queue := [1, 0] } } : State)
  s.setSign 1 { s.signs[1] with transfer := true }

def composition (todo : List DrawOp) : Composition := ⟨0, [.ice], 4, todo⟩

def devComposing : State := { dev with scp := { dev.scp with composer := some (composition []) } }

theorem hyp_ComposerTakesAndEnds :
    (devComposing.powered = true ∧ devComposing.scp.composer.isSome = true) ∧ State.reset.map.valid = false ∧
    dev.hasPublication = false ∧
    (devQueued.scp.composer = none ∧ devQueued.map.valid = true ∧ devQueued.hasPublication = true ∧
      devQueued.sign? (0 : Fin 24).val = some sign0 ∧ devQueued.scp.queue = [1] ++ 0 :: [] ∧
      (∀ j ∈ [(1 : Fin 24)], devQueued.signs[j].transfer = true) ∧ devQueued.signs[(0 : Fin 24)].transfer = false) ∧
    (devComposing.scp.composer = some (composition []) ∧
      devComposing.sign? (composition []).sign.val = some sign0 ∧
      devComposing.signs[(composition []).sign].link ≠ .offline ∧
      (∀ j ∈ (devComposing.flc[sign0.lineIndex]).queue, j.sign ≠ (composition []).sign)) ∧
    ((devSign fun x => { x with link := .offline }).signs[(0 : Fin 24)]).link = .offline ∧
    (dev.powered = true ∧ dev.scp.composer = none) ∧
    (let s := devQueued.setSign 0 { devQueued.signs[(0 : Fin 24)] with transfer := true }
     ∀ j ∈ s.scp.queue, s.signs[j].transfer = true) ∧
    (let s := devComposing.setLine 0 { devComposing.flc[(0 : Fin 2)] with queue := [⟨1, .bright, 3⟩, ⟨0, .bright, 9⟩] }
     (composition []).sign ∈ (s.flc[sign0.lineIndex]).queue.map Job.sign) := by decide +kernel

/-- The drawing clauses of `Obligations.ComposerTakesAndEnds`: the ends of a part's window, the pixels inside and outside it,
and the addresses beside the page; the parts of a list are placed in its order. -/
theorem hyp_ComposerTakesAndEnds_drawing :
    (95 < 96 ∧ 47 < 48 ∧ (3 : Nat) ≤ 3) ∧
    pageBase (0 : Fin 24) true 0 = 0 ∧ pageBase (0 : Fin 24) false 1 = 3456 ∧ ¬(0 : Nat) < 0 ∧ 0 + 1152 ≤ 1152 ∧
    ([Element.closure .closedAhead none, .announce 945, .ice].map Element.pos).Pairwise (· < ·) ∧
    sign0.watched = [0, 1] ∧ sign0.facing = .S := by decide +kernel

def readArgs (sign draft page block : Byte) : List Byte := [sign, draft, page, block]

def devHeld (f : Arbiter → Arbiter) : State := { dev with scp := { dev.scp with arbiter := f dev.scp.arbiter } }

theorem hyp_PageMemoryIsShared :
    (∀ a : List Byte, a.length = 4 → dev.takes .centre .signPageRead a) ∧
    (24 ≤ get8 (readArgs 24#8 0#8 0#8 0#8) 0 ∧ get8 (readArgs 2#8 2#8 0#8 0#8) 0 < 24 ∧
      readBound dev dev.img.counts.signs 24 ≤ get8 (readArgs 2#8 2#8 0#8 0#8) 0) ∧
    (get8 (readArgs 0#8 2#8 0#8 0#8) 0 = (0 : Fin 24).val ∧ (0 : Fin 24).val < readBound dev dev.img.counts.signs 24 ∧
      1 < get8 (readArgs 0#8 2#8 0#8 0#8) 1) ∧
    (get8 (readArgs 0#8 1#8 2#8 0#8) 1 ≤ 1 ∧ 1 < get8 (readArgs 0#8 1#8 2#8 0#8) 2 ∧
      8 < get8 (readArgs 0#8 1#8 0#8 9#8) 3) ∧
    (dev.lampSign (1 : Fin 24).val = true ∧ get8 (readArgs 1#8 0#8 0#8 1#8) 3 ≠ 0 ∧
      get8 (readArgs 1#8 0#8 0#8 1#8) 3 ≤ 8) ∧
    (dev.lampSign (0 : Fin 24).val = false ∧ get8 (readArgs 0#8 1#8 1#8 8#8) 2 ≤ 1 ∧
      get8 (readArgs 0#8 1#8 1#8 8#8) 3 ≤ 8 ∧ dev.map.valid = true ∧ dev.scp.arbiter.holder = none ∧
      dev.scp.arbiter.composerWait = false ∧ (∀ l : Fin 2, dev.scp.arbiter.lineWait[l] = false) ∧
      (∀ k : Fin 3, dev.scp.arbiter.portWait[k] = []) ∧ Port.centre ∈ dev.scp.arbiter.portOrder) ∧
    State.reset.map.valid = false ∧
    ((devHeld fun a => { a with holder := some .composer }).scp.arbiter.holder).isSome = true ∧
    (devHeld fun a => { a with holder := some (.port .site (some [1#8])) }).scp.arbiter.holder =
      some (.port .site (some [1#8])) ∧
    ((composition [.clear 0]).todo = .clear 0 :: []) ∧
    (devHeld fun a => { a with holder := some (.line 0), composerWait := true }).scp.arbiter.composerWait = true ∧
    (devHeld fun a => { a with holder := some (.line 0), lineWait := setAt a.lineWait 1 true }).scp.arbiter.nextLine = some 1 ∧
    (let a := (devHeld fun a => { a with holder := some (.line 0), portWait := setAt a.portWait 2 [⟨true, 5#8, 0, false, 0, 0⟩] }).scp.arbiter
     a.nextLine = none ∧ a.nextPort = some .site ∧ a.portWait[portIndex .site] = ⟨true, 5#8, 0, false, 0, 0⟩ :: []) ∧
    (devHeld fun a => { a with holder := some (.port .site none) }).scp.arbiter.holder = some (.port .site none) ∧
    dev.scp.arbiter.nextLine = none ∧ dev.scp.arbiter.nextPort = none := by
  refine ⟨fun a h => dev_takes _ _ _ _ rfl rfl (by decide +kernel) h, ?_⟩
  decide +kernel

/-- The clauses of that statement about the end of an access and the grant: an access of the composer with one, two and no
operations left and without a composition, a line that waits with each kind of transaction and with none, ports that wait,
and the contents that a block is read from. -/
theorem hyp_PageMemoryIsShared_grant :
    let w := fun todo => ({ devHeld fun a => { a with holder := some .composer } with
      scp := { dev.scp with
        arbiter := { dev.scp.arbiter with holder := some .composer }, composer := some (composition todo) } } : State)
    ((w [.clear 0]).powered = true ∧ (w [.clear 0]).scp.arbiter.holder = some .composer ∧
      (w [.clear 0]).sign? (composition [.clear 0]).sign.val = some sign0 ∧
      (composition [.clear 0, .clear 1]).todo = .clear 0 :: [.clear 1] ∧ (composition []).todo = [] ∧
      (devHeld fun a => { a with holder := some .composer }).scp.composer = none) ∧
    (dev.powered = true ∧ dev.scp.arbiter.holder = none) ∧
    (devHeld fun a => { a with holder := some (.line 1) }).scp.arbiter.holder = some (.line 1) ∧
    (let a := (devHeld fun a => { a with composerWait := true }).scp.arbiter
     a.holder = none ∧ a.composerWait = true) ∧
    (let s := devHeld fun a => { a with lineWait := setAt a.lineWait 1 true }
     s.scp.arbiter.holder = none ∧ s.scp.arbiter.composerWait = false ∧
      s.scp.arbiter.lineOrder.find? (fun l => s.scp.arbiter.lineWait[l]) = some 1 ∧ (s.flc[(1 : Fin 2)]).trans = none ∧
      (∀ k ∈ [TransKind.page 4 1 4, .lamp 4],
        ((s.setLine 1 { s.flc[(1 : Fin 2)] with trans := some ⟨k, 1, 9, 0, false⟩ }).flc[(1 : Fin 2)]).trans =
          some ⟨k, 1, 9, 0, false⟩)) ∧
    (let a := (devHeld fun a => { a with portWait := setAt a.portWait 2 [⟨false, 5#8, 0, false, 0, 0⟩] }).scp.arbiter
     a.holder = none ∧ a.portOrder.find? (fun p => decide (a.portWait[portIndex p] ≠ [])) = some .site ∧
      a.portWait[portIndex .site] = ⟨false, 5#8, 0, false, 0, 0⟩ :: []) ∧
    (∀ face ∈ [Face.pages 1, .lamps 1#8 0#8],
      let d : Composed := ⟨[.ice], 4, face, false, 0#16⟩
      ((devSign fun x => { x with bufA := some d }).signs[(0 : Fin 24)]).bufA = some d ∧ d.face = face) ∧
    (dev.signs[(0 : Fin 24)]).bufA = none ∧ (0 : Nat) < 1 ∧ (1 : Nat) ≤ 1 := by decide +kernel

def devJob (k : JobKind) : State := devLine 0 fun x => { x with queue := [⟨0, k, 9⟩] }

theorem hyp_LinesTakeJobsAndPolls :
    ((devLine 0 fun x => { x with phase := .replyWait }).flc[(0 : Fin 2)]).phase ≠ .idle ∧
    (∀ k ∈ [JobKind.page 4 1 4, .lamp 4, .bright], ((devJob k).flc[(0 : Fin 2)]).phase = .idle ∧
      ((devJob k).flc[(0 : Fin 2)]).queue.find? (fun j => !(devJob k).signs[j.sign].composing &&
        ((devJob k).signs[j.sign].mismatch != 3 || (devJob k).due 0 j.sign)) = some ⟨0, k, 9⟩) ∧
    (devJob .bright).powered = true ∧ (devJob .bright).scp.arbiter.holder = none ∧
    (devJob .bright).scp.arbiter.composerWait = false ∧ (∀ m : Fin 2, (devJob .bright).scp.arbiter.lineWait[m] = false) ∧
    (0 : Fin 2) ∈ (devJob .bright).scp.arbiter.lineOrder ∧ dev.signs[(0 : Fin 24)].confirmed = false ∧
    (let s := devSign fun x => { x with pollTimer := 4 }
     s.flc[(0 : Fin 2)].phase = .idle ∧ (∀ j ∈ (s.flc[(0 : Fin 2)]).queue, s.takeable 0 j = false) ∧ 4 < 31 ∧
      5 = (s.flc[(0 : Fin 2)].pollPtr.getD 0 + 4) % 31 + 1 ∧ s.dueAt 0 5 = some 0 ∧
      (∀ m < 4, s.dueAt 0 ((s.flc[(0 : Fin 2)].pollPtr.getD 0 + m) % 31 + 1) = none)) := by decide +kernel

def devTrans (l : Fin 2) (phase : LinePhase) (t : Trans) (wire : Option (List Byte)) : State :=
  devLine l fun x => { x with phase := phase, trans := some t, wire := wire }

theorem hyp_FramesOfATransaction :
    (∀ n ∈ [0, 8, 9, 10], ∀ granted : Bool, ∀ wire ∈ [none, some [0#8]],
      let t : Trans := ⟨.page 4 1 4, 0, 9, n, granted⟩
      let s := devTrans 0 .transmit t wire
      s.powered = true ∧ (s.flc[(0 : Fin 2)]).phase = .transmit ∧ (s.flc[(0 : Fin 2)]).trans = some t ∧
        (s.flc[(0 : Fin 2)]).wire = wire ∧ s.scp.arbiter.holder = none ∧ s.scp.arbiter.composerWait = false ∧
        (∀ m : Fin 2, s.scp.arbiter.lineWait[m] = false) ∧ (0 : Fin 2) ∈ s.scp.arbiter.lineOrder) ∧
    (let s := devTrans 0 .transmit ⟨.poll, 0, 0, 0, false⟩ (some [0#8])
     (s.flc[(0 : Fin 2)]).trans = some ⟨.poll, 0, 0, 0, false⟩ ∧ (s.flc[(0 : Fin 2)]).wire.isSome = true) ∧
    (let s := devTrans 0 .replyWait ⟨.poll, 0, 0, 0, false⟩ none
     s.flc[(0 : Fin 2)].phase = .replyWait ∧ s.flc[(0 : Fin 2)].badReply = false) ∧
    dev.flc[(0 : Fin 2)].phase ≠ .transmit ∧ dev.linedSign? (0 : Fin 24).val = some sign0 := by decide +kernel

def content (check : Check) : Composed := ⟨[.ice], 4, .pages 1, false, check⟩

/-- Line 0 awaits the reply of a transaction with sign 0. -/
def devReply (k : TransKind) (f : Sign → Sign) : State :=
  (devTrans 0 .replyWait ⟨k, 0, 9, 10, false⟩ none).setSign 0 (f dev.signs[0])

/-- A reply or a missed reply in every transaction: with and without a waiting job of the sign, in every link state that
decides, below and at the last miss. -/
theorem hyp_RepliesDecideTheLink :
    (∀ k ∈ [TransKind.page 4 1 4, .lamp 4, .bright, .poll],
      let s := devReply k id
      s.powered = true ∧ s.flc[(0 : Fin 2)].phase = .replyWait ∧ s.flc[(0 : Fin 2)].trans = some ⟨k, 0, 9, 10, false⟩ ∧
        s.flc[(0 : Fin 2)].badReply = false ∧ s.signs[(0 : Fin 24)].noReply < 2 ∧ s.map.valid = true ∧
        (0 : Fin 24) ∉ (s.flc[(0 : Fin 2)]).queue.map Job.sign) ∧
    (0 : Fin 24) ∈ ((devJob .bright).flc[(0 : Fin 2)]).queue.map Job.sign ∧
    ((devReply (.page 4 1 4) fun x => { x with bufB := some (content 7#16) }).signs[(0 : Fin 24)]).draft.map Composed.check =
      some 7#16 ∧
    ((devReply (.page 4 1 4) id).signs[(0 : Fin 24)]).draft.map Composed.check ≠ some 7#16 ∧
    ((devReply .poll fun x => { x with link := .confirmed, bufA := some (content 7#16) }).signs[(0 : Fin 24)]).live.map
      Composed.check = some 7#16 ∧
    ((devReply .poll fun x => { x with link := .confirmed }).signs[(0 : Fin 24)]).live.map Composed.check ≠ some 7#16 ∧
    ((devReply .poll fun x => { x with link := .offline }).signs[(0 : Fin 24)]).link = .offline ∧
    (({ devReply .poll fun x => { x with link := .offline } with map := State.reset.map } : State).map.valid = false) ∧
    ((devReply .poll id).signs[(0 : Fin 24)]).link ≠ .confirmed ∧ ((devReply .poll id).signs[(0 : Fin 24)]).link ≠ .offline ∧
    2 ≤ ((devReply .poll fun x => { x with noReply := 2 }).signs[(0 : Fin 24)]).noReply ∧
    (TransKind.page 4 1 4).job = some (.page 4 1 4) ∧ TransKind.bright.job = some .bright ∧
    (let s := devSign fun x => { x with link := .confirmed, bufA := some { content 7#16 with mark := true } }
     s.signs[(0 : Fin 24)].link = .confirmed ∧ ((s.signs[(0 : Fin 24)]).live.map Composed.mark).getD false = true ∧
      s.signs[(0 : Fin 24)].confirmed ≠ true) := by decide +kernel

/-- The two events of a valid reply (R154): a first door flag is recorded, a known one is not; a count at the limit is
recorded when the degraded flag was clear alone. -/
theorem test_reply_events :
    let q : SignReply := ⟨4, 7, 1, 63⟩
    let events (f : Sign → Sign) := match exec (.status 0 q) (devReply .poll f) with
      | .next s => ((s.port .site).notices.map Notice.event).drop (dev.port .site).notices.length
      | _ => []
    events id = [.signDoor 0 true, .signDegraded 0 63 (dev.img.lampFaultLimit 0)] ∧
    events (fun x => { x with door := some true }) = [.signDegraded 0 63 (dev.img.lampFaultLimit 0)] ∧
    events (fun x => { x with door := some false, degraded := true }) = [.signDoor 0 true] := by decide +kernel

/-- The last clause of `Obligations.GateTimersMoveTheGate`: a CONFIRM with the closure mark for the one approach sign of a
gate in its sign wait. -/
theorem hyp_GateTimersMoveTheGate_confirm :
    let c : Composed := { content 7#16 with mark := true }
    let s := (devReply (.page 4 1 4) fun x => { x with bufB := some c }).setGate 0
      { Gate.unused with state := .prewarn, phase := some .signWait }
    s.powered = true ∧ s.map.valid = true ∧ s.gate? (0 : Fin 8).val = some gate0 ∧
      s.gtc[(0 : Fin 8)].phase = some .signWait ∧ s.flc[(0 : Fin 2)].phase = .replyWait ∧
      s.flc[(0 : Fin 2)].badReply = false ∧ s.flc[(0 : Fin 2)].trans = some ⟨.page 4 1 4, 0, 9, 10, false⟩ ∧
      (s.signs[(0 : Fin 24)]).draft = some c ∧ c.check = 7#16 ∧ c.mark = true ∧ s.signs[(0 : Fin 24)].confirmed = false ∧
      (0 : Fin 24).val ∈ gate0.approach ∧ (∀ j ∈ gate0.approach, j ≠ (0 : Fin 24).val → s.signConfirmed j = true) := by
  decide +kernel

/-- The last clause of `Obligations.HoldIsConfirmedOrFails`: a CONFIRM for the one sign that a path in HOLD_PENDING waits
for. -/
theorem hyp_HoldIsConfirmedOrFails_sign :
    let c : Composed := { content 7#16 with mark := true }
    let h := heldDev .holdPending
    let s := (h.setLine 0 { h.flc[(0 : Fin 2)] with
        phase := .replyWait, trans := some ⟨.page 4 1 4, 0, 9, 10, false⟩, wire := none }).setSign 0
      { dev.signs[(0 : Fin 24)] with bufB := some c }
    s.powered = true ∧ s.path? (0 : Fin 12).val = some path0 ∧ 0 ∈ path0.barriers ∧
      (0 : Fin 24).val ∈ s.approachOf 0 ∧ s.avp[(0 : Fin 12)].state = .holdPending ∧
      s.flc[(0 : Fin 2)].phase = .replyWait ∧ s.flc[(0 : Fin 2)].badReply = false ∧
      s.flc[(0 : Fin 2)].trans = some ⟨.page 4 1 4, 0, 9, 10, false⟩ ∧ (s.signs[(0 : Fin 24)]).draft = some c ∧
      c.check = 7#16 ∧ c.mark = true ∧ s.signs[(0 : Fin 24)].confirmed = false ∧
      (s.setSign 0 { s.signs[(0 : Fin 24)] with confirmed := true }).unmetItem path0 = none := by decide +kernel

/-! #### Stored image and starts -/

theorem hyp_RowsAreReadAndWritten :
    dev.takes .site .imageRead [0x03#8, 0xFF#8] ∧ dev.takes .site .imageRead [0x04#8, 0x00#8] ∧
    dev.takes .site .imageWrite (0x03#8 :: 0xFF#8 :: List.replicate 32 1#8) ∧
    dev.takes .site .imageWrite (0x04#8 :: 0x00#8 :: List.replicate 32 1#8) ∧
    dev.img.writing = none ∧ dev.img.replyTo = none ∧ dev.img.waiting = [] ∧ get16 [0x03#8, 0xFF#8] 0 = 1023 ∧
    1023 < get16 [0x04#8, 0x00#8] 0 ∧
    (∀ owner ∈ [none, some Port.site], ∀ waiting ∈ [[], [⟨some .centre, 1#8, 1023, none⟩],
        [⟨some .centre, 1#8, 1024, none⟩], [⟨some .centre, 1#8, 1023, some []⟩]], ∀ restarting : Bool,
      let s := devImg fun m => { m with
        writing := some ⟨owner, 1#8, 0, some [2#8]⟩, waiting := waiting, restarting := restarting }
      s.powered = true ∧ s.img.writing = some ⟨owner, 1#8, 0, some [2#8]⟩ ∧ s.img.restarting = restarting ∧
        s.img.waiting = waiting) ∧
    (devImg fun m => { m with writing := some ⟨none, 1#8, 0, some [2#8]⟩ }).takes .site .imageRead [0x04#8, 0x00#8] ∧
    (let s := devImg fun m => { m with restarting := true, replyTo := some .centre }
     s.takes .site .imageRead [0x03#8, 0xFF#8] ∧ s.img.replyTo.isSome = true) := by
  refine ⟨dev_takes _ _ _ _ rfl rfl ?_ rfl, dev_takes _ _ _ _ rfl rfl ?_ rfl, dev_takes _ _ _ _ rfl rfl ?_ rfl,
    dev_takes _ _ _ _ rfl rfl ?_ rfl, ?_, ?_, ?_, ?_, ?_, ?_, dev_takes _ _ _ _ rfl rfl ?_ rfl,
    dev_takes _ _ _ _ rfl rfl ?_ rfl, ?_⟩ <;> decide +kernel

theorem hyp_StartsResetTheBlocks :
    dev.takes .site .restart [] ∧ dev.img.writing = none ∧
    (devImg fun m => { m with writing := some ⟨none, 1#8, 0, some [2#8]⟩ }).takes .site .restart [] ∧
    (devImg fun m => { m with writing := some ⟨none, 1#8, 0, some [2#8]⟩ }).img.writing =
      some ⟨none, 1#8, 0, some [2#8]⟩ ∧ dev.img.retained = true ∧
    (devImg fun m => { m with retained := false }).img.retained = false ∧
    dev.powered = true ∧ ({ dev with powered := false } : State).powered = false := by
  refine ⟨dev_takes _ _ _ _ rfl rfl ?_ rfl, rfl, dev_takes _ _ _ _ rfl rfl ?_ rfl, rfl, ?_⟩ <;> decide +kernel

/-- A stored image of two segments, a gate 0 and a path 0 on loop 0 whose rows pass every check. -/
def stored : Rows :=
  [(0, .of (row ([2, 0, 1, 1, 0, 10, 255, 255] ++ List.replicate 15 4 ++ [2, 40, 5, 2, 40, 5])).data),
    (1, .of (row [1, 255, 255]).data), (2, .of (row [1, 255, 255]).data),
    (41, .of (row [0, 0, 255, 255, 255, 0, 60, 0, 20, 0, 30, 30, 2, 20, 40, 4, 4, 6, 8, 2]).data),
    (49, .of (row [0, 0, 0, 2, 0, 2, 88, 0, 255, 255, 255]).data)]

/-- That image in store with the given orders, before a start. -/
def storedDev (l : List Order) : State :=
  { State.reset with img := { State.reset.img with rows := stored, clock := 100 }, ord := ⟨l, 9, 3⟩ }

/-- The orders of the retained table: one that still stands, one that no longer fits, one that has ended, one that starts
at the start, and the TRIP order of path 0. -/
def retainedOrders : List Order :=
  [{ closure with number := 1 }, { closure with number := 2, last := 2 }, { closure with number := 3, finish := some 100 },
    { closure with number := 4, state := .scheduled, start := some 100, stamp := 0 }, { tripOrder with number := 5 }]

/-- The clauses of `Obligations.StartsResetTheBlocks` about a start: the map is valid, a gate is in use, an entry of each kind
is in the table, and the TRIP entry rebuilds its path; without rows the header is missing. -/
theorem hyp_StartsResetTheBlocks_start :
    (let s := storedDev retainedOrders
     let t := s.start .pin
     s.img.writing = none ∧ t.map.valid = true ∧ (t.gate? (0 : Fin 8).val).isSome = true ∧
      (retainedOrders.map fun o => (t.fits o, o.ended s.img.clock, decide (o.state = .active))) =
        [(true, false, true), (false, false, true), (true, true, true), (true, false, false), (true, false, true)] ∧
      ((t.path? (0 : Fin 12).val).bind PathRec.input).isSome = true ∧
      (t.ord.tripEntry (0 : Fin 12).val).isSome = true ∧ t.img.header.isSome = true ∧ (t.port .site).lost = 0) ∧
    (storedDev retainedOrders).ascending ∧ State.reset.img.header = none := by
  refine ⟨by decide +kernel, ?_, by decide +kernel⟩
  simp only [State.ascending]
  decide +kernel


/-- The clause of `Obligations.StartsResetTheBlocks` about a gate under MAP_INVALID: the header counts a third segment, whose
row fails its check. -/
theorem hyp_StartsResetTheBlocks_invalid :
    let s := storedDev []
    let rows := stored.set 0 (.of (3#8 :: (stored.get 0).data.tail))
    let t := ({ s with img := { s.img with rows := rows }, pins := setAt s.pins 0 ⟨false, true, true⟩ } : State).start .pin
    t.map.valid = false ∧ (t.gate? (0 : Fin 8).val).isSome = true := by decide +kernel


end Sys2Proof.Machine.Tests
end

section
/-! ## Marking RSV dirty

Most operations on the order table and on the stations touch of RSV the dirty flag alone (R17, R44). -/

set_option Elab.async false

namespace Sys2Proof.Machine

/-- Of RSV, `t` differs from `s` in the dirty flag at most. -/
def Marks (s t : State) : Prop := ∃ d, t.rsv = { s.rsv with dirty := d }

namespace Marks

theorem of_eq {s t : State} (h : t.rsv = s.rsv) : Marks s t := ⟨s.rsv.dirty, h⟩

theorem refl (s : State) : Marks s s := of_eq rfl

theorem trans {s t u : State} (h : Marks s t) (k : Marks t u) : Marks s u := by
  obtain ⟨d, hd⟩ := h
  obtain ⟨e, he⟩ := k
  exact ⟨e, by rw [he, hd]⟩

/-- One more operation that does not touch RSV. -/
theorem step {l : List Field} {s t u : State} (k : Frame l t u) (h : Marks s t)
    (hn : l.contains .rsv = false := by rfl) : Marks s u := h.trans (of_eq (k.rsv hn))

theorem foldl {α : Type} (f : State → α → State) (as : List α) (h : ∀ s a, Marks s (f s a)) (s : State) :
    Marks s (as.foldl f s) := by
  induction as generalizing s with
  | nil => exact refl s
  | cons a t ih => exact (h s a).trans (ih (f s a))

end Marks

namespace State

theorem markDirty_marks (s : State) : Marks s s.markDirty := ⟨true, rfl⟩

theorem retire_marks (s : State) (n : Nat) (r : EndReason) : Marks s (s.retire n r) := by
  unfold retire
  split
  · exact .refl s
  · exact (Marks.of_eq rfl).trans (markDirty_marks _)

theorem changeState_marks (s : State) (o : Order) (st : OrderState) : Marks s (s.changeState o st) := by
  unfold changeState
  exact (((Marks.refl s).step (putOrder_frame s _ _)).step (record_frame _ _)).trans (markDirty_marks _)

theorem advanceOrders_marks (s : State) (t : Nat) : Marks s (s.advanceOrders t) := by
  refine Marks.foldl _ _ (fun s o => ?_) s
  unfold advanceOrder
  split
  · exact retire_marks ..
  split
  · exact changeState_marks ..
  split
  · exact changeState_marks ..
  · exact .refl s

theorem rewindOrders_marks (s : State) (t : Nat) : Marks s (s.rewindOrders t) := by
  refine Marks.foldl _ _ (fun s o => ?_) s
  unfold rewindOrder
  split
  · exact changeState_marks ..
  · exact .refl s

theorem purgeOrders_marks (s : State) : Marks s s.purgeOrders := by
  unfold purgeOrders
  split
  · refine Marks.foldl _ _ (fun s o => ?_) s
    split
    · exact .refl s
    · exact retire_marks ..
  · exact .refl s

theorem expireOrders_marks (s : State) : Marks s s.expireOrders := by
  refine Marks.foldl _ _ (fun s o => ?_) s
  split
  · exact retire_marks ..
  · exact .refl s

theorem restateOrders_marks (s : State) : Marks s s.restateOrders := by
  refine Marks.foldl _ _ (fun s o => ?_) s
  split
  · exact .refl s
  · exact changeState_marks ..

/-- ORD at a start leaves RSV dirty, and as it is otherwise (R39, R40). -/
theorem startOrders_rsv (s : State) : s.startOrders.rsv = { s.rsv with dirty := true } := by
  obtain ⟨d, hd⟩ := ((purgeOrders_marks s).trans (expireOrders_marks _)).trans (restateOrders_marks _)
  rw [startOrders, markDirty_rsv, hd]

theorem noteClass_marks (s : State) (k : Fin 6) (c : SurfaceClass) (m : Option Int) : Marks s (s.noteClass k c m) := by
  unfold noteClass
  split
  · exact .refl s
  · exact (Marks.of_eq rfl).trans (markDirty_marks _)

end State

/-! ## The parts that are quiet without a valid map -/

namespace State

/-- What `quietWithoutMap` says of a device under MAP_INVALID. -/
structure Quiet (s : State) : Prop where
  published : s.rsv.published = Vector.replicate 32 .unknown
  pass : s.rsv.pass = none
  queue : s.scp.queue = []
  composer : s.scp.composer = none
  memory : s.scp.memory = []
  signs : ∀ i : Fin 24, (s.signs[i]).bufA = none ∧ (s.signs[i]).bufB = none ∧ (s.signs[i]).confirmed = false
  lines : ∀ l : Fin 2, (s.flc[l]).queue = [] ∧ pollsOnly s.flc[l]
  gates : ∀ g : Fin 8, (s.gtc[g]).drive = .off ∧ (s.gtc[g]).lantern = .dark
  paths : ∀ k : Fin 12, (s.avp[k]).state = .quiet ∨ (s.avp[k]).state = .latched

theorem quietWithoutMap_iff (s : State) : s.quietWithoutMap ↔ (s.map.valid = false → s.Quiet) :=
  ⟨fun h hv => let ⟨a, b, c, d, e, f, g, i, j⟩ := h hv; ⟨a, b, c, d, e, f, g, i, j⟩,
    fun h hv => let ⟨a, b, c, d, e, f, g, i, j⟩ := h hv; ⟨a, b, c, d, e, f, g, i, j⟩⟩

/-- The operation that leads from `s` to `t` keeps the map state, and the device quiet under MAP_INVALID. -/
structure Still (s t : State) : Prop where
  map : t.map = s.map
  quiet : s.map.valid = false → s.Quiet → t.Quiet

namespace Still

theorem refl (s : State) : Still s s := ⟨rfl, fun _ h => h⟩

theorem trans {s t u : State} (h : Still s t) (k : Still t u) : Still s u :=
  ⟨k.map.trans h.map, fun hv hq => k.quiet (by rw [h.map]; exact hv) (h.quiet hv hq)⟩

theorem foldl {α : Type} (f : State → α → State) (as : List α) (h : ∀ s a, Still s (f s a)) (s : State) :
    Still s (as.foldl f s) := by
  induction as generalizing s with
  | nil => exact refl s
  | cons a t ih => exact (h s a).trans (ih (f s a))

/-- An operation that leaves every part of `Quiet` but RSV as it is, and of RSV touches the dirty flag alone. -/
theorem of_marks {l : List Field} {s t : State} (h : Frame l s t) (hm : Marks s t)
    (hn : ([.map, .avp, .gtc, .scp, .signs, .flc] : List Field).all (fun f => !l.contains f) = true := by decide) :
    Still s t := by
  have hn' : ∀ f ∈ ([.map, .avp, .gtc, .scp, .signs, .flc] : List Field), l.contains f = false := by
    intro f hf
    simpa using List.all_eq_true.mp hn f hf
  obtain ⟨d, hd⟩ := hm
  have hs := h.scp (hn' .scp (by simp))
  refine ⟨h.map (hn' .map (by simp)), fun _ q => ⟨?_, ?_, hs ▸ q.queue, hs ▸ q.composer, hs ▸ q.memory,
    h.signs (hn' .signs (by simp)) ▸ q.signs, h.flc (hn' .flc (by simp)) ▸ q.lines,
    h.gtc (hn' .gtc (by simp)) ▸ q.gates, h.avp (hn' .avp (by simp)) ▸ q.paths⟩⟩
  · rw [hd]; exact q.published
  · rw [hd]; exact q.pass

/-- An operation that touches no part of `Quiet`. -/
theorem of_frame {l : List Field} {s t : State} (h : Frame l s t)
    (hn : ([.map, .avp, .gtc, .scp, .signs, .flc] : List Field).all (fun f => !l.contains f) = true := by decide)
    (hr : l.contains .rsv = false := by rfl) : Still s t := of_marks h (.of_eq (h.rsv hr)) hn

/-- Only a device that is quiet under MAP_INVALID is to be looked at. -/
theorem of_quiet {l : List Field} {s t : State} (h : Frame l s t) (k : s.map.valid = false → s.Quiet → Still s t)
    (hn : l.contains .map = false := by rfl) : Still s t :=
  ⟨h.map hn, fun hv hq => (k hv hq).quiet hv hq⟩

/-- An operation that under MAP_INVALID does nothing. -/
theorem of_id {l : List Field} {s t : State} (h : Frame l s t) (k : s.map.valid = false → t = s)
    (hn : l.contains .map = false := by rfl) : Still s t :=
  of_quiet h (fun hv _ => by rw [k hv]; exact refl s) hn

end Still

end State
end Sys2Proof.Machine
end

section
/-! ## Single updates of a quiet device -/

set_option Elab.async false

namespace Sys2Proof.Machine.State

theorem still_setPort (s : State) (p : Port) (q : PortUnit) : Still s (s.setPort p q) :=
  .of_frame (setPort_frame s p q)

theorem still_setStation (s : State) (k : Fin 6) (x : Station) : Still s (s.setStation k x) :=
  .of_frame (setStation_frame s k x)

theorem still_record (s : State) (e : Event) : Still s (s.record e) := .of_frame (record_frame s e)

theorem still_answer (s : State) (a : Asker) (rc : ReplyCode) (d : List Byte) : Still s (s.answer a rc d) :=
  .of_frame (answer_frame s a rc d)

theorem still_answerBody (s : State) (p : Port) (b : List Byte) : Still s (s.answerBody p b) :=
  .of_frame (answerBody_frame s p b)

theorem still_setArbiter (s : State) (a : Arbiter) : Still s (s.setArbiter a) :=
  ⟨rfl, fun _ q => { q with }⟩

/-- A path whose state is kept. -/
theorem still_setPath (s : State) (k : Fin 12) (x : Path) (h : x.state = s.avp[k].state) : Still s (s.setPath k x) := by
  refine ⟨rfl, fun _ q => { q with paths := fun j => ?_ }⟩
  rw [setPath_avp, setAt_get]
  split
  · next e => rw [h, e]; exact q.paths j
  · exact q.paths j

/-- A gate whose drive and lantern are kept. -/
theorem still_setGate (s : State) (g : Fin 8) (x : Gate) (hd : x.drive = s.gtc[g].drive)
    (hl : x.lantern = s.gtc[g].lantern) : Still s (s.setGate g x) := by
  refine ⟨rfl, fun _ q => { q with gates := fun j => ?_ }⟩
  rw [setGate_gtc, setAt_get]
  split
  · next e => rw [hd, hl, e]; exact q.gates j
  · exact q.gates j

/-- A sign whose buffers and closure-confirmed are kept. -/
theorem still_setSign (s : State) (i : Fin 24) (x : Sign) (ha : x.bufA = s.signs[i].bufA) (hb : x.bufB = s.signs[i].bufB)
    (hc : x.confirmed = s.signs[i].confirmed) : Still s (s.setSign i x) := by
  refine ⟨rfl, fun _ q => { q with signs := fun j => ?_ }⟩
  rw [setSign_signs, setAt_get]
  split
  · next e => rw [ha, hb, hc, e]; exact q.signs j
  · exact q.signs j

/-- A line that takes up no job and no transaction but a poll. -/
theorem still_setLine (s : State) (l : Fin 2) (x : Line)
    (h : (s.flc[l]).queue = [] → pollsOnly s.flc[l] → x.queue = [] ∧ pollsOnly x) : Still s (s.setLine l x) := by
  refine ⟨rfl, fun _ q => { q with lines := fun j => ?_ }⟩
  rw [setLine_flc, setAt_get]
  split
  · next e => subst e; exact h (q.lines l).1 (q.lines l).2
  · exact q.lines j

/-- A line that keeps its queue and its transaction. -/
theorem still_setLine_same (s : State) (l : Fin 2) (x : Line) (hq : x.queue = s.flc[l].queue)
    (ht : x.trans = s.flc[l].trans) : Still s (s.setLine l x) :=
  still_setLine s l x fun h hp => ⟨hq.trans h, fun t e => hp t (ht ▸ e)⟩

/-! ## Orders, measurement and condition on a quiet device -/

theorem still_retire (s : State) (n : Nat) (r : EndReason) : Still s (s.retire n r) :=
  .of_marks (retire_frame s n r) (retire_marks s n r)

theorem still_advanceOrders (s : State) (t : Nat) : Still s (s.advanceOrders t) :=
  .of_marks (advanceOrders_frame s t) (advanceOrders_marks s t)

theorem still_rewindOrders (s : State) (t : Nat) : Still s (s.rewindOrders t) :=
  .of_marks (rewindOrders_frame s t) (rewindOrders_marks s t)

theorem still_setClock (s : State) (t : Nat) : Still s (s.setClock t) := .of_frame (setClock_frame s t)

theorem still_clockTick (s : State) : Still s s.clockTick := by
  unfold clockTick
  split
  · dsimp only
    split
    · exact (still_setClock s _).trans (still_advanceOrders _ _)
    · exact still_setClock s _
  · exact .refl s

theorem still_jumpTo (s : State) (t : Nat) : Still s (s.jumpTo t) := by
  unfold jumpTo
  dsimp only
  split
  · exact (still_setClock s t).trans (still_advanceOrders _ _)
  split
  · exact (still_setClock s t).trans (still_rewindOrders _ _)
  · exact still_setClock s t

/-- Without a valid map CND makes no request of ORD (R88). -/
theorem wxRequests_invalid {s : State} (h : s.map.valid = false) (k : Fin 6) (r : StationRec) : s.wxRequests k r = s := by
  simp [wxRequests, mayRequest, h]

theorem still_conclude (s : State) (k : Fin 6) (r : StationRec) : Still s (s.conclude k r) := by
  refine .of_quiet (conclude_frame s k r) fun hv _ => ?_
  have h1 : Frame [.cnd] s ((s.setReady k r).setStation k ((s.setReady k r).cnd[k]).clearSuppression) :=
    (setReady_frame s k r).trans (setStation_frame _ _ _)
  have hv1 := (congrArg MapUnit.valid h1.map).trans hv
  rw [conclude, wxRequests_invalid hv1]
  exact .of_frame h1

theorem still_noteClass (s : State) (k : Fin 6) (c : SurfaceClass) (m : Option Int) : Still s (s.noteClass k c m) :=
  .of_marks (noteClass_frame s k c m) (noteClass_marks s k c m)

theorem still_handStation (s : State) (k : Fin 6) : Still s (handStation s k) := by
  unfold handStation
  split
  · exact (((Still.of_frame (noteQuality_frame s _ _ _)).trans (still_setStation _ _ _)).trans
      (still_noteClass _ _ _ _)).trans (still_conclude _ _ _)
  · exact .refl s

theorem still_improvementExpiry (s : State) (k : Fin 6) : Still s (s.improvementExpiry k) := by
  unfold improvementExpiry
  split
  · exact .refl s
  dsimp only
  split
  · exact ((still_setStation s _ _).trans (still_noteClass _ _ _ _)).trans (still_conclude _ _ _)
  · exact .refl s

theorem still_windHandOver (s : State) (k : Fin 6) (r : StationRec) (a b : Nat) : Still s (s.windHandOver k r a b) := by
  unfold windHandOver
  dsimp only
  split
  · exact (still_setStation s _ _).trans (still_conclude _ _ _)
  · exact ((still_setStation s _ _).trans (still_record _ _)).trans (still_conclude _ _ _)

theorem still_windSample (s : State) : Still s s.windSample := by
  refine Still.foldl _ _ (fun s k => ?_) s
  unfold sampleStation
  split
  · split
    · exact (Still.of_frame (Frame.with_mea (l := [.mea]) (Frame.refl _ s))).trans (still_windHandOver _ _ _ _ _)
    · exact .refl s
  · exact .refl s

/-- Without a valid map no sign is in use (R130). -/
theorem sign?_invalid {s : State} (h : s.map.valid = false) (i : Nat) : s.sign? i = none := by simp [sign?, h]

theorem still_lightToSigns (s : State) : Still s s.lightToSigns :=
  Still.foldl _ _ (fun s i => .of_id (lightToSign_frame s i) fun hv => by simp [lightToSign, sign?_invalid hv]) s

theorem still_conversionEnd (s : State) (count : Nat) (ovf : Bool) : Still s (s.conversionEnd count ovf) := by
  have hm : ∀ m : MeaUnit, Still s { s with mea := m } := fun _ =>
    .of_frame (Frame.with_mea (l := [.mea]) (Frame.refl _ s))
  unfold conversionEnd
  split
  · exact .refl s
  dsimp only
  split
  · exact ((hm _).trans (Still.foldl _ _ still_handStation _)).trans (still_lightToSigns _)
  · exact hm _

/-! ## Aspects, paths and gates on a quiet device -/

theorem still_passBegin (s : State) : Still s s.passBegin :=
  .of_id (passBegin_frame s) fun hv => by simp [passBegin, hv]

theorem still_passCompletion (s : State) : Still s s.passCompletion :=
  .of_quiet (passCompletion_frame s) fun _ q => by simp [passCompletion, q.pass, Still.refl]

/-- R16: under MAP_INVALID an accepted zone is recorded alone. -/
theorem still_acceptZone (s : State) (k : Fin 12) (r : PathRec) (l : Fin 12) (z : Zone) :
    Still s (s.acceptZone k r l z) := by
  refine .of_quiet (acceptZone_frame s k r l z) fun hv _ => ?_
  have hp : Still s (s.setPath k { s.avp[k] with zone := some z, candidate := none, debounce := 0 }) :=
    still_setPath s k _ rfl
  simp only [acceptZone, valid, hv, Bool.false_eq_true, if_false]
  split
  · exact (hp.trans (still_record _ _)).trans (still_record _ _)
  · exact hp.trans (still_record _ _)

theorem still_acceptedZone (s : State) (l : Fin 12) (z : Zone) : Still s (s.acceptedZone l z) := by
  unfold acceptedZone
  split
  · exact .refl s
  split
  · exact .refl s
  split
  · exact still_acceptZone ..
  · exact .refl s

theorem sample_state (p : Path) (z : Zone) : (p.sample z).state = p.state := by
  unfold Path.sample
  split
  · rfl
  · split <;> rfl

theorem still_loopSample (s : State) (v : Vector Nat 12) : Still s (s.loopSample v) := by
  refine Still.foldl _ _ (fun s k => ?_) s
  unfold samplePath
  split
  · unfold sampleLoop
    split
    · exact still_acceptZone ..
    · exact still_setPath s k _ (sample_state _ _)
  · exact .refl s

/-- A quiet path waits for no confirmation. -/
theorem Quiet.no_hold {s : State} (q : s.Quiet) (k : Fin 12) : s.avp[k].state ≠ .holdPending := by
  intro h
  rcases q.paths k with e | e <;> exact absurd (h.symm.trans e) (by decide)

theorem still_confirmExpiry (s : State) (k : Fin 12) : Still s (s.confirmExpiry k) := by
  refine .of_quiet (confirmExpiry_frame s k) fun _ q => ?_
  have e : s.confirmExpiry k = s := by
    unfold confirmExpiry
    split
    · rfl
    · rw [if_neg fun h => q.no_hold k h.1]
  rw [e]
  exact .refl s

theorem onGate_invalid {s : State} (h : s.map.valid = false) (g : Fin 8) (f : GateRec → Gate → Gate × List Gate) :
    s.onGate g f = s := by
  simp [onGate, h]

theorem still_onGate (s : State) (g : Fin 8) (f : GateRec → Gate → Gate × List Gate) : Still s (s.onGate g f) :=
  .of_id (onGate_frame s g f) fun hv => onGate_invalid hv g f

theorem still_signWaitExpiry (s : State) (g : Fin 8) : Still s (s.signWaitExpiry g) :=
  .of_id (signWaitExpiry_frame s g) fun hv => by simp [signWaitExpiry, hv]

theorem still_lanternBoundary (s : State) : Still s s.lanternBoundary := by
  refine ⟨rfl, fun hv q => { q with gates := fun g => ?_ }⟩
  simpa [lanternBoundary, hv] using q.gates g

theorem fromLimits_drive (x : Gate) : x.fromLimits.drive = x.drive ∧ x.fromLimits.lantern = x.lantern := by
  unfold Gate.fromLimits
  split <;> exact ⟨rfl, rfl⟩

theorem still_recordGate (s : State) (g : Fin 8) (x : Gate) (e : Bool) : Still s (s.recordGate g x e) :=
  .of_frame (recordGate_frame s g x e)

/-- R14: under MAP_INVALID a gate follows its limits, its drive and its lantern standing. -/
theorem still_pinChange (s : State) (g : Fin 8) (pins : GatePins) (act : GateRec → Gate → Gate × List Gate)
    (store : Gate → Gate) (same : Gate → Bool) (hs : ∀ x, (store x).drive = x.drive ∧ (store x).lantern = x.lantern) :
    Still s (s.pinChange g pins act store same) := by
  refine .of_quiet (pinChange_frame s g pins act store same) fun hv _ => ?_
  let u : State := { s with pins := setAt s.pins g pins }
  have hu : Still s u := .of_frame (Frame.with_pins (l := [.pins]) (Frame.refl _ s))
  have hy : Still u (u.setGate g (store u.gtc[g]).fromLimits) :=
    still_setGate u g _ ((fromLimits_drive _).1.trans (hs _).1) ((fromLimits_drive _).2.trans (hs _).2)
  unfold pinChange
  change Still s (if !u.powered then u else _)
  split
  · exact hu
  split
  · exact hu
  split
  · exact hu
  rw [if_neg fun h => Bool.false_ne_true (hv.symm.trans h)]
  dsimp only
  split
  · exact hu.trans hy
  · exact (hu.trans hy).trans (still_recordGate _ _ _ _)

end Sys2Proof.Machine.State
end

section
/-! ## Signs and field lines of a quiet device -/

set_option Elab.async false

namespace Sys2Proof.Machine.State

/-- With both buffers empty no sign is closure-confirmed (R130, R144). -/
theorem Quiet.reviewConfirmed {s : State} (q : s.Quiet) (i : Fin 24) : s.reviewConfirmed i = s := by
  obtain ⟨ha, hb, hc⟩ := q.signs i
  have hm : (s.signs[i]).liveMark = false := by
    unfold Sign.liveMark Sign.live
    split
    · rw [ha]; rfl
    · rw [hb]; rfl
  unfold State.reviewConfirmed
  dsimp only
  rw [hm, Bool.and_false, if_pos hc.symm]

theorem still_reportLink (s : State) (i : Fin 24) (k : Link) : Still s (s.reportLink i k) := by
  refine .of_quiet (reportLink_frame s i k) fun hv q => ?_
  have h := still_setSign s i { s.signs[i] with link := k } rfl rfl rfl
  rw [reportLink, (h.quiet hv q).reviewConfirmed]
  exact h

theorem still_lineGranted (s : State) (l : Fin 2) : Still s (s.lineGranted l) := by
  unfold lineGranted
  split
  · next t ht =>
    have keep : ∀ w, Still s (s.setLine l { s.flc[l] with trans := some { t with granted := true }, wire := w }) :=
      fun w => still_setLine s l _ fun hq hp => ⟨hq, fun u hu => by
        cases hu
        exact hp t ht⟩
    split
    · exact keep _
    · exact keep s.flc[l].wire
  · exact .refl s

theorem still_grant (s : State) : Still s s.grant := by
  unfold grant
  dsimp only
  split
  · exact .refl s
  split
  · exact still_setArbiter s _
  split
  · exact (still_setArbiter s _).trans (still_lineGranted _ _)
  split
  · split
    · exact still_setArbiter s _
    · exact .refl s
  · exact .refl s

theorem still_release (s : State) : Still s s.release := (still_setArbiter s _).trans (still_grant _)

theorem still_composerTake (s : State) : Still s s.composerTake :=
  .of_id (composerTake_frame s) fun hv => by simp [composerTake, hv]

theorem still_compositionEnd (s : State) : Still s s.compositionEnd :=
  .of_quiet (compositionEnd_frame s) fun _ q => by simp [compositionEnd, q.composer, Still.refl]

theorem still_pageMemoryAccessEnd (s : State) : Still s s.pageMemoryAccessEnd := by
  refine .of_quiet (pageMemoryAccessEnd_frame s) fun _ q => ?_
  unfold pageMemoryAccessEnd
  split
  · exact .refl s
  · simpa [composerAccessEnd, q.composer] using still_release s
  · exact still_release s
  split
  · exact (still_release s).trans (still_answerBody _ _ _)
  · exact still_release s

/-- An empty service queue gives no job (R149). -/
theorem Quiet.nextJob {s : State} (q : s.Quiet) (l : Fin 2) : s.nextJob l = none := by
  unfold State.nextJob firstJob
  rw [(q.lines l).1]
  split <;> rfl

theorem still_pageTransfer (s : State) (l : Fin 2) : Still s (s.pageTransfer l) :=
  .of_quiet (pageTransfer_frame s l) fun _ q => by simp [pageTransfer, q.nextJob, Still.refl]

theorem still_lampTransfer (s : State) (l : Fin 2) : Still s (s.lampTransfer l) :=
  .of_quiet (lampTransfer_frame s l) fun _ q => by simp [lampTransfer, q.nextJob, Still.refl]

theorem still_brightnessJob (s : State) (l : Fin 2) : Still s (s.brightnessJob l) :=
  .of_quiet (brightnessJob_frame s l) fun _ q => by simp [brightnessJob, q.nextJob, Still.refl]

theorem still_poll (s : State) (l : Fin 2) : Still s (s.poll l) := by
  unfold poll
  split
  · exact still_setLine s l _ fun hq _ => ⟨hq, fun t e => by cases e; rfl⟩
  · exact .refl s

/-- No page of a poll is sent (R150). -/
theorem still_pageBlock (s : State) (l : Fin 2) : Still s (s.pageBlock l) := by
  refine .of_quiet (pageBlock_frame s l) fun _ q => ?_
  unfold pageBlock
  split
  · next t ht _ =>
    rw [(q.lines l).2 t ht]
    exact .refl s
  · exact .refl s

theorem still_fieldFrameSent (s : State) (l : Fin 2) : Still s (s.fieldFrameSent l) := by
  refine .of_quiet (fieldFrameSent_frame s l) fun _ q => ?_
  unfold fieldFrameSent
  split
  · next t _ _ ht _ =>
    rw [(q.lines l).2 t ht]
    exact (still_setLine_same s l { s.flc[l] with wire := none } rfl rfl).trans (still_setLine_same _ _ _ rfl rfl)
  · exact .refl s

theorem still_endTransaction (s : State) (l : Fin 2) (t : Trans) : Still s (s.endTransaction l t) :=
  (still_setLine s l (s.flc[l]).finished fun hq _ => ⟨hq, fun _ e => by cases e⟩).trans
    (still_setSign _ _ _ rfl rfl rfl)

theorem still_takeReport (s : State) (l : Fin 2) (i : Fin 24) (q : SignReply) : Still s (s.takeReport l i q) := by
  let y := { s.signs[i] with
    noReply := 0, repGen := some q.generation.toNat, repCheck := some q.check, door := some (decide (q.door ≠ 0#8))
    lampFaults := some (SignReply.faults q), degraded := decide (s.img.lampFaultLimit l ≤ SignReply.faults q) }
  have hy : Still s (s.setSign i y) := still_setSign s i y rfl rfl rfl
  unfold takeReport
  dsimp only
  split <;> split
  · exact hy.trans (still_record _ _)
  · exact (hy.trans (still_record _ _)).trans (still_record _ _)
  · exact hy
  · exact hy.trans (still_record _ _)

theorem still_requestComposition (s : State) (i : Fin 24) : Still s (s.requestComposition i) :=
  .of_id (requestComposition_frame s i) fun hv => by simp [requestComposition, hv]

theorem still_takeStatusLink (s : State) (i : Fin 24) (c : Check) : Still s (s.takeStatusLink i c) := by
  unfold takeStatusLink
  split
  · split
    · exact .refl s
    · exact (still_reportLink s _ _).trans (still_requestComposition _ _)
  · exact (still_reportLink s _ _).trans (still_requestComposition _ _)
  all_goals exact .refl s

theorem still_takeStatus (s : State) (l : Fin 2) (t : Trans) (q : SignReply) : Still s (s.takeStatus l t q) :=
  ((still_endTransaction s l t).trans (still_takeReport _ _ _ _)).trans (still_takeStatusLink _ _ _)

theorem still_misplacedReply (s : State) (l : Fin 2) : Still s (s.misplacedReply l) := by
  unfold misplacedReply
  dsimp only
  split
  · exact still_setLine_same s l _ rfl rfl
  split
  · exact still_setLine_same s l _ rfl rfl
  · exact .refl s

/-- A CONFIRM answers no poll (R147). -/
theorem still_confirm (s : State) (l : Fin 2) (r : SignReply) : Still s (s.confirm l r) := by
  refine .of_quiet (confirm_frame s l r) fun _ q => ?_
  unfold confirm
  split
  · next t _ ht =>
    rw [(q.lines l).2 t ht]
    exact still_misplacedReply s l
  · exact still_misplacedReply s l

theorem still_status (s : State) (l : Fin 2) (r : SignReply) : Still s (s.status l r) := by
  unfold status
  split
  · split
    · exact still_takeStatus ..
    · exact still_takeStatus ..
    all_goals exact still_misplacedReply s l
  · exact still_misplacedReply s l

theorem still_goOffline (s : State) (l : Fin 2) (i : Fin 24) : Still s (s.goOffline l i) :=
  (still_setLine s l ((s.flc[l]).dropJobs i) fun hq hp => 
    ⟨congrArg (List.filter fun j : Job => j.sign ≠ i) hq, hp⟩).trans (still_reportLink _ _ _)

/-- A poll without a valid reply puts back no job (R148). -/
theorem still_replyLimitExpiry (s : State) (l : Fin 2) : Still s (s.replyLimitExpiry l) := by
  refine .of_quiet (replyLimitExpiry_frame s l) fun _ q => ?_
  unfold replyLimitExpiry
  split
  · next t _ ht =>
    have hk := (q.lines l).2 t ht
    have h1 := (still_endTransaction s l t).trans
      (still_setLine_same _ l ((s.endTransaction l t).flc[l].setCounters (s.endTransaction l t).flc[l].counters.addNoReply)
        rfl rfl)
    have h2 := h1.trans (still_setSign _ t.sign { (s.endTransaction l t).signs[t.sign] with
      noReply := nextNoReply (s.endTransaction l t).signs[t.sign].noReply } rfl rfl rfl)
    unfold takeNoReply putBackJob
    simp only [hk]
    split
    · split
      · exact h2
      · exact h2.trans (still_goOffline _ _ _)
    · exact h2
  · exact .refl s

theorem still_invalidReply (s : State) (l : Fin 2) (c : InvalidCause) : Still s (s.invalidReply l c) := by
  unfold invalidReply
  split
  · exact still_setLine_same s l _ rfl rfl
  · exact .refl s

theorem still_strayCharacter (s : State) (l : Fin 2) (c : CharStatus) : Still s (s.strayCharacter l c) := by
  unfold strayCharacter
  split
  · exact .refl s
  · exact still_setLine_same s l _ rfl rfl

theorem still_pollTimerExpiry (s : State) (i : Fin 24) : Still s (s.pollTimerExpiry i) := by
  unfold pollTimerExpiry
  split
  · exact still_setSign s i _ rfl rfl rfl
  · exact .refl s

/-! ## Supply and the second -/

/-- A loss of power turns the drives off and the lanterns dark. -/
theorem still_mainPowerLoss (s : State) : Still s s.mainPowerLoss := by
  have hf := mainPowerLoss_frame s
  refine ⟨hf.map, fun _ q => ⟨hf.rsv ▸ q.published, hf.rsv ▸ q.pass, hf.scp ▸ q.queue, hf.scp ▸ q.composer,
    hf.scp ▸ q.memory, hf.signs ▸ q.signs, hf.flc ▸ q.lines, fun g => ?_, hf.avp ▸ q.paths⟩⟩
  unfold mainPowerLoss
  split
  · simp [unpoweredGate]
  · exact q.gates g

/-- R14, R115, R116: no timer of a gate runs under MAP_INVALID; the other timers are no part of `Quiet`. -/
theorem still_second (s : State) : Still s s.second := by
  have hf := second_frame s
  refine ⟨hf.map, fun hv q => ⟨hf.rsv ▸ q.published, hf.rsv ▸ q.pass, hf.scp ▸ q.queue, hf.scp ▸ q.composer,
    hf.scp ▸ q.memory, fun i => ?_, hf.flc ▸ q.lines, fun g => ?_, fun k => ?_⟩⟩
  · rw [second, ofFn_get]
    split
    · exact q.signs i
    · exact q.signs i
  · rw [second, ofFn_get]
    simp only [valid, hv, Bool.false_eq_true, if_false]
    split
    · exact q.gates g
    · exact q.gates g
  · rw [second, ofFn_get]
    split
    · exact q.paths k
    · exact q.paths k

theorem still_idle (s : State) : Still s s.idle := by
  unfold idle whenPowered
  split
  · exact still_second s
  · exact .refl s

/-! ## Starts: a device that starts under MAP_INVALID is quiet -/

theorem gateAtStart_invalid {s : State} (hv : s.map.valid = false) (g : Fin 8) :
    (gateAtStart s g).drive = .off ∧ (gateAtStart s g).lantern = .dark := by
  unfold gateAtStart
  split
  · exact ⟨rfl, rfl⟩
  · dsimp only
    rw [if_neg fun h => Bool.false_ne_true (hv.symm.trans h)]
    exact fromLimits_drive _

theorem pathAtStart_invalid {s : State} (hv : s.map.valid = false) (k : Fin 12) :
    (pathAtStart s k).state = .quiet ∨ (pathAtStart s k).state = .latched := by
  unfold pathAtStart
  split
  · exact .inr (if_neg fun h => Bool.false_ne_true (hv.symm.trans h.1))
  · exact .inl rfl

/-- The device as a start leaves it before the start actions: the rows are loaded, the map state is known and RESTARTED is
recorded. -/
def started (c : StartCause) (s : State) : State :=
  let s0 := ({ s with powered := true }).cutWrite
  let s1 := if c = .powerCold then s0.clearRetained else s0
  s1.loadImage.startPorts c

theorem start_eq (c : StartCause) (s : State) : s.start c = (s.started c).startBlocks := rfl

/-- The start actions of the blocks that read no order. -/
def startUnits (s : State) : State := s.startMeasure.startAspects.startStations.startSigns.startLines

theorem startBlocks_eq (s : State) : s.startBlocks = s.startUnits.startOrders.startPaths.startGates := rfl

theorem startUnits_frame (s : State) : Frame [.mea, .rsv, .cnd, .scp, .signs, .flc] s s.startUnits :=
  Frame.step (startLines_frame _) (Frame.step (startSigns_frame _) (Frame.step (startStations_frame _)
    (Frame.step (startAspects_frame _) ((startMeasure_frame s).mono))))

theorem startGates_gtc (s : State) : s.startGates.gtc = Vector.ofFn (gateAtStart s) := by
  have h : Frame [.prt] { s with gtc := Vector.ofFn (gateAtStart s) } s.startGates :=
    Frame.foldl _ _ (fun t g => by
      split
      · exact recordGate_frame t g _ _
      · exact Frame.refl _ _) _
  exact h.gtc

/-- What the start actions leave, but for ORD, the events and the parts that no start action touches (R55, R77, R78, R130,
R155). -/
theorem startBlocks_rsv (s : State) :
    s.startBlocks.rsv = ⟨Vector.replicate 32 .unknown, s.rsv.generation, true, none⟩ := by
  rw [startBlocks_eq, (startGates_frame _).rsv, (startPaths_frame _).rsv, startOrders_rsv]
  rfl

theorem startBlocks_scp (s : State) : s.startBlocks.scp = ⟨s.signsInUse, none, .atStart, []⟩ := by
  have h : Frame [.mea, .rsv, .cnd] s s.startMeasure.startAspects.startStations :=
    Frame.step (startStations_frame _) (Frame.step (startAspects_frame _) ((startMeasure_frame s).mono))
  have e : s.startMeasure.startAspects.startStations.signsInUse = s.signsInUse := by
    unfold signsInUse sign? valid
    rw [h.img, h.map]
  rw [startBlocks_eq, (startGates_frame _).scp, (startPaths_frame _).scp, (startOrders_frame _).scp, startUnits,
    (startLines_frame _).scp, startSigns, e]

theorem startBlocks_signs (s : State) : s.startBlocks.signs = Vector.replicate 24 .atStart := by
  rw [startBlocks_eq, (startGates_frame _).signs, (startPaths_frame _).signs, (startOrders_frame _).signs]
  rfl

theorem startBlocks_flc (s : State) : s.startBlocks.flc = Vector.replicate 2 .atStart := by
  rw [startBlocks_eq, (startGates_frame _).flc, (startPaths_frame _).flc, (startOrders_frame _).flc]
  rfl

theorem startBlocks_ord (s : State) : s.startBlocks.ord = s.startUnits.startOrders.ord := by
  rw [startBlocks_eq, (startGates_frame _).ord, (startPaths_frame _).ord]

/-- A path is rebuilt from the map and from the order table that the start leaves (R16, R111). -/
theorem startBlocks_avp (s : State) (k : Fin 12) : s.startBlocks.avp[k] = pathAtStart s.startBlocks k := by
  have hg := startGates_frame s.startUnits.startOrders.startPaths
  have hp := startPaths_frame s.startUnits.startOrders
  have e : pathAtStart s.startUnits.startOrders k = pathAtStart s.startBlocks k := by
    unfold pathAtStart path? valid
    rw [startBlocks_eq, hg.img, hg.ord, hg.map, hp.img, hp.ord, hp.map]
  rw [← e, startBlocks_eq, hg.avp, startPaths, ofFn_get]

/-- A gate is set from its pins (R14, R129). -/
theorem startBlocks_gtc (s : State) (g : Fin 8) : s.startBlocks.gtc[g] = gateAtStart s g := by
  have h : Frame [.mea, .rsv, .cnd, .scp, .signs, .flc, .ord, .prt, .avp] s s.startUnits.startOrders.startPaths :=
    Frame.step (startPaths_frame _) (Frame.step (startOrders_frame _) ((startUnits_frame s).mono))
  rw [startBlocks_eq, startGates_gtc, ofFn_get]
  unfold gateAtStart gate? valid
  rw [h.img, h.map, h.pins]

/-- The start actions leave a device under MAP_INVALID quiet (R15, R16, R55, R130, R155). -/
theorem startBlocks_quiet (s : State) (hv : s.map.valid = false) : s.startBlocks.Quiet := by
  have hv' : s.startBlocks.map.valid = false := (congrArg MapUnit.valid (startBlocks_frame s).map).trans hv
  refine ⟨by rw [startBlocks_rsv], by rw [startBlocks_rsv], ?_, by rw [startBlocks_scp], by rw [startBlocks_scp],
    fun i => ?_, fun l => ?_, fun g => ?_, fun k => ?_⟩
  · rw [startBlocks_scp]
    simp [signsInUse, sign?_invalid hv]
  · simp [startBlocks_signs, Sign.atStart]
  · simp [startBlocks_flc, Line.atStart, pollsOnly]
  · rw [startBlocks_gtc]
    exact gateAtStart_invalid hv g
  · rw [startBlocks_avp]
    exact pathAtStart_invalid hv' k

/-- The operation that leads from `s` to `t` keeps the device quiet without a valid map, whether or not the map state
changes. -/
def KeepsQuiet (s t : State) : Prop := s.quietWithoutMap → t.quietWithoutMap

theorem Still.keeps {s t : State} (h : Still s t) : KeepsQuiet s t := by
  intro hs
  rw [quietWithoutMap_iff] at hs ⊢
  intro hv
  have hv' : s.map.valid = false := h.map ▸ hv
  exact h.quiet hv' (hs hv')

theorem KeepsQuiet.trans {s t u : State} (h : KeepsQuiet s t) (k : KeepsQuiet t u) : KeepsQuiet s u := k ∘ h

/-- One more operation after one that keeps the map state. -/
theorem Still.andThen {s t u : State} (h : Still s t) (k : KeepsQuiet t u) : KeepsQuiet s u := h.keeps.trans k

/-- Whatever went before, a start leaves the device quiet when it finds no valid map. -/
theorem keeps_start (s u : State) (c : StartCause) : KeepsQuiet s (u.start c) := by
  intro _
  rw [quietWithoutMap_iff, start_eq]
  intro hv
  exact startBlocks_quiet _ ((congrArg MapUnit.valid (startBlocks_frame _).map).symm.trans hv)

theorem keeps_powerUp (s : State) (kept : Bool) : KeepsQuiet s (s.powerUp kept) := keeps_start s _ _

theorem keeps_resetPin (s : State) : KeepsQuiet s s.resetPin := by
  unfold resetPin
  split
  · exact keeps_start s s _
  · exact id

theorem still_imgAnswer (s : State) (q : ImgReq) (rc : ReplyCode) (d : List Byte) : Still s (s.imgAnswer q rc d) :=
  .of_frame (imgAnswer_frame s q rc d)

theorem still_with_img (s : State) (m : ImgUnit) : Still s { s with img := m } :=
  .of_frame (Frame.with_img (l := [.img]) (Frame.refl _ s))

theorem keeps_rowWriteComplete (s : State) : KeepsQuiet s s.rowWriteComplete := by
  unfold rowWriteComplete
  split
  · next q _ =>
    dsimp only
    have h := (Still.of_frame (storeRow_frame s q.row (q.data.getD []))).trans (still_imgAnswer _ q .ok
      ((s.storeRow q.row (q.data.getD [])).img.rows.get q.row).checkFlag)
    refine h.andThen ?_
    split
    · unfold restartAfterWrite
      split
      · exact (still_with_img _ _).keeps
      · exact keeps_start _ _ _
    · exact (Still.of_frame (takeWaiting_frame _ _)).keeps
  · exact id

theorem keeps_portBreak (s : State) (p : Port) : KeepsQuiet s (s.portBreak p) := by
  unfold portBreak
  split
  · exact id
  have hd : Still s (s.dropReplies p) := ⟨rfl, fun _ q => { q with }⟩
  have hr : Still s (s.resetPort p) := (hd.trans (still_setPort _ _ _)).trans (still_record _ _)
  refine hr.andThen ?_
  unfold restartFor
  split
  · exact keeps_start _ _ _
  · exact id

/-! ## Requests -/

theorem still_liftPlain (s : State) (a : Asker) (o : Order) : Still s (liftPlain a o s) :=
  ((still_retire s _ _).trans (.of_frame (suppressFor_frame _ _))).trans (still_answer _ _ _ _)

end Sys2Proof.Machine.State
end

section
/-! ## The frames of the owners that answer under a valid map alone -/

set_option Elab.async false

namespace Sys2Proof.Machine.State

theorem postReply_frame (s : State) (a : Asker) (mask : Nat) (b : Bool) (n : Nat) (st : OrderState) :
    Frame [.prt] s (postReply a mask b n st s) := by
  unfold postReply
  split
  · exact answer_frame s _ _ _
  · exact answer_frame s _ _ _

theorem orderPost_frame (s : State) (a : Asker) (args : List Byte) :
    Frame [.ord, .rsv, .prt] s (orderPost a args s) := by
  unfold orderPost
  dsimp only
  split
  · split
    · exact Frame.step (postReply_frame _ _ _ _ _ _) (renewOrder_frame s _ _)
    split
    · exact (answer_frame s _ _ _).mono
    · exact Frame.step (postReply_frame _ _ _ _ _ _) (admitOrder_frame s _)
  · exact (answer_frame s _ _ _).mono
  · exact (answer_frame s _ _ _).mono

theorem liftLinked_frame (s : State) (a : Asker) (o : Order) (k : Fin 12) :
    Frame [.avp, .ord, .rsv, .prt] s (liftLinked a o k s) := by
  unfold liftLinked
  dsimp only
  split
  · split
    · exact Frame.step (answer_frame _ _ _ _) (clearPath_frame s _ _)
    · exact (answer_frame s _ _ _).mono
  split
  · split
    · exact Frame.step (answer_frame _ _ _ _) (endHold_frame s _ _)
    · exact (answer_frame s _ _ _).mono
  · exact Frame.step (answer_frame _ _ _ _) ((retire_frame s _ _).mono)

theorem pathClear_frame (s : State) (a : Asker) (args : List Byte) :
    Frame [.avp, .ord, .rsv, .prt] s (pathClear a args s) := by
  have refused : ∀ rc, Frame [.avp, .ord, .rsv, .prt] s (s.answer a rc []) := fun rc => (answer_frame s a rc []).mono
  unfold pathClear
  split
  · exact refused _
  split
  · exact refused _
  split
  · exact refused _
  split
  · exact Frame.step (answer_frame _ _ _ _) (clearPath_frame s _ _)
  · exact refused _
  · exact refused _

theorem pathEndHold_frame (s : State) (a : Asker) (args : List Byte) :
    Frame [.avp, .ord, .rsv, .prt] s (pathEndHold a args s) := by
  have refused : ∀ rc, Frame [.avp, .ord, .rsv, .prt] s (s.answer a rc []) := fun rc => (answer_frame s a rc []).mono
  unfold pathEndHold
  split
  · exact refused _
  split
  · exact refused _
  split
  · exact refused _
  split
  · exact refused _
  · exact Frame.step (answer_frame _ _ _ _) (endHold_frame s _ _)

theorem pathHold_frame (s : State) (a : Asker) (args : List Byte) :
    Frame [.avp, .ord, .rsv, .prt] s (pathHold a args s) := by
  have refused : ∀ rc, Frame [.avp, .ord, .rsv, .prt] s (s.answer a rc []) := fun rc => (answer_frame s a rc []).mono
  unfold pathHold
  split
  · exact refused _
  split
  · exact refused _
  split
  · exact refused _
  split
  · exact refused _
  · exact Frame.step (testPath_frame _ _ _) (Frame.step (answer_frame _ _ _ _) (Frame.step (setPath_frame _ _ _)
      ((admitOrder_frame s _).mono)))

theorem gateReset_frame (s : State) (a : Asker) (args : List Byte) :
    Frame [.gtc, .avp, .prt] s (gateReset a args s) := by
  unfold gateReset
  split
  · exact (answer_frame s _ _ _).mono
  split
  · exact (answer_frame s _ _ _).mono
  dsimp only
  split
  · exact (answer_frame s _ _ _).mono
  · exact Frame.step (answer_frame _ _ _ _) (moveGate_frame s _ _)

theorem gateInhibit_frame (s : State) (a : Asker) (args : List Byte) :
    Frame [.gtc, .avp, .prt] s (gateInhibit a args s) := by
  have answered : ∀ rc d, Frame [.gtc, .avp, .prt] s (s.answer a rc d) := fun rc d => (answer_frame s a rc d).mono
  unfold gateInhibit
  split
  · exact answered _ _
  split
  · exact answered _ _
  dsimp only
  split
  · split
    · exact Frame.step (answer_frame _ _ _ _) (moveGate_frame s _ _)
    · exact answered _ _
  · split
    · exact answered _ _
    split
    · exact answered _ _
    · exact Frame.step (answer_frame _ _ _ _) (moveGate_frame s _ _)
  · exact answered _ _

theorem signPageRead_frame (s : State) (a : Asker) (args : List Byte) :
    Frame [.scp, .flc, .prt] s (signPageRead a args s) := by
  have answered : ∀ rc d, Frame [.scp, .flc, .prt] s (s.answer a rc d) := fun rc d => (answer_frame s a rc d).mono
  unfold signPageRead
  dsimp only
  split
  · split
    · split
      · exact answered _ _
      split
      · exact (portAsks_frame s _ _).mono
      · exact answered _ _
    · exact answered _ _
  · exact answered _ _

/-! ## Requests on a device without a valid map -/

/-- A request that is refused under MAP_INVALID (R13, R33, R101, R122, R123). -/
theorem still_of_refusal {l : List Field} {s t : State} (a : Asker) (h : Frame l s t)
    (k : s.map.valid = false → t = s.answer a .mapInvalid []) (hn : l.contains .map = false := by rfl) : Still s t :=
  .of_quiet h (fun hv _ => by rw [k hv]; exact still_answer s a _ _) hn

theorem still_orderPost (s : State) (a : Asker) (args : List Byte) : Still s (orderPost a args s) :=
  still_of_refusal a (orderPost_frame s a args) fun hv => by simp [orderPost, postRefusal, hv]

theorem still_pathClear (s : State) (a : Asker) (args : List Byte) : Still s (pathClear a args s) :=
  still_of_refusal a (pathClear_frame s a args) fun hv => by simp [pathClear, hv]

theorem still_pathEndHold (s : State) (a : Asker) (args : List Byte) : Still s (pathEndHold a args s) :=
  still_of_refusal a (pathEndHold_frame s a args) fun hv => by simp [pathEndHold, hv]

theorem still_pathHold (s : State) (a : Asker) (args : List Byte) : Still s (pathHold a args s) :=
  still_of_refusal a (pathHold_frame s a args) fun hv => by simp [pathHold, hv]

theorem still_gateReset (s : State) (a : Asker) (args : List Byte) : Still s (gateReset a args s) :=
  still_of_refusal a (gateReset_frame s a args) fun hv => by simp [gateReset, hv]

theorem still_gateInhibit (s : State) (a : Asker) (args : List Byte) : Still s (gateInhibit a args s) :=
  still_of_refusal a (gateInhibit_frame s a args) fun hv => by simp [gateInhibit, hv]

theorem still_liftLinked (s : State) (hv : s.map.valid = true) (a : Asker) (o : Order) (k : Fin 12) :
    Still s (liftLinked a o k s) :=
  .of_quiet (liftLinked_frame s a o k) fun h _ => absurd (hv.symm.trans h) (by decide)

/-- Without a valid map only an entry without a path link is lifted (R33). -/
theorem still_orderLift (s : State) (a : Asker) (args : List Byte) : Still s (orderLift a args s) := by
  unfold orderLift
  split
  · exact still_answer ..
  split
  · exact still_answer ..
  split
  · exact ((still_retire s _ _).trans (.of_frame (suppressFor_frame _ _))).trans (still_answer _ _ _ _)
  split
  · exact still_answer ..
  next hv =>
  split
  · exact still_liftLinked s (by simpa using hv) ..
  · exact (still_retire s _ _).trans (still_answer _ _ _ _)

/-- Without a valid map a page read is answered at once (R15). -/
theorem still_signPageRead (s : State) (a : Asker) (args : List Byte) : Still s (signPageRead a args s) := by
  refine .of_quiet (signPageRead_frame s a args) fun hv _ => ?_
  unfold signPageRead
  simp only [valid, hv, Bool.false_eq_true, if_false]
  split
  · split
    · split
      · exact still_answer ..
      · exact still_answer ..
    · exact still_answer ..
  · exact still_answer ..

theorem still_imgTake (s : State) (q : ImgReq) : Still s (s.imgTake q) := .of_frame (imgTake_frame s q)

theorem still_trimSet (s : State) (a : Asker) (args : List Byte) : Still s (trimSet a args s) := by
  unfold trimSet
  split
  · exact (Still.of_frame (Frame.with_mea (l := [.mea]) (Frame.refl _ s))).trans (still_answer _ _ _ _)
  · exact still_answer ..
  · exact still_answer ..

theorem still_timeSet (s : State) (a : Asker) (args : List Byte) : Still s (timeSet a args s) :=
  ((still_jumpTo s _).trans (.of_frame (clearTimeUnset_frame _))).trans (still_answer _ _ _ _)

/-- R161: every owner keeps a device without a valid map quiet. -/
theorem keeps_serveOwner (s : State) (r : Request) (a : Asker) (args : List Byte) :
    KeepsQuiet s (serveOwner r a args s) := by
  have answered : ∀ rc d, KeepsQuiet s (s.answer a rc d) := fun rc d => (still_answer s a rc d).keeps
  cases r with
  | orderPost => exact (still_orderPost s a args).keeps
  | orderLift => exact (still_orderLift s a args).keeps
  | trimSet => exact (still_trimSet s a args).keeps
  | pathHold => exact (still_pathHold s a args).keeps
  | pathEndHold => exact (still_pathEndHold s a args).keeps
  | pathClear => exact (still_pathClear s a args).keeps
  | gateInhibit => exact (still_gateInhibit s a args).keeps
  | gateReset => exact (still_gateReset s a args).keeps
  | signPageRead => exact (still_signPageRead s a args).keeps
  | timeSet => exact (still_timeSet s a args).keeps
  | imageRead => exact (still_imgTake s _).keeps
  | imageWrite => exact (still_imgTake s _).keeps
  | restart =>
    change KeepsQuiet s s.restartRequest
    unfold restartRequest
    split
    · exact (still_with_img s _).keeps
    · exact keeps_start s s _
  | orderList => exact answered _ _
  | timeRead => exact answered _ _
  | portStatus => exact answered _ _
  | orderRead =>
    change KeepsQuiet s (orderRead a args s)
    unfold orderRead
    split <;> exact answered _ _
  | aspectRead =>
    change KeepsQuiet s (aspectRead a args s)
    unfold aspectRead
    split <;> exact answered _ _
  | channelRead =>
    change KeepsQuiet s (channelRead a args s)
    unfold channelRead
    split <;> exact answered _ _
  | stationRead =>
    change KeepsQuiet s (stationRead a args s)
    unfold stationRead
    dsimp only
    (repeat' split) <;> exact answered _ _
  | pathRead =>
    change KeepsQuiet s (pathRead a args s)
    unfold pathRead
    dsimp only
    (repeat' split) <;> exact answered _ _
  | gateRead =>
    change KeepsQuiet s (gateRead a args s)
    unfold gateRead
    dsimp only
    (repeat' split) <;> exact answered _ _
  | signRead =>
    change KeepsQuiet s (signRead a args s)
    unfold signRead
    dsimp only
    (repeat' split) <;> exact answered _ _

theorem keeps_serve (s : State) (p : Port) (body : List Byte) : KeepsQuiet s (s.serve p body) := by
  unfold serve
  dsimp only
  split
  · exact (still_answer s _ _ _).keeps
  split
  · exact (still_answer s _ _ _).keeps
  split
  · exact (still_answer s _ _ _).keeps
  · exact keeps_serveOwner s _ _ _

theorem keeps_serveNext (s : State) (p : Port) : KeepsQuiet s (s.serveNext p) := by
  unfold serveNext
  split
  · exact (still_setPort s p _).andThen (keeps_serve _ p _)
  · exact id

theorem keeps_receiveRequest (s : State) (r : Request) (p : Port) (tag : Byte) (args : List Byte) :
    KeepsQuiet s (s.receiveRequest r p tag args) := by
  unfold receiveRequest
  split
  · exact (still_setPort s p _).andThen (keeps_serveNext _ p)
  · exact id

theorem keeps_receiveByte (s : State) (p : Port) (b : Byte) : KeepsQuiet s (s.receiveByte p b) :=
  (still_setPort s p _).andThen (keeps_serveNext _ p)

theorem keeps_frameDiscard (s : State) (p : Port) (c : DiscardCause) : KeepsQuiet s (s.frameDiscard p c) := by
  have hd := still_setPort s p ((s.port p).discard c)
  unfold frameDiscard
  split
  · exact id
  cases c with
  | gap b => exact hd.andThen (keeps_receiveByte _ p b)
  | overrun => exact (hd.trans (still_setPort _ _ _)).keeps
  | check => exact hd.keeps
  | length => exact hd.keeps
  | character => exact hd.keeps

theorem keeps_replyPlace (s : State) (p : Port) : KeepsQuiet s (s.replyPlace p) := by
  unfold replyPlace
  split
  · refine (still_setPort s p (s.port p).placeReply).andThen ?_
    unfold replyPlaced
    split
    · exact keeps_start _ _ _
    · exact keeps_serveNext _ p
  · exact id

theorem still_openLimitAccepted (s : State) (g : Fin 8) (v : Bool) : Still s (s.openLimitAccepted g v) := by
  apply still_pinChange
  exact fun _ => ⟨rfl, rfl⟩

theorem still_closedLimitAccepted (s : State) (g : Fin 8) (v : Bool) : Still s (s.closedLimitAccepted g v) := by
  apply still_pinChange
  exact fun _ => ⟨rfl, rfl⟩

theorem still_obstructionAccepted (s : State) (g : Fin 8) (v : Bool) : Still s (s.obstructionAccepted g v) := by
  apply still_pinChange
  exact fun _ => ⟨rfl, rfl⟩

theorem still_rxFifoOverrun (s : State) (p : Port) : Still s (s.rxFifoOverrun p) := .of_frame (rxFifoOverrun_frame s p)

/-! ## The step -/

/-- A command that acts on a powered device alone. -/
theorem keeps_whenPowered (s : State) (f : State → State) (h : KeepsQuiet s (f s)) : KeepsQuiet s (s.whenPowered f) := by
  unfold whenPowered
  split
  · exact h
  · exact id

theorem still_whenPowered (s : State) (f : State → State) (h : Still s (f s)) : KeepsQuiet s (s.whenPowered f) :=
  keeps_whenPowered s f h.keeps

/-- Every command answers a next state and keeps a device without a valid map quiet. -/
theorem exec_keepsQuiet (s : State) (c : Instr) : ∃ t, exec c s = .next t ∧ KeepsQuiet s t := by
  cases c with
  | orderPost p tag args => exact ⟨_, rfl, keeps_receiveRequest s _ p tag args⟩
  | orderLift p tag args => exact ⟨_, rfl, keeps_receiveRequest s _ p tag args⟩
  | orderRead p tag args => exact ⟨_, rfl, keeps_receiveRequest s _ p tag args⟩
  | orderList p tag args => exact ⟨_, rfl, keeps_receiveRequest s _ p tag args⟩
  | aspectRead p tag args => exact ⟨_, rfl, keeps_receiveRequest s _ p tag args⟩
  | stationRead p tag args => exact ⟨_, rfl, keeps_receiveRequest s _ p tag args⟩
  | channelRead p tag args => exact ⟨_, rfl, keeps_receiveRequest s _ p tag args⟩
  | trimSet p tag args => exact ⟨_, rfl, keeps_receiveRequest s _ p tag args⟩
  | pathRead p tag args => exact ⟨_, rfl, keeps_receiveRequest s _ p tag args⟩
  | pathHold p tag args => exact ⟨_, rfl, keeps_receiveRequest s _ p tag args⟩
  | pathEndHold p tag args => exact ⟨_, rfl, keeps_receiveRequest s _ p tag args⟩
  | pathClear p tag args => exact ⟨_, rfl, keeps_receiveRequest s _ p tag args⟩
  | gateRead p tag args => exact ⟨_, rfl, keeps_receiveRequest s _ p tag args⟩
  | gateInhibit p tag args => exact ⟨_, rfl, keeps_receiveRequest s _ p tag args⟩
  | gateReset p tag args => exact ⟨_, rfl, keeps_receiveRequest s _ p tag args⟩
  | signRead p tag args => exact ⟨_, rfl, keeps_receiveRequest s _ p tag args⟩
  | signPageRead p tag args => exact ⟨_, rfl, keeps_receiveRequest s _ p tag args⟩
  | timeSet p tag args => exact ⟨_, rfl, keeps_receiveRequest s _ p tag args⟩
  | timeRead p tag args => exact ⟨_, rfl, keeps_receiveRequest s _ p tag args⟩
  | imageRead p tag args => exact ⟨_, rfl, keeps_receiveRequest s _ p tag args⟩
  | imageWrite p tag args => exact ⟨_, rfl, keeps_receiveRequest s _ p tag args⟩
  | restart p tag args => exact ⟨_, rfl, keeps_receiveRequest s _ p tag args⟩
  | portStatus p tag args => exact ⟨_, rfl, keeps_receiveRequest s _ p tag args⟩
  | frameDiscard p c => exact ⟨_, rfl, keeps_whenPowered s _ (keeps_frameDiscard s p c)⟩
  | strayByte p b => exact ⟨_, rfl, keeps_whenPowered s _ (keeps_receiveByte s p b)⟩
  | xoff p => exact ⟨_, rfl, keeps_whenPowered s _ (keeps_receiveByte s p _)⟩
  | xon p => exact ⟨_, rfl, keeps_whenPowered s _ (keeps_receiveByte s p _)⟩
  | portBreak p => exact ⟨_, rfl, keeps_whenPowered s _ (keeps_portBreak s p)⟩
  | replyPlace p => exact ⟨_, rfl, keeps_whenPowered s _ (keeps_replyPlace s p)⟩
  | noticeSend p => exact ⟨_, rfl, still_whenPowered s _ (still_setPort s p _)⟩
  | portFrameSent p => exact ⟨_, rfl, still_whenPowered s _ (still_setPort s p _)⟩
  | rxFifoOverrun p => exact ⟨_, rfl, still_whenPowered s _ (still_rxFifoOverrun s p)⟩
  | breakEnd p => exact ⟨_, rfl, still_whenPowered s _ (still_setPort s p _)⟩
  | clockTick => exact ⟨_, rfl, (still_clockTick s).keeps⟩
  | passBegin => exact ⟨_, rfl, still_whenPowered s _ (still_passBegin s)⟩
  | passCompletion => exact ⟨_, rfl, still_whenPowered s _ (still_passCompletion s)⟩
  | scanTimerExpiry => exact ⟨_, rfl, still_whenPowered s _ (.of_frame (scanTimerExpiry_frame s))⟩
  | comparatorTrip n => exact ⟨_, rfl, still_whenPowered s _ (still_conversionEnd s _ _)⟩
  | countOverflow => exact ⟨_, rfl, still_whenPowered s _ (still_conversionEnd s _ _)⟩
  | improvementTimerExpiry k => exact ⟨_, rfl, still_whenPowered s _ (still_improvementExpiry s k)⟩
  | anemometerEdge i n h => exact ⟨_, rfl, still_whenPowered s _ (.of_frame (anemometerEdge_frame s i n.val h))⟩
  | anemometerCalm i => exact ⟨_, rfl, still_whenPowered s _ (.of_frame (anemometerCalm_frame s i))⟩
  | windSample => exact ⟨_, rfl, still_whenPowered s _ (still_windSample s)⟩
  | acceptedZone l z => exact ⟨_, rfl, still_whenPowered s _ (still_acceptedZone s l z)⟩
  | confirmTimerExpiry k => exact ⟨_, rfl, still_whenPowered s _ (still_confirmExpiry s k)⟩
  | loopSample v => exact ⟨_, rfl, still_whenPowered s _ (still_loopSample s v)⟩
  | openLimitAccepted g v => exact ⟨_, rfl, (still_openLimitAccepted s g v).keeps⟩
  | closedLimitAccepted g v => exact ⟨_, rfl, (still_closedLimitAccepted s g v).keeps⟩
  | obstructionAccepted g v => exact ⟨_, rfl, (still_obstructionAccepted s g v).keeps⟩
  | signWaitExpiry g => exact ⟨_, rfl, still_whenPowered s _ (still_signWaitExpiry s g)⟩
  | countdownEnd g => exact ⟨_, rfl, still_whenPowered s _ (still_onGate s g _)⟩
  | travelTimerExpiry g => exact ⟨_, rfl, still_whenPowered s _ (still_onGate s g _)⟩
  | retryDelayExpiry g => exact ⟨_, rfl, still_whenPowered s _ (still_onGate s g _)⟩
  | deadTimeEnd g => exact ⟨_, rfl, still_whenPowered s _ (still_onGate s g _)⟩
  | dutyPeriodEnd g => exact ⟨_, rfl, still_whenPowered s _ (still_onGate s g _)⟩
  | lanternFrameBoundary => exact ⟨_, rfl, still_whenPowered s _ (still_lanternBoundary s)⟩
  | composerTake => exact ⟨_, rfl, still_whenPowered s _ (still_composerTake s)⟩
  | compositionEnd => exact ⟨_, rfl, still_whenPowered s _ (still_compositionEnd s)⟩
  | pageMemoryAccessEnd => exact ⟨_, rfl, still_whenPowered s _ (still_pageMemoryAccessEnd s)⟩
  | pollTimerExpiry i => exact ⟨_, rfl, still_whenPowered s _ (still_pollTimerExpiry s i)⟩
  | pageTransfer l => exact ⟨_, rfl, still_whenPowered s _ (still_pageTransfer s l)⟩
  | lampTransfer l => exact ⟨_, rfl, still_whenPowered s _ (still_lampTransfer s l)⟩
  | brightnessJob l => exact ⟨_, rfl, still_whenPowered s _ (still_brightnessJob s l)⟩
  | poll l => exact ⟨_, rfl, still_whenPowered s _ (still_poll s l)⟩
  | pageBlock l => exact ⟨_, rfl, still_whenPowered s _ (still_pageBlock s l)⟩
  | fieldFrameSent l => exact ⟨_, rfl, still_whenPowered s _ (still_fieldFrameSent s l)⟩
  | confirm l q => exact ⟨_, rfl, still_whenPowered s _ (still_confirm s l q)⟩
  | status l q => exact ⟨_, rfl, still_whenPowered s _ (still_status s l q)⟩
  | replyLimitExpiry l => exact ⟨_, rfl, still_whenPowered s _ (still_replyLimitExpiry s l)⟩
  | invalidReply l c => exact ⟨_, rfl, still_whenPowered s _ (still_invalidReply s l c)⟩
  | strayCharacter l c => exact ⟨_, rfl, still_whenPowered s _ (still_strayCharacter s l c)⟩
  | rowWriteComplete => exact ⟨_, rfl, keeps_whenPowered s _ (keeps_rowWriteComplete s)⟩
  | powerUp kept => exact ⟨_, rfl, keeps_powerUp s kept⟩
  | resetPin => exact ⟨_, rfl, keeps_resetPin s⟩
  | mainPowerLoss => exact ⟨_, rfl, (still_mainPowerLoss s).keeps⟩

/-- A change of the queue of waiting commands is no change of the device. -/
theorem still_with_pending (s : State) (q : List Instr) : Still s { s with pending := q } := ⟨rfl, fun _ h => { h with }⟩

end Sys2Proof.Machine.State

namespace Sys2Proof.Machine

/-- Settles O9: every command, and every second, either keeps the map state and the quiet parts, or is a start, which sets
them anew. -/
theorem quietWithoutMapKept : Obligations.QuietWithoutMapKept := by
  intro s t hs ht
  unfold step at ht
  split at ht
  · next c rest _ =>
    obtain ⟨u, hu, hk⟩ := State.exec_keepsQuiet { s with pending := rest } c
    rw [hu] at ht
    cases ht
    exact (State.still_with_pending s rest).andThen hk hs
  · cases ht
    exact (State.still_idle s).keeps hs

end Sys2Proof.Machine
end

section
/-! ## Requests that a listening port takes -/

set_option Elab.async false

namespace Sys2Proof.Machine

theorem finOf_val {n : Nat} (k : Fin n) : finOf n k.val = some k := by simp [finOf]

theorem finOf_above {n m : Nat} (h : n ≤ m) : finOf n m = none := by
  unfold finOf
  rw [dif_neg (by omega)]

/-- A request that its port takes at once is what its owner makes of it. -/
theorem exec_taken {s : State} {r : Request} {p : Port} {args : List Byte} (h : s.takes p r args) (tag : Byte) :
    exec (r.command p tag args) s = .next (serveOwner r ⟨p, r.code, tag⟩ args (s.serving p)) := by
  rw [exec_command, State.receive_taken h]

/-! ## Record reads -/

section Reads
variable {a : Asker} {args : List Byte} {s : State}

theorem stationRead_served {k : Fin 6} (hk : get8 args 0 = k.val) (hb : k.val < readBound s s.img.counts.stations 6) :
    stationRead a args s = s.answer a .ok
      (recordBytes s s.img.counts.stations rowOfStation k.val ++ (s.cnd[k]).bytes ++ spanBytes (s.img.span k.val) ++
        (s.surfaceChan k).stationBytes ++ (s.airChan k).stationBytes ++ put16 s.mea.scanNumber ++ s.windBytes k ++
        mapStateTail s) := by
  simp only [stationRead, hk, finOf_val, if_pos hb]

theorem stationRead_beyond (h : readBound s s.img.counts.stations 6 ≤ get8 args 0) :
    stationRead a args s = s.answer a .badRange [] := by
  unfold stationRead
  dsimp only
  split
  · rw [if_neg (by omega)]
  · rfl

theorem pathRead_served {k : Fin 12} (hk : get8 args 0 = k.val) (hb : k.val < readBound s s.img.counts.paths 12) :
    pathRead a args s = s.answer a .ok
      (recordBytes s s.img.counts.paths rowOfPath k.val ++ reachBytes s (s.path? k.val) ++
        put8 s.avp[k].state.num ++ putOpt8 (s.avp[k].zone.map Zone.num) ++
        putOpt8 (s.avp[k].candidate.map Zone.num) ++ put8 s.avp[k].debounce ++
        putOrderNumber s.avp[k].tripOrder ++ putOrderNumber s.avp[k].holdOrder ++ putOpt16 s.avp[k].timer ++
        putFlag s.avp[k].released ++ put16 s.avp[k].trips ++ Unmet.bytes s.avp[k].unmet ++ mapStateTail s) := by
  simp only [pathRead, hk, finOf_val, if_pos hb]

theorem pathRead_beyond (h : 12 ≤ get8 args 0 ∨ readBound s s.img.counts.paths 12 ≤ get8 args 0) :
    pathRead a args s = s.answer a .badRange [] := by
  unfold pathRead
  dsimp only
  rcases h with h | h
  · rw [finOf_above h]
  · split
    · rw [if_neg (by omega)]
    · rfl

theorem gateRead_served {g : Fin 8} (hg : get8 args 0 = g.val) (hb : g.val < readBound s s.img.counts.gates 8) :
    gateRead a args s = s.answer a .ok
      (recordBytes s s.img.counts.gates rowOfGate g.val ++
        (if (s.gate? g.val).isSome then gateFieldsOut s g.val s.gtc[g] else [0xFF#8]) ++ mapStateTail s) := by
  simp only [gateRead, hg, finOf_val, if_pos hb]

theorem gateRead_beyond (h : 8 ≤ get8 args 0 ∨ readBound s s.img.counts.gates 8 ≤ get8 args 0) :
    gateRead a args s = s.answer a .badRange [] := by
  unfold gateRead
  dsimp only
  rcases h with h | h
  · rw [finOf_above h]
  · split
    · rw [if_neg (by omega)]
    · rfl

theorem signRead_served {i : Fin 24} (hi : get8 args 0 = i.val) (hb : i.val < readBound s s.img.counts.signs 24) :
    signRead a args s = s.answer a .ok
      (recordBytes s s.img.counts.signs rowOfSign i.val ++ s.signScpBytes i ++ s.signFlcBytes i ++ mapStateTail s) := by
  simp only [signRead, hi, finOf_val, if_pos hb]

theorem signRead_beyond (h : 24 ≤ get8 args 0 ∨ readBound s s.img.counts.signs 24 ≤ get8 args 0) :
    signRead a args s = s.answer a .badRange [] := by
  unfold signRead
  dsimp only
  rcases h with h | h
  · rw [finOf_above h]
  · split
    · rw [if_neg (by omega)]
    · rfl

end Reads

/-- A taken request whose owner only answers, with data that do not depend on the port, is answered from the state before. -/
theorem exec_answered {s : State} {r : Request} {p : Port} {args : List Byte} (h : s.takes p r args) (tag : Byte)
    {rc : ReplyCode} {d : List Byte}
    (ha : serveOwner r ⟨p, r.code, tag⟩ args (s.serving p) = (s.serving p).answer ⟨p, r.code, tag⟩ rc d) :
    exec (r.command p tag args) s = .next (s.answer ⟨p, r.code, tag⟩ rc d) := by
  rw [exec_taken h, ha, State.answer_serving]

/-- Settles O53: each read answers the loaded record with the run-time items, or BAD_RANGE. -/
theorem recordReadsReply : Obligations.RecordReadsReply := by
  intro p tag args s
  refine ⟨fun h => ⟨fun k hk hb => ?_, fun hb => ?_⟩, fun h => ⟨fun k hk hb => ?_, fun hb => ?_⟩,
    fun h => ⟨fun g hg hb => ?_, fun hb => ?_⟩, fun h => ⟨fun i hi hb => ?_, fun hb => ?_⟩⟩
  · exact exec_answered h tag (stationRead_served hk hb)
  · exact exec_answered h tag (stationRead_beyond hb)
  · exact exec_answered h tag (pathRead_served hk hb)
  · exact exec_answered h tag (pathRead_beyond hb)
  · exact exec_answered h tag (gateRead_served hg hb)
  · exact exec_answered h tag (gateRead_beyond hb)
  · exact exec_answered h tag (signRead_served hi hb)
  · exact exec_answered h tag (signRead_beyond hb)

end Sys2Proof.Machine
end

section
/-! ## The tests of ORDER_POST (R21) -/

set_option Elab.async false

namespace Sys2Proof.Machine

/-- A notice whose text is not held (R21 step 4). -/
def Content.textless (m : ImgUnit) : Content → Bool
  | .notice id => (m.noticeText id).isNone
  | .close _ | .restrict _ | .avwarn _ | .speed _ => false

theorem Content.textless_notice {m : ImgUnit} {id : Nat} (h : m.noticeText id = none) :
    (Content.notice id).textless m = true := by simp [textless, h]

theorem Content.textless_false {m : ImgUnit} {c : Content} (h : ∀ id, c = .notice id → (m.noticeText id).isSome = true) :
    c.textless m = false := by
  cases c with
  | notice id => simpa [textless, Option.isNone_eq_false_iff] using h id rfl
  | close _ => rfl
  | restrict _ => rfl
  | avwarn _ => rfl
  | speed _ => rfl

section Tests
variable {x : PostArgs} {s : State} {c : Content} {d : Dirs}

theorem postRefusal_mapInvalid (hv : s.map.valid = false) : postRefusal x s = some .mapInvalid := by
  simp [postRefusal, hv]

theorem postRefusal_badRange (hv : s.map.valid = true) (hr : ¬(x.first ≤ x.last ∧ x.last < s.img.nseg)) :
    postRefusal x s = some .badRange := by
  simp only [postRefusal, State.valid, hv, if_pos hr]
  rfl

/-- The tests behind the map state and the range. -/
theorem postRefusal_inRange (hv : s.map.valid = true) (hr : x.first ≤ x.last ∧ x.last < s.img.nseg)
    (hc : contentOf x.kind x.value = some c) (hd : dirsOf x.dirs = some d) : postRefusal x s =
      if x.duration = some 0 then some .badValue
      else if c.textless s.img then some .noText
      else if x.start.isSome ∧ s.img.timeUnset then some .timeUnset
      else if (draftOrder .centre c d x s.now).ended s.now then some .alreadyEnded
      else none := by
  simp only [postRefusal, State.valid, hv, if_neg (not_not.mpr hr), hc, hd]
  cases c <;> rfl

theorem postRefusal_badValue (hv : s.map.valid = true) (hr : x.first ≤ x.last ∧ x.last < s.img.nseg)
    (h : contentOf x.kind x.value = none ∨ dirsOf x.dirs = none ∨ x.duration = some 0) :
    postRefusal x s = some .badValue := by
  cases hc : contentOf x.kind x.value with
  | none => simp [postRefusal, hv, hr, hc]
  | some c =>
    cases hd : dirsOf x.dirs with
    | none => simp [postRefusal, hv, hr, hc, hd]
    | some d =>
      rw [hc, hd] at h
      rw [postRefusal_inRange hv hr hc hd, if_pos (by simpa using h)]

end Tests

theorem orderPost_refused {a : Asker} {args : List Byte} {s : State} {rc : ReplyCode}
    (h : postRefusal (parsePost args) s = some rc) : orderPost a args s = s.answer a rc [] := by
  simp only [orderPost, h]

/-- A post that passes the tests of R21 and renews nothing needs room (R18). -/
theorem orderPost_noRoom {a : Asker} {args : List Byte} {s : State} {c : Content} {d : Dirs} {rc : ReplyCode}
    (h : postRefusal (parsePost args) s = none) (hc : contentOf (parsePost args).kind (parsePost args).value = some c)
    (hd : dirsOf (parsePost args).dirs = some d)
    (hn : s.ord.renewal (draftOrder a.port c d (parsePost args) s.now) = none)
    (hr : roomRefusal a.port.issuer s = some rc) : orderPost a args s = s.answer a rc [] := by
  have hi : (draftOrder a.port c d (parsePost args) s.now).issuer = a.port.issuer := rfl
  simp only [orderPost, h, hc, hd, hn, hi, hr]

/-- Settles O23: under the earlier tests passing each test that fails gives its reply. -/
theorem postRefusedInOrder : Obligations.PostRefusedInOrder := by
  intro p tag args s x h hx
  subst hx
  have refused : ∀ rc, postRefusal (parsePost args) s = some rc →
      exec (.orderPost p tag args) s = .next (s.answer ⟨p, 0x01, tag⟩ rc []) := fun rc hr =>
    exec_answered h tag (orderPost_refused (s := s.serving p) hr)
  refine ⟨fun hv => refused _ (postRefusal_mapInvalid hv), fun hv => ⟨fun hr => refused _ (postRefusal_badRange hv hr),
    fun hr => ⟨fun hb => refused _ (postRefusal_badValue hv hr hb), fun c d hc hd h0 => ?_⟩⟩⟩
  have tests := postRefusal_inRange hv hr hc hd
  rw [if_neg h0] at tests
  refine ⟨fun id hid ht => refused _ ?_, fun htext => ?_⟩
  · subst hid
    rw [tests, if_pos (Content.textless_notice ht)]
  have issuer : (draftOrder .centre c d (parsePost args) s.now).ended s.now =
      (draftOrder p c d (parsePost args) s.img.clock).ended s.img.clock := rfl
  rw [Content.textless_false htext, issuer] at tests
  refine ⟨fun ht => refused _ (by rw [tests]; simp [ht]), fun ht => ⟨fun he => refused _ ?_, fun he hren => ?_⟩⟩
  · rw [tests, if_neg (by simp), if_neg ht, if_pos he]
  have passes : postRefusal (parsePost args) s = none := by
    rw [tests, if_neg (by simp), if_neg ht, if_neg (by rw [Bool.not_eq_true]; exact he)]
  have noRoom : ∀ rc, roomRefusal p.issuer s = some rc →
      exec (.orderPost p tag args) s = .next (s.answer ⟨p, 0x01, tag⟩ rc []) := fun rc hr =>
    exec_answered h tag (orderPost_noRoom (s := s.serving p) passes hc hd hren hr)
  refine ⟨fun hq => noRoom _ (if_pos hq), fun hq hp => noRoom _ ?_⟩
  rw [roomRefusal, if_neg (by omega), if_pos hp]

end Sys2Proof.Machine
end

section
/-! ## Accepted zones (R94 to R98, R104, R106) -/

set_option Elab.async false

namespace Sys2Proof.Machine

/-- The path with an accepted zone recorded (R94). -/
def Path.accepted (z : Zone) (p : Path) : Path := { p with zone := some z, candidate := none, debounce := 0 }

namespace State

theorem setPath_same {s : State} {k : Fin 12} {x : Path} (h : s.avp[k] = x) : s.setPath k x = s := by
  subst h
  simp [setPath]

/-- What an accepted zone of path `k` records, where `st` is the path state that follows: the zone, LOOP_ZONE, and
PATH_LINE_FAULT for a line fault (R94). -/
def zoneRecorded (k l : Fin 12) (z : Zone) (st : PathState) (s : State) : State :=
  let s1 := (s.setPath k (s.avp[k].accepted z)).record (.loopZone l.val k.val z st)
  if zoneIsFault z then s1.record (.pathLineFault k.val l.val z) else s1

theorem zoneRecorded_frame (k l : Fin 12) (z : Zone) (st : PathState) (s : State) :
    Frame [.avp, .prt] s (s.zoneRecorded k l z st) := by
  have h : Frame [.avp, .prt] s ((s.setPath k (s.avp[k].accepted z)).record (.loopZone l.val k.val z st)) :=
    Frame.step (record_frame _ _) ((setPath_frame s _ _).mono)
  unfold zoneRecorded
  dsimp only
  split
  · exact Frame.step (record_frame _ _) h
  · exact h

theorem zoneRecorded_path (k l : Fin 12) (z : Zone) (st : PathState) (s : State) :
    (s.zoneRecorded k l z st).avp[k] = s.avp[k].accepted z := by
  unfold zoneRecorded
  dsimp only
  split <;> simp

/-- R16: under MAP_INVALID the record is all. -/
theorem acceptZone_invalid {s : State} (hv : s.map.valid = false) (k : Fin 12) (r : PathRec) (l : Fin 12) (z : Zone) :
    s.acceptZone k r l z = s.zoneRecorded k l z s.avp[k].state := by
  simp only [acceptZone, valid, hv]
  rfl

theorem acceptZone_valid {s : State} (hv : s.map.valid = true) (k : Fin 12) (r : PathRec) (l : Fin 12) (z : Zone) :
    s.acceptZone k r l z =
      (s.zoneRecorded k l z (stateAfterZone r s.avp[k] z)).zoneEffect k r s.avp[k] z := by
  simp only [acceptZone, valid, hv, if_true]
  rfl

/-! ### What the zone does to the path, state by state

`u` is the device with the zone recorded, and `old` the path as it was before. -/

section Effect
variable {u : State} {k : Fin 12} {r : PathRec} {old : Path} {z : Zone}

/-- A trip of a path in QUIET creates the TRIP order (R96). -/
theorem zoneEffect_quiet (hs : old.state = .quiet) (ha : actsAsTrip r z = true) : u.zoneEffect k r old z =
    ((tripCreate k.val r u).2.setPath k { u.avp[k] with
      state := .tripped, tripOrder := some (tripCreate k.val r u).1, trips := old.tripped1, released := false }).record
        (.pathTripped k.val (some (tripCreate k.val r u).1) old.tripped1) := by
  simp only [zoneEffect, hs, ha]

/-- A path in LATCHED trips again (R97). -/
theorem zoneEffect_latched (hs : old.state = .latched) (ha : actsAsTrip r z = true) : u.zoneEffect k r old z =
    (u.setPath k { u.avp[k] with state := .tripped, trips := old.tripped1 }).record
      (.pathTripped k.val old.tripOrder old.tripped1) := by
  simp only [zoneEffect, hs, ha]

/-- A trip fails a pending hold (R104). -/
theorem zoneEffect_pending (hs : old.state = .holdPending) (ha : actsAsTrip r z = true) : u.zoneEffect k r old z =
    (((tripCreate k.val r u).2.setPath k { u.avp[k] with
      state := .tripped, tripOrder := some (tripCreate k.val r u).1, holdOrder := none, timer := none
      trips := old.tripped1, released := false, unmet := some .tripped }).record
        (.pathTripped k.val (some (tripCreate k.val r u).1) old.tripped1)).record
          (.holdFailed k.val old.holdOrder (some .tripped)) := by
  simp only [zoneEffect, hs, ha]

/-- A trip in HOLD is the planned release, any other zone nothing (R106). -/
theorem zoneEffect_hold (hs : old.state = .hold) : u.zoneEffect k r old z =
    if z = .trip then (u.setPath k { u.avp[k] with released := true, trips := old.tripped1 }).record
      (.pathReleased k.val old.holdOrder old.tripped1)
    else u := by
  simp only [zoneEffect, hs]

/-- In TRIPPED, and where the zone does not act as a trip, only the state of the path can change. -/
theorem zoneEffect_state (hs : old.state ≠ .hold) (ha : old.state = .tripped ∨ actsAsTrip r z = false) :
    u.zoneEffect k r old z = u.setPath k { u.avp[k] with state := stateAfterZone r old z } := by
  unfold zoneEffect
  split
  · next hq hz => rcases ha with h | h <;> simp_all
  · next hq hz => rcases ha with h | h <;> simp_all
  · next hq hz => rcases ha with h | h <;> simp_all
  · next hh => exact absurd hh hs
  · rfl

end Effect

theorem tripCreate_standing {k : Nat} {r : PathRec} {u : State} {e : Order} (h : u.ord.tripEntry k = some e) :
    tripCreate k r u = (e.number, u) := by
  simp only [tripCreate, h]

theorem tripCreate_new {k : Nat} {r : PathRec} {u : State} (h : u.ord.tripEntry k = none) :
    tripCreate k r u = (freeNumber u.ord 65 u.ord.counter, u.admitOrder (pathDraft .trip true k r)) := by
  simp only [tripCreate, h]
  rfl

/-- What an admission does, for every draft (R19, R20, R26). -/
theorem admitOrder_eq (o : Order) (s : State) : s.admitOrder o = ({ s with
    ord := { table := s.ord.table.takeWhile (fun y => decide (y.number ≤ (s.newEntry o).number)) ++
               s.newEntry o :: s.ord.table.dropWhile (fun y => decide (y.number ≤ (s.newEntry o).number))
             counter := (s.newEntry o).number
             stamps := if o.state = .active then nextStamp s.ord.stamps else s.ord.stamps }
    rsv := { s.rsv with dirty := true } } : State).record (.orderAdmitted (s.newEntry o)) := by
  have hstamp : (if o.state = .active then (s.newEntry o).stamp else s.ord.stamps) =
      (if o.state = .active then nextStamp s.ord.stamps else s.ord.stamps) := by
    split
    · next h => simp only [newEntry, h, if_true]
    · rfl
  simp only [admitOrder, hstamp, insertOrder_split]
  rfl

end State

/-! ### The samples of a loop (R94) -/

theorem completes_iff (p : Path) (n : Nat) (z : Zone) : p.completes n z = true ↔
    p.zone ≠ some z ∧ n ≤ (if p.candidate = some z then p.debounce + 1 else 1) := by
  unfold Path.completes Path.sample
  by_cases hz : p.zone = some z
  · simp [hz]
  · by_cases hc : p.candidate = some z <;> simp [hz, hc]

theorem zoneIsFault_iff (z : Zone) : zoneIsFault z = true ↔ z = .short ∨ z = .opened := by
  cases z <;> decide

theorem actsAsTrip_iff (r : PathRec) (z : Zone) :
    actsAsTrip r z = true ↔ z = .trip ∨ ((z = .short ∨ z = .opened) ∧ r.failClosed = true) := by
  simp [actsAsTrip, ← zoneIsFault_iff]

/-- A zone that does not act as a trip is NORMAL or a line fault under FAIL_OPEN. -/
theorem actsAsTrip_false {r : PathRec} {z : Zone}
    (h : z = .normal ∨ ((z = .short ∨ z = .opened) ∧ r.failClosed = false)) : actsAsTrip r z = false := by
  rcases h with rfl | ⟨rfl | rfl, hf⟩
  · rfl
  · simp [actsAsTrip, hf]
  · simp [actsAsTrip, hf]

theorem execAcceptedZone_idle {s : State} (hp : s.powered = true) {l : Fin 12} (h : s.pathOfLoop l = none) (z : Zone) :
    exec (.acceptedZone l z) s = .next s := by
  simp [exec, execAcceptedZone, State.whenPowered, hp, State.acceptedZone, h]

/-- ACCEPTED_ZONE of a supervised loop: the zone is accepted when its run is complete (notes/assumptions/8.md). -/
theorem execAcceptedZone_path {s : State} (hp : s.powered = true) {l k : Fin 12} {r : PathRec}
    (hl : s.pathOfLoop l = some k) (hr : s.path? k.val = some r) (z : Zone) : exec (.acceptedZone l z) s =
      .next (if s.avp[k].completes r.debounce z then s.acceptZone k r l z else s) := by
  simp [exec, execAcceptedZone, State.whenPowered, hp, State.acceptedZone, hl, hr]

/-- Where the zone does not act as a trip, only a path in TRIPPED leaves its state (R97, R98, R111). -/
theorem stateAfterZone_plain {r : PathRec} {p : Path} {z : Zone} (ha : actsAsTrip r z = false) (hs : p.state ≠ .tripped) :
    stateAfterZone r p z = p.state := by
  unfold stateAfterZone
  cases h : p.state <;> simp_all

/-- A path in TRIPPED is LATCHED by NORMAL, and by a first line fault under FAIL_OPEN (R97, R98, R111). -/
theorem stateAfterZone_tripped {r : PathRec} {p : Path} {z : Zone} (ha : actsAsTrip r z = false) (hs : p.state = .tripped) :
    stateAfterZone r p z = if z = .normal ∨ p.zone = none then .latched else .tripped := by
  unfold stateAfterZone
  rw [hs]
  cases z <;> simp_all [actsAsTrip, zoneIsFault]

theorem stateAfterZone_trip {r : PathRec} {p : Path} {z : Zone} (ha : actsAsTrip r z = true) (hs : p.state ≠ .hold) :
    stateAfterZone r p z = .tripped := by
  have hn : z ≠ .normal := by
    rintro rfl
    cases ha
  have hf : ¬(zoneIsFault z = true ∧ (!r.failClosed) = true ∧ p.zone = none) := by
    rintro ⟨hz, hc, -⟩
    cases z <;> simp_all [actsAsTrip, zoneIsFault]
  unfold stateAfterZone
  cases h : p.state <;> simp_all

/-- Settles O44: the run of samples is complete exactly when ACCEPTED_ZONE accepts the zone; what the zone then does is
read off state by state from `State.zoneEffect`. -/
theorem acceptedZoneMovesThePath : Obligations.AcceptedZoneMovesThePath := by
  refine ⟨fun l z s hp => ⟨fun h => execAcceptedZone_idle hp h z, fun k r hl hr h => ?_⟩, ?_, ?_⟩
  · rw [execAcceptedZone_path hp hl hr, if_neg]
    rw [completes_iff]
    rintro ⟨hz, hd⟩
    rcases h with h | h
    · exact hz h
    · omega
  · intro l k z r s x f trips hp hl hr hz hd hx hf ht
    have hacc : exec (.acceptedZone l z) s = .next (s.acceptZone k r l z) := by
      rw [execAcceptedZone_path hp hl hr, if_pos ((completes_iff _ _ _).mpr ⟨hz, hd⟩)]
    have hrec : ∀ st, f st = s.zoneRecorded k l z st := by
      intro st
      rw [hf, hx]
      unfold State.zoneRecorded
      simp only [← zoneIsFault_iff]
      rfl
    have hxa : ∀ st, (f st).avp[k] = x := fun st => by rw [hrec, State.zoneRecorded_path, hx]; rfl
    have hord : ∀ st, (f st).ord = s.ord := fun st => by
      rw [hrec]
      exact (State.zoneRecorded_frame k l z st s).ord
    have hstate : s.avp[k].state = x.state := by rw [hx]
    have htripped : s.avp[k].tripped1 = trips := by rw [ht, hx]; rfl
    have htrip : s.avp[k].tripOrder = x.tripOrder := by rw [hx]
    have hhold : s.avp[k].holdOrder = x.holdOrder := by rw [hx]
    refine ⟨fun hv => ?_, fun hv hz => ?_, fun hv hs => ?_, fun hv hs hz => ?_⟩
    · rw [hacc, State.acceptZone_invalid hv, ← hrec, hstate]
    all_goals
      have hval : exec (.acceptedZone l z) s =
          .next ((f (stateAfterZone r s.avp[k] z)).zoneEffect k r s.avp[k] z) := by
        rw [hacc, State.acceptZone_valid hv, ← hrec]
      rw [hval]
    · have ha := (actsAsTrip_iff r z).mpr hz
      have hafter : x.state ≠ .hold → stateAfterZone r s.avp[k] z = .tripped := fun h =>
        stateAfterZone_trip ha (by rw [hstate]; exact h)
      refine ⟨fun hs => ?_, fun hs => ?_, fun e he => ⟨fun hs => ?_, fun hs => ?_⟩,
        fun he o n ho hn => ⟨fun hs => ?_, fun hs => ?_⟩⟩
      all_goals
        rw [← hstate] at hs
        rw [hafter (by rw [← hstate, hs]; decide)]
      · rw [State.zoneEffect_state (by rw [hs]; decide) (.inl hs), hafter (by rw [← hstate, hs]; decide), hxa, ← hs, hstate]
        exact congrArg _ (State.setPath_same (hxa _))
      · rw [State.zoneEffect_latched hs ha, hxa, htripped, htrip]
      · rw [State.zoneEffect_quiet hs ha, State.tripCreate_standing ((hord .tripped).symm ▸ he), hxa, htripped]
      · rw [State.zoneEffect_pending hs ha, State.tripCreate_standing ((hord .tripped).symm ▸ he), hxa, htripped, hhold]
      · rw [State.zoneEffect_quiet hs ha, State.tripCreate_new ((hord .tripped).symm ▸ he), hxa, htripped, hord, hn, ho]
        rfl
      · rw [State.zoneEffect_pending hs ha, State.tripCreate_new ((hord .tripped).symm ▸ he), hxa, htripped, hhold, hord,
          hn, ho]
        rfl
    · have hafter : stateAfterZone r s.avp[k] z = .hold := by
        unfold stateAfterZone
        rw [hstate, hs]
      rw [State.zoneEffect_hold (by rw [hstate, hs]), hafter]
      exact ⟨fun h => by rw [if_pos h, hxa, htripped, hhold], fun h => by rw [if_neg h]⟩
    · have ha := actsAsTrip_false hz
      rw [State.zoneEffect_state (by rw [hstate]; exact hs) (.inr ha), hxa]
      refine ⟨fun ht h => ?_, fun ht hn h => ?_, fun ht => ?_⟩
      · rw [stateAfterZone_tripped ha (hstate.trans ht), if_pos h]
      · rw [stateAfterZone_tripped ha (hstate.trans ht), if_neg (not_or.mpr ⟨hn, h⟩), ← ht]
        exact congrArg _ (State.setPath_same (hxa _))
      · rw [stateAfterZone_plain ha (by rw [hstate]; exact ht), hstate]
        exact congrArg _ (State.setPath_same (hxa _))
  · intro o e stamps s hs he
    have hnew : e = s.newEntry o := by
      rw [he, hs]
      unfold State.newEntry nextStamp
      split <;> rfl
    rw [State.admitOrder_eq, ← hnew, hs]
    rfl

end Sys2Proof.Machine
end

section
/-! ## The inputs of a gate (R114, R117 to R121) -/

set_option Elab.async false

namespace Sys2Proof.Machine

namespace Gate

/-! ### What a prewarn and a standstill keep -/

theorem prewarned_closedLimit (r : GateRec) (signs : Bool) (x : Gate) :
    (x.prewarned r signs).closedLimit = x.closedLimit := by
  unfold prewarned
  split
  · split <;> rfl
  · split <;> rfl

theorem closes_away {r : GateRec} {x : Gate} (h : x.closedLimit = false) : x.closes r = [x.driven r .lower .closing] := by
  simp [closes, h]

theorem opens_away {r : GateRec} {x : Gate} (h : x.openLimit = false) : x.opens r = [x.driven r .raise .opening] := by
  simp [opens, h]

/-- A stop touches the drive alone (R124). -/
theorem stop_eq (st : GatePos) (c : Option FaultCause) (x : Gate) : x.stop = { x with
    drive := (x.halted st c).drive, waitingLine := (x.halted st c).waitingLine, periods := (x.halted st c).periods
    duty := (x.halted st c).duty } := by
  cases x
  unfold stop halted
  dsimp only
  split <;> simp_all

/-- A gate that halts at a limit and is then halted at the other keeps its drive (R120, R124). -/
theorem shut_opened (x : Gate) : ({ x.shut.halted .opened none with retries := 0 } : Gate) =
    { x.shut with state := .opened } := by
  unfold shut halted
  by_cases h : x.drive = .off <;> simp [h]

/-- A gate at both limits that is to open from CLOSED passes OPENING and is OPEN (R120). -/
theorem shut_opens {r : GateRec} {x : Gate} (h : x.openLimit = true) :
    x.shut.opens r = [{ x.shut with state := .opening }, { x.shut with state := .opened }] := by
  have ho : x.shut.openLimit = true := h
  rw [← shut_opened, opens, if_pos ho]
  rfl

/-! ### The open limit -/

section OpenLimit
variable {r : GateRec} {signs : Bool} {x y z : Gate}

theorem openLimitTo_conflict (hy : y = { x with openLimit := true }) (hc : x.closedLimit = true) (hs : x.state ≠ .fault) :
    x.openLimitTo r signs true = (y, [y.halted .fault (some .limitConflict)]) := by
  subst hy
  simp [openLimitTo, conflict, hc, hs, enterFault_eq]

/-- The open limit ends OPENING (R120). -/
theorem openLimitTo_opening (hy : y = { x with openLimit := true }) (hc : x.closedLimit = false) (hs : x.state = .opening) :
    x.openLimitTo r signs true = (y, y.enterOpen r signs) := by
  subst hy
  simp [openLimitTo, conflict, hc, hs]

/-- A gate that rests at the open limit acts on a demand CLOSED at once (R120). -/
theorem enterOpen_eq (hz : z = { y.halted .opened none with retries := 0 }) : y.enterOpen r signs =
    z :: (if y.demand = some .closed ∧ y.inhibit = false then z.enterPrewarn r signs else []) := by
  subst hz
  have hk : ({ y.halted .opened none with retries := 0 } : Gate).demand = y.demand ∧
      ({ y.halted .opened none with retries := 0 } : Gate).inhibit = y.inhibit := ⟨rfl, rfl⟩
  simp only [enterOpen, atLimit_eq, hk, Bool.not_eq_true']
  split <;> rfl

theorem openLimitTo_blocked (hy : y = { x with openLimit := true }) (hc : x.closedLimit = false) (hs : x.state = .blocked)
    (ht : x.retryTimer = none) : x.openLimitTo r signs true =
      if r.retryLimit < x.retries then (y, [y.halted .fault (some .retriesExhausted)]) else (y.blockedWait, []) := by
  subst hy
  simp [openLimitTo, conflict, hc, hs, ht, enterFault_eq]

/-- The open limit reached, where it is stored alone. -/
theorem openLimitTo_stored (hy : y = { x with openLimit := true })
    (h : x.state = .fault ∨ (x.closedLimit = false ∧ (x.state = .opened ∨ x.state = .prewarn ∨ x.state = .closing ∨
      x.state = .closed ∨ (x.state = .blocked ∧ x.retryTimer.isSome = true)))) :
    x.openLimitTo r signs true = (y, []) := by
  subst hy
  rcases h with hs | ⟨hc, hs | hs | hs | hs | ⟨hs, ht⟩⟩
  · simp [openLimitTo, conflict, hs]
  · simp [openLimitTo, conflict, hc, hs]
  · simp [openLimitTo, conflict, hc, hs]
  · simp [openLimitTo, conflict, hc, hs]
  · simp [openLimitTo, conflict, hc, hs]
  · simp [openLimitTo, conflict, hc, hs, ht]

/-- The open limit lost where the gate is to stand at it (R121). -/
theorem openLimitTo_lost (hy : y = { x with openLimit := false })
    (h : x.state = .opened ∨ x.state = .prewarn ∨ (x.state = .blocked ∧ x.retryTimer.isSome = true)) :
    x.openLimitTo r signs false = (y, [y.halted .fault (some .displaced)]) := by
  subst hy
  rcases h with hs | hs | ⟨hs, ht⟩
  · simp [openLimitTo, conflict, hs, enterFault_eq]
  · simp [openLimitTo, conflict, hs, enterFault_eq]
  · simp [openLimitTo, conflict, hs, ht, enterFault_eq]

theorem openLimitTo_left (hy : y = { x with openLimit := false })
    (h : x.state = .closing ∨ x.state = .opening ∨ x.state = .closed ∨ x.state = .fault ∨
      (x.state = .blocked ∧ x.retryTimer = none)) : x.openLimitTo r signs false = (y, []) := by
  subst hy
  rcases h with hs | hs | hs | hs | ⟨hs, ht⟩
  · simp [openLimitTo, conflict, hs]
  · simp [openLimitTo, conflict, hs]
  · simp [openLimitTo, conflict, hs]
  · simp [openLimitTo, conflict, hs]
  · simp [openLimitTo, conflict, hs, ht]

end OpenLimit

/-! ### The closed limit -/

section ClosedLimit
variable {r : GateRec} {x y z : Gate}

theorem closedLimitTo_conflict (hy : y = { x with closedLimit := true }) (ho : x.openLimit = true) (hs : x.state ≠ .fault) :
    x.closedLimitTo r true = (y, [y.halted .fault (some .limitConflict)]) := by
  subst hy
  simp [closedLimitTo, conflict, ho, hs, enterFault_eq]

theorem closedLimitTo_closing (hy : y = { x with closedLimit := true }) (ho : x.openLimit = false)
    (hs : x.state = .closing) : x.closedLimitTo r true = (y, y.enterClosed r) := by
  subst hy
  simp [closedLimitTo, conflict, ho, hs]

/-- A gate that rests at the closed limit acts on a demand OPEN at once (R120). -/
theorem enterClosed_eq (hz : z = { y.halted .closed none with retries := 0 }) : y.enterClosed r =
    z :: (if y.demand = some .opened ∧ y.inhibit = false then z.opens r else []) := by
  subst hz
  have hk : ({ y.halted .closed none with retries := 0 } : Gate).demand = y.demand ∧
      ({ y.halted .closed none with retries := 0 } : Gate).inhibit = y.inhibit := ⟨rfl, rfl⟩
  simp only [enterClosed, atLimit_eq, hk, Bool.not_eq_true', enterOpening_eq]
  split <;> rfl

theorem closedLimitTo_stored (hy : y = { x with closedLimit := true })
    (h : x.state = .fault ∨ (x.openLimit = false ∧ x.state ≠ .closing)) : x.closedLimitTo r true = (y, []) := by
  subst hy
  rcases h with hs | ⟨ho, hs⟩
  · simp [closedLimitTo, conflict, hs]
  · cases h : x.state <;> simp_all [closedLimitTo, conflict]

theorem closedLimitTo_lost (hy : y = { x with closedLimit := false }) (hs : x.state = .closed) :
    x.closedLimitTo r false = (y, [y.halted .fault (some .displaced)]) := by
  subst hy
  simp [closedLimitTo, conflict, hs, enterFault_eq]

theorem closedLimitTo_left (hy : y = { x with closedLimit := false }) (hs : x.state ≠ .closed) :
    x.closedLimitTo r false = (y, []) := by
  subst hy
  cases h : x.state <;> simp_all [closedLimitTo, conflict]

end ClosedLimit

/-! ### The obstruction -/

section Obstruction
variable {r : GateRec} {x y : Gate}

theorem obstructionTo_closing (hy : y = { x with obstruction := true }) (hs : x.state = .closing) :
    x.obstructionTo r true = (y, y.enterBlocked r) := by
  subst hy
  simp [obstructionTo, hs]

theorem obstructionTo_stored (hy : y = { x with obstruction := true }) (hs : x.state ≠ .closing) :
    x.obstructionTo r true = (y, []) := by
  subst hy
  cases h : x.state <;> simp_all [obstructionTo]

theorem obstructionTo_clear (hy : y = { x with obstruction := false }) (hs : x.state = .prewarn)
    (hp : x.phase = some .obstructed) : x.obstructionTo r false = (y, y.closes r) := by
  subst hy
  simp [obstructionTo, hs, hp, enterClosing_eq]

theorem obstructionTo_cleared (hy : y = { x with obstruction := false })
    (h : x.state ≠ .prewarn ∨ x.phase ≠ some .obstructed) : x.obstructionTo r false = (y, []) := by
  subst hy
  unfold obstructionTo
  dsimp only
  split
  · next hv _ => cases hv
  · next _ hs hp =>
    rcases h with h | h
    · exact absurd hs h
    · exact absurd hp h
  · rfl

/-- At the open limit the raised gate waits at once (R114, R119). -/
theorem blockedWait_eq (hs : x.state = .blocked) (hc : x.cause = none) (hp : x.phase = none) (hk : x.countKind = none)
    (hr : x.remaining = 0) (ht : x.signTimer = none) :
    x.blockedWait = { x.halted .blocked none with retryTimer := some 0 } := by
  unfold blockedWait
  rw [stop_eq .blocked none x]
  unfold halted
  rw [← hs, ← hc, ← hp, ← hk, ← hr, ← ht]

end Obstruction

end Gate
end Sys2Proof.Machine
end

section
/-! ## Pins and gates -/

set_option Elab.async false

namespace Sys2Proof.Machine

namespace State

section Pin
variable {s : State} {g : Fin 8} {pins : GatePins} {act : GateRec → Gate → Gate × List Gate} {store : Gate → Gate}
  {same : Gate → Bool}

/-- The pin of a gate without a record is followed alone (notes/assumptions/19.md). -/
theorem pinChange_noRecord (hr : s.gate? g.val = none) :
    s.pinChange g pins act store same = { s with pins := setAt s.pins g pins } := by
  have hr' : ({ s with pins := setAt s.pins g pins } : State).gate? g.val = none := hr
  simp only [pinChange, hr', ite_self]

/-- A level that the gate has changes the pin alone (notes/assumptions/6.md). -/
theorem pinChange_same (h : same s.gtc[g] = true) :
    s.pinChange g pins act store same = { s with pins := setAt s.pins g pins } := by
  unfold pinChange
  dsimp only
  split
  · rfl
  split
  · rfl
  · rfl

/-- A new level of a gate in use is the gate machine's (R114). -/
theorem pinChange_valid {r : GateRec} (hp : s.powered = true) (hv : s.map.valid = true) (hr : s.gate? g.val = some r)
    (hn : same s.gtc[g] = false) : s.pinChange g pins act store same =
      ({ s with pins := setAt s.pins g pins } : State).moveGate g (act r s.gtc[g]) := by
  have hr' : ({ s with pins := setAt s.pins g pins } : State).gate? g.val = some r := hr
  unfold pinChange
  dsimp only
  rw [if_neg (by simp [hp]), hr']
  dsimp only
  rw [if_neg (ne_true_of_eq_false hn), if_pos hv]

/-- A new level of a gate that is followed under MAP_INVALID (R14). -/
theorem pinChange_invalid {r : GateRec} (hp : s.powered = true) (hv : s.map.valid = false) (hr : s.gate? g.val = some r)
    (hn : same s.gtc[g] = false) : s.pinChange g pins act store same =
      if (store s.gtc[g]).fromLimits.state = s.gtc[g].state ∧ (store s.gtc[g]).fromLimits.cause = s.gtc[g].cause then
        ({ s with pins := setAt s.pins g pins } : State).setGate g (store s.gtc[g]).fromLimits
      else (({ s with pins := setAt s.pins g pins } : State).setGate g (store s.gtc[g]).fromLimits).recordGate g
        (store s.gtc[g]).fromLimits true := by
  have hr' : ({ s with pins := setAt s.pins g pins } : State).gate? g.val = some r := hr
  unfold pinChange
  dsimp only
  rw [if_neg (by simp [hp]), hr']
  dsimp only
  rw [if_neg (ne_true_of_eq_false hn), if_neg fun h => Bool.false_ne_true (hv.symm.trans h)]

end Pin

/-- A transition that enters no state stores the gate alone. -/
theorem moveGate_stored (u : State) (g : Fin 8) (y : Gate) : u.moveGate g (y, []) = u.setGate g y := rfl

/-- A transition with one entry. -/
theorem moveGate_entry (u : State) (g : Fin 8) (y z : Gate) (h : y.state = u.gtc[g].state) :
    u.moveGate g (y, [z]) = enterGate g u z := moveGate_entries g u y z [] h

end State

theorem fromLimits_eq (x : Gate) : x.fromLimits = { x with
    state := if x.openLimit = x.closedLimit then .fault else if x.openLimit then .opened else .closed
    cause := if x.openLimit = x.closedLimit then some (if x.openLimit then .limitConflict else .displaced) else none } := by
  unfold Gate.fromLimits
  cases ho : x.openLimit <;> cases hc : x.closedLimit <;> simp

/-! ## The three input commands -/

section Inputs
variable {s : State} {g : Fin 8} {r : GateRec}

theorem execOpenLimit_new {v : Bool} (hp : s.powered = true) (hv : s.map.valid = true) (hr : s.gate? g.val = some r)
    (hn : s.gtc[g].openLimit = !v) : exec (.openLimitAccepted g v) s =
      .next (({ s with pins := setAt s.pins g { s.pins[g] with openLimit := v } } : State).moveGate g
        (s.gtc[g].openLimitTo r (s.signsReady r) v)) :=
  congrArg _ (State.pinChange_valid (s := s) hp hv hr (by rw [hn]; cases v <;> rfl))

theorem execClosedLimit_new {v : Bool} (hp : s.powered = true) (hv : s.map.valid = true) (hr : s.gate? g.val = some r)
    (hn : s.gtc[g].closedLimit = !v) : exec (.closedLimitAccepted g v) s =
      .next (({ s with pins := setAt s.pins g { s.pins[g] with closedLimit := v } } : State).moveGate g
        (s.gtc[g].closedLimitTo r v)) :=
  congrArg _ (State.pinChange_valid (s := s) hp hv hr (by rw [hn]; cases v <;> rfl))

theorem execObstruction_new {v : Bool} (hp : s.powered = true) (hv : s.map.valid = true) (hr : s.gate? g.val = some r)
    (hn : s.gtc[g].obstruction = !v) : exec (.obstructionAccepted g v) s =
      .next (({ s with pins := setAt s.pins g { s.pins[g] with obstruction := v } } : State).moveGate g
        (s.gtc[g].obstructionTo r v)) :=
  congrArg _ (State.pinChange_valid (s := s) hp hv hr (by rw [hn]; cases v <;> rfl))

end Inputs

/-! ## Chains of entries (R115 to R120, R127) -/

namespace State

/-- A demand that does not stand, or that an inhibit holds back. -/
theorem not_acting {y : Gate} {d : Demand} (h : y.demand ≠ some d ∨ y.inhibit = true) :
    ¬(y.demand = some d ∧ y.inhibit = false) := by
  rintro ⟨hd, hi⟩
  rcases h with h | h
  · exact h hd
  · exact Bool.false_ne_true (hi.symm.trans h)

section Chains
variable {u : State} {g : Fin 8} {r : GateRec} {signs : Bool} {y z w : Gate}

/-- A gate that reaches OPEN rests there, unless it is to close. -/
theorem enterOpen_rests (hs : y.state = u.gtc[g].state) (hz : z = { y.halted .opened none with retries := 0 })
    (h : y.demand ≠ some .closed ∨ y.inhibit = true) :
    u.moveGate g (y, y.enterOpen r signs) = enterGate g u z := by
  rw [Gate.enterOpen_eq hz, if_neg (not_acting h), moveGate_entry _ _ _ _ hs]

theorem enterOpen_prewarns (hs : y.state = u.gtc[g].state) (hz : z = { y.halted .opened none with retries := 0 })
    (hd : y.demand = some .closed) (hi : y.inhibit = false) (hw : w = z.prewarned r signs)
    (h : y.emergency = false ∨ 0 < r.emergency ∨ y.obstruction = true) :
    u.moveGate g (y, y.enterOpen r signs) = enterGate g (enterGate g u z) w := by
  have hk : z.emergency = y.emergency ∧ z.obstruction = y.obstruction := by rw [hz]; exact ⟨rfl, rfl⟩
  have hn : ¬(z.emergency = true ∧ r.emergency = 0 ∧ z.obstruction = false) := by
    rw [hk.1, hk.2]
    rintro ⟨he, h0, hb⟩
    rcases h with h | h | h
    · exact Bool.false_ne_true (h.symm.trans he)
    · omega
    · exact Bool.false_ne_true (hb.symm.trans h)
  rw [Gate.enterOpen_eq hz, if_pos ⟨hd, hi⟩, Gate.enterPrewarn_eq r signs z w hw, if_neg hn,
    moveGate_entries _ _ _ _ _ hs]
  rfl

/-- With an emergency prewarn time of 0 a gate that is to close goes on from OPEN through PREWARN into CLOSING (R115). -/
theorem enterOpen_closes (hs : y.state = u.gtc[g].state) (hz : z = { y.halted .opened none with retries := 0 })
    (hd : y.demand = some .closed) (hi : y.inhibit = false) (hw : w = z.prewarned r signs) (he : y.emergency = true)
    (h0 : r.emergency = 0) (hb : y.obstruction = false) (hc : y.closedLimit = false) :
    u.moveGate g (y, y.enterOpen r signs) =
      enterGate g (enterGate g (enterGate g u z) w) (w.driven r .lower .closing) := by
  have hk : z.emergency = true ∧ r.emergency = 0 ∧ z.obstruction = false := by rw [hz]; exact ⟨he, h0, hb⟩
  have hwc : w.closedLimit = false := by rw [hw, Gate.prewarned_closedLimit, hz]; exact hc
  rw [Gate.enterOpen_eq hz, if_pos ⟨hd, hi⟩, Gate.enterPrewarn_eq r signs z w hw, if_pos hk, Gate.closes_away hwc,
    moveGate_entries _ _ _ _ _ hs]
  rfl

theorem enterClosed_rests (hs : y.state = u.gtc[g].state) (hz : z = { y.halted .closed none with retries := 0 })
    (h : y.demand ≠ some .opened ∨ y.inhibit = true) : u.moveGate g (y, y.enterClosed r) = enterGate g u z := by
  rw [Gate.enterClosed_eq hz, if_neg (not_acting h), moveGate_entry _ _ _ _ hs]

theorem enterClosed_opens (hs : y.state = u.gtc[g].state) (hz : z = { y.halted .closed none with retries := 0 })
    (hd : y.demand = some .opened) (hi : y.inhibit = false) (ho : y.openLimit = false) :
    u.moveGate g (y, y.enterClosed r) = enterGate g (enterGate g u z) (z.driven r .raise .opening) := by
  have hzo : z.openLimit = false := by rw [hz]; exact ho
  rw [Gate.enterClosed_eq hz, if_pos ⟨hd, hi⟩, Gate.opens_away hzo, moveGate_entries _ _ _ _ _ hs]
  rfl

/-- A gate that closes at the closed limit passes CLOSING and is CLOSED (R118, R120). -/
theorem closes_atLimit (hs : y.state = u.gtc[g].state) (hc : y.closedLimit = true) : u.moveGate g (y, y.closes r) =
    (if y.demand = some .opened ∧ y.inhibit = false then y.shut.opens r else []).foldl (enterGate g)
      (enterGate g (enterGate g u (y.passing .closing)) y.shut) := by
  rw [Gate.closes, if_pos hc, moveGate_entries _ _ _ _ _ hs, List.foldl_cons]

theorem closes_rests (hs : y.state = u.gtc[g].state) (hc : y.closedLimit = true)
    (h : y.demand ≠ some .opened ∨ y.inhibit = true) : u.moveGate g (y, y.closes r) =
      enterGate g (enterGate g u (y.passing .closing)) y.shut := by
  rw [closes_atLimit hs hc, if_neg (not_acting h), List.foldl_nil]

theorem closes_opens (hs : y.state = u.gtc[g].state) (hc : y.closedLimit = true) (hd : y.demand = some .opened)
    (hi : y.inhibit = false) (ho : y.openLimit = false) : u.moveGate g (y, y.closes r) =
      enterGate g (enterGate g (enterGate g u (y.passing .closing)) y.shut) (y.shut.driven r .raise .opening) := by
  have hso : y.shut.openLimit = false := ho
  rw [closes_atLimit hs hc, if_pos ⟨hd, hi⟩, Gate.opens_away hso, List.foldl_cons, List.foldl_nil]

theorem closes_bothLimits (hs : y.state = u.gtc[g].state) (hc : y.closedLimit = true) (hd : y.demand = some .opened)
    (hi : y.inhibit = false) (ho : y.openLimit = true) : u.moveGate g (y, y.closes r) =
      enterGate g (enterGate g (enterGate g (enterGate g u (y.passing .closing)) y.shut)
        { y.shut with state := .opening }) { y.shut with state := .opened } := by
  rw [closes_atLimit hs hc, if_pos ⟨hd, hi⟩, Gate.shut_opens ho, List.foldl_cons, List.foldl_cons, List.foldl_nil]

theorem enterBlocked_lifts (hs : y.state = u.gtc[g].state)
    (hz : z = { y.driven r .raise .blocked with retries := y.retries + 1 }) (ho : y.openLimit = false) :
    u.moveGate g (y, y.enterBlocked r) = enterGate g u z := by
  rw [Gate.enterBlocked_eq r y z hz, if_neg (by simp [ho]), moveGate_entry _ _ _ _ hs]

theorem enterBlocked_waits (hs : y.state = u.gtc[g].state)
    (hz : z = { y.driven r .raise .blocked with retries := y.retries + 1 }) (ho : y.openLimit = true)
    (hn : y.retries + 1 ≤ r.retryLimit) :
    u.moveGate g (y, y.enterBlocked r) = enterGate g u { z.halted .blocked none with retryTimer := some 0 } := by
  have hb : z.blockedWait = { z.halted .blocked none with retryTimer := some 0 } := by
    rw [hz]
    exact Gate.blockedWait_eq rfl rfl rfl rfl rfl rfl
  rw [Gate.enterBlocked_eq r y z hz, if_pos ho, if_neg (by omega), moveGate_entry _ _ _ _ hs, hb]

theorem enterBlocked_fails (hs : y.state = u.gtc[g].state)
    (hz : z = { y.driven r .raise .blocked with retries := y.retries + 1 }) (ho : y.openLimit = true)
    (hn : r.retryLimit < y.retries + 1) : u.moveGate g (y, y.enterBlocked r) =
      enterGate g (enterGate g u z) (z.halted .fault (some .retriesExhausted)) := by
  rw [Gate.enterBlocked_eq r y z hz, if_pos ho, if_pos hn, moveGate_entries _ _ _ _ _ hs]
  rfl

end Chains

end State

/-! ## What an input is to a gate without a valid map (R14) -/

section Followed
variable {i : Instr} {s : State} {g : Fin 8} {pins : GatePins} {act : GateRec → Gate → Gate × List Gate}
  {store : Gate → Gate} {same : Gate → Bool}

/-- An input command, whichever of the three, outside the gate machine: the pin alone, or the position of the limits. -/
theorem input_outside {x : Gate} {u : State} (hp : s.powered = true)
    (hi : exec i s = .next (s.pinChange g pins act store same)) (hx : x = store s.gtc[g])
    (hsame : same s.gtc[g] = true ↔ x = s.gtc[g]) (hu : u = { s with pins := setAt s.pins g pins }) :
    (s.gate? g.val = none → exec i s = .next u) ∧
    (∀ r, s.gate? g.val = some r → x = s.gtc[g] → exec i s = .next u) ∧
    (∀ (r : GateRec) (y : Gate), s.gate? g.val = some r → s.map.valid = false → x ≠ s.gtc[g] →
      y = { x with
        state := if x.openLimit = x.closedLimit then .fault else if x.openLimit then .opened else .closed
        cause := if x.openLimit = x.closedLimit then some (if x.openLimit then .limitConflict else .displaced)
          else none } →
      (y.state = s.gtc[g].state ∧ y.cause = s.gtc[g].cause → exec i s = .next (u.setGate g y)) ∧
      (y.state ≠ s.gtc[g].state ∨ y.cause ≠ s.gtc[g].cause → ∀ w : State,
        w = (u.setGate g y).record (.gateState g.val y.state y.cause y.inhibit y.demand y.emergency y.retries) →
        (y.cause = none → exec i s = .next w) ∧
        (∀ c, y.cause = some c → exec i s = .next (w.record (.gateFault g.val c))))) := by
  rw [hi, hu]
  refine ⟨fun hr => by rw [State.pinChange_noRecord hr], fun r _ h => by rw [State.pinChange_same (hsame.mpr h)],
    fun r y hr hv hne hy => ?_⟩
  have hyl : (store s.gtc[g]).fromLimits = y := by rw [hy, hx, fromLimits_eq]
  rw [State.pinChange_invalid hp hv hr (by rw [← Bool.not_eq_true]; exact fun h => hne (hsame.mp h)), hyl]
  refine ⟨fun h => by rw [if_pos h], fun h w hw => ?_⟩
  rw [if_neg (by rintro ⟨h1, h2⟩; rcases h with h | h; exacts [h h1, h h2]), hw]
  refine ⟨fun hc => by rw [State.recordGate_plain _ _ _ _ (.inr (.inl hc))]; rfl, fun c hc => ?_⟩
  have hf : y.state = .fault := by
    rw [hy] at hc ⊢
    dsimp only at hc ⊢
    split
    · rfl
    · next h => rw [if_neg h] at hc; cases hc
  rw [State.recordGate_fault _ _ _ c hf hc]
  rfl

end Followed

theorem openLimit_same (x : Gate) (v : Bool) : (x.openLimit == v) = true ↔ ({ x with openLimit := v } : Gate) = x :=
  ⟨fun h => by rw [← beq_iff_eq.mp h], fun h => beq_iff_eq.mpr (congrArg Gate.openLimit h).symm⟩

theorem closedLimit_same (x : Gate) (v : Bool) :
    (x.closedLimit == v) = true ↔ ({ x with closedLimit := v } : Gate) = x :=
  ⟨fun h => by rw [← beq_iff_eq.mp h], fun h => beq_iff_eq.mpr (congrArg Gate.closedLimit h).symm⟩

theorem obstruction_same (x : Gate) (v : Bool) :
    (x.obstruction == v) = true ↔ ({ x with obstruction := v } : Gate) = x :=
  ⟨fun h => by rw [← beq_iff_eq.mp h], fun h => beq_iff_eq.mpr (congrArg Gate.obstruction h).symm⟩

/-- Settles O49: under a valid map a new level is a transition of the gate machine, read off input by input and state by
state; outside it the pin alone changes, or the gate follows its limits. -/
theorem gateInputsMoveTheGate : Obligations.GateInputsMoveTheGate := by
  refine ⟨fun g r x y z s u hp hv hr hx => ?_, ?_, ?_⟩
  · have hstate : ∀ {v : State} {w : Gate}, v.gtc = s.gtc → w.state = x.state → w.state = v.gtc[g].state := by
      intro v w hv hw
      rw [hv, hw, hx]
    refine ⟨fun ho hy hu => ?_, fun ho hy hu => ?_, fun hc hy hu => ?_, fun hc hy hu => ?_, fun hb hy hu => ?_,
      fun hb hy hu => ?_⟩
    · have hs : y.state = u.gtc[g].state := hstate (by rw [hu]) (by rw [hy])
      have hexec := execOpenLimit_new (v := true) hp hv hr (by rw [← hx]; exact ho)
      rw [← hu, ← hx] at hexec
      rw [hexec]
      refine ⟨fun hc hf => ?_, fun hc hop hz => ?_, fun hc hbl ht => ⟨fun hn => ?_, fun hn => ?_⟩, fun h => ?_⟩
      · rw [Gate.openLimitTo_conflict hy hc hf, State.moveGate_entry _ _ _ _ hs]
      · rw [Gate.openLimitTo_opening hy hc hop]
        subst hy
        exact ⟨fun h => congrArg _ (State.enterOpen_rests hs hz h), fun hd hi w hw =>
          ⟨fun h => congrArg _ (State.enterOpen_prewarns hs hz hd hi hw h), fun he h0 hb =>
            congrArg _ (State.enterOpen_closes hs hz hd hi hw he h0 hb hc)⟩⟩
      · rw [Gate.openLimitTo_blocked hy hc hbl ht, if_neg (by omega), State.moveGate_stored, Gate.blockedWait,
          Gate.stop_eq .blocked none y]
      · rw [Gate.openLimitTo_blocked hy hc hbl ht, if_pos hn, State.moveGate_entry _ _ _ _ hs]
      · rw [Gate.openLimitTo_stored hy h, State.moveGate_stored]
    · have hs : y.state = u.gtc[g].state := hstate (by rw [hu]) (by rw [hy])
      have hexec := execOpenLimit_new (v := false) hp hv hr (by rw [← hx]; exact ho)
      rw [← hu, ← hx] at hexec
      rw [hexec]
      refine ⟨fun h => ?_, fun h => ?_⟩
      · rw [Gate.openLimitTo_lost hy h, State.moveGate_entry _ _ _ _ hs]
      · rw [Gate.openLimitTo_left hy h, State.moveGate_stored]
    · have hs : y.state = u.gtc[g].state := hstate (by rw [hu]) (by rw [hy])
      have hexec := execClosedLimit_new (v := true) hp hv hr (by rw [← hx]; exact hc)
      rw [← hu, ← hx] at hexec
      rw [hexec]
      refine ⟨fun ho hf => ?_, fun ho hcl hz => ?_, fun h => ?_⟩
      · rw [Gate.closedLimitTo_conflict hy ho hf, State.moveGate_entry _ _ _ _ hs]
      · rw [Gate.closedLimitTo_closing hy ho hcl]
        subst hy
        exact ⟨fun h => congrArg _ (State.enterClosed_rests hs hz h), fun hd hi =>
          congrArg _ (State.enterClosed_opens hs hz hd hi ho)⟩
      · rw [Gate.closedLimitTo_stored hy h, State.moveGate_stored]
    · have hs : y.state = u.gtc[g].state := hstate (by rw [hu]) (by rw [hy])
      have hexec := execClosedLimit_new (v := false) hp hv hr (by rw [← hx]; exact hc)
      rw [← hu, ← hx] at hexec
      rw [hexec]
      refine ⟨fun h => ?_, fun h => ?_⟩
      · rw [Gate.closedLimitTo_lost hy h, State.moveGate_entry _ _ _ _ hs]
      · rw [Gate.closedLimitTo_left hy h, State.moveGate_stored]
    · have hs : y.state = u.gtc[g].state := hstate (by rw [hu]) (by rw [hy])
      have hexec := execObstruction_new (v := true) hp hv hr (by rw [← hx]; exact hb)
      rw [← hu, ← hx] at hexec
      rw [hexec]
      refine ⟨fun hcl hz => ?_, fun h => ?_⟩
      · rw [Gate.obstructionTo_closing hy hcl]
        subst hy
        exact ⟨fun ho => congrArg _ (State.enterBlocked_lifts hs hz ho), fun ho hn =>
          congrArg _ (State.enterBlocked_waits hs hz ho hn), fun ho hn =>
          congrArg _ (State.enterBlocked_fails hs hz ho hn)⟩
      · rw [Gate.obstructionTo_stored hy h, State.moveGate_stored]
    · have hs : y.state = u.gtc[g].state := hstate (by rw [hu]) (by rw [hy])
      have hexec := execObstruction_new (v := false) hp hv hr (by rw [← hx]; exact hb)
      rw [← hu, ← hx] at hexec
      rw [hexec]
      refine ⟨fun hpw hph hc => ?_, fun hpw hph hc w v hz hw hv => ?_, fun h => ?_⟩
      · have hyc : y.closedLimit = false := by rw [hy]; exact hc
        rw [Gate.obstructionTo_clear hy hpw hph, Gate.closes_away hyc, State.moveGate_entry _ _ _ _ hs]
      · rw [Gate.obstructionTo_clear hy hpw hph]
        subst hy hv
        have hw' : ({ x with obstruction := false } : Gate).shut = w := by rw [hw, hz]; rfl
        subst hw' hz
        exact ⟨fun h => congrArg _ (State.closes_rests hs hc h), fun hd hi ho =>
          congrArg _ (State.closes_opens hs hc hd hi ho), fun hd hi ho =>
          congrArg _ (State.closes_bothLimits hs hc hd hi ho)⟩
      · rw [Gate.obstructionTo_cleared hy h, State.moveGate_stored]
  · intro g v i pins x s u hp hi hu
    rcases hi with ⟨rfl, rfl, hx⟩ | ⟨rfl, rfl, hx⟩ | ⟨rfl, rfl, hx⟩
    · exact input_outside hp rfl hx (by rw [hx]; exact openLimit_same _ v) hu
    · exact input_outside hp rfl hx (by rw [hx]; exact closedLimit_same _ v) hu
    · exact input_outside hp rfl hx (by rw [hx]; exact obstruction_same _ v) hu
  · intro g x s v hv
    refine ⟨fun h => ?_, fun c hf hc hn => ?_⟩
    · rw [hv, State.enterGate, State.recordGate_plain _ _ _ _ (by simpa using h)]
      rfl
    · rw [hv, State.enterGate, decide_eq_true hn, State.recordGate_fault _ _ _ c hf hc]
      rfl

end Sys2Proof.Machine
end

section
/-! ## The page memory arbiter (R143, R145, R150) -/

set_option Elab.async false

namespace Sys2Proof.Machine

namespace State

/-! ### The hand-over -/

theorem grant_held {s : State} (h : s.scp.arbiter.holder.isSome = true) : s.grant = s := by
  simp only [grant, h, if_true]

theorem grant_composer {s : State} (h : s.scp.arbiter.holder = none) (hc : s.scp.arbiter.composerWait = true) :
    s.grant = s.setArbiter { s.scp.arbiter with holder := some .composer, composerWait := false } := by
  simp [grant, h, hc]

section Free
variable {s : State} (h : s.scp.arbiter.holder = none) (hc : s.scp.arbiter.composerWait = false)
include h hc

/-- A free memory that the composer does not wait for goes to a line. -/
theorem grant_line {l : Fin 2} (hl : s.scp.arbiter.nextLine = some l) : s.grant =
    (s.setArbiter { s.scp.arbiter with
      holder := some (.line l), lineWait := setAt s.scp.arbiter.lineWait l false
      lineOrder := s.scp.arbiter.lineOrder.filter (· ≠ l) ++ [l] }).lineGranted l := by
  simp [grant, h, hc, hl]

/-- And without a waiting line to a port. -/
theorem grant_port {p : Port} {q : PageReq} {rest : List PageReq} (hl : s.scp.arbiter.nextLine = none)
    (hp : s.scp.arbiter.nextPort = some p) (hq : s.scp.arbiter.portWait[portIndex p] = q :: rest) :
    s.grant = s.setArbiter { s.scp.arbiter with
      holder := some (.port p (if q.owed then some (replyBody signPageReadCode q.tag .ok (s.pageData q)) else none))
      portWait := setAt s.scp.arbiter.portWait (portIndex p) rest
      portOrder := s.scp.arbiter.portOrder.filter (· ≠ p) ++ [p] } := by
  unfold grant
  dsimp only
  rw [if_neg (by simp [h]), if_neg (by simp [hc]), hl, hp]
  dsimp only
  rw [hq]

theorem grant_none (hl : s.scp.arbiter.nextLine = none) (hp : s.scp.arbiter.nextPort = none) : s.grant = s := by
  simp [grant, h, hc, hl, hp]

end Free

/-- A grant to a line without a transaction, of another kind than a lamp transfer, and of a lamp transfer (R150). -/
theorem lineGranted_idle {s : State} {l : Fin 2} (h : s.flc[l].trans = none) : s.lineGranted l = s := by
  simp only [lineGranted, h]

theorem lineGranted_page {s : State} {l : Fin 2} {t : Trans} (h : s.flc[l].trans = some t)
    (hk : ∀ gen, t.kind ≠ .lamp gen) :
    s.lineGranted l = s.setLine l { s.flc[l] with trans := some { t with granted := true } } := by
  simp only [lineGranted, h]

theorem lineGranted_lamp {s : State} {l : Fin 2} {t : Trans} {gen : Nat} (h : s.flc[l].trans = some t)
    (hk : t.kind = .lamp gen) : s.lineGranted l =
      s.setLine l { s.flc[l] with trans := some { t with granted := true }, wire := some (s.lampsFrame t) } := by
  simp only [lineGranted, h, hk]

/-- The lamp words of a DRAFT (R150). -/
theorem draftLamps_eq (x : Sign) : x.draftLamps = (match x.draft.map Composed.face with
    | some (.lamps word mask) => (word, mask)
    | some (.pages _) | none => (0#8, 0#8)) := by
  unfold Sign.draftLamps
  cases x.draft with
  | none => rfl
  | some c =>
    simp only [Option.map_some, Option.getD_some, Composed.lampBytes]
    cases c.face <;> rfl

/-! ### What a read block carries (R145) -/

/-- A block behind the empty flag clear, or the empty flag alone. -/
def flaggedBlock : Option (List Byte) → List Byte
  | some bytes => 0#8 :: bytes
  | none => [1#8]

section Block
variable {s : State} {q : PageReq} {held : Option Composed} {bufferA : Bool} {head : List Byte}

/-- The bytes of a SIGN_PAGE_READ reply before its block. -/
theorem pageData_eq (hb : bufferA = if q.draft then !(s.signs[q.sign]).liveIsA else (s.signs[q.sign]).liveIsA)
    (hh : held = if bufferA then (s.signs[q.sign]).bufA else (s.signs[q.sign]).bufB)
    (hd : head = put8 q.sign.val ++ putFlag q.draft ++ put8 q.page ++ put8 q.block) : s.pageData q =
      head ++ putOpt16 (held.map Composed.generation) ++ putFlag ((held.map Composed.mark).getD false) ++
        putOpt16 (held.map (fun c => c.check.toNat)) ++ putFlag (s.signs[q.sign]).composing ++
        flaggedBlock (held.bind (fun c => c.blockBytes s.scp.memory q.sign bufferA q.page q.block)) := by
  have hheld : (if q.draft then (s.signs[q.sign]).draft else (s.signs[q.sign]).live) = held := by
    rw [hh, hb]
    unfold Sign.draft Sign.live
    cases q.draft <;> cases (s.signs[q.sign]).liveIsA <;> rfl
  unfold pageData
  dsimp only
  rw [hheld, ← hb, hd]
  split
  · next bytes h =>
    rw [h, List.append_assoc _ (putFlag false)]
    rfl
  · next h =>
    rw [h]
    rfl

end Block

end State

/-! ## SIGN_PAGE_READ -/

section PageRead
variable {a : Asker} {args : List Byte} {s : State} {i : Fin 24}

theorem signPageRead_beyond (h : 24 ≤ get8 args 0 ∨ readBound s s.img.counts.signs 24 ≤ get8 args 0) :
    signPageRead a args s = s.answer a .badRange [] := by
  unfold signPageRead
  dsimp only
  rcases h with h | h
  · rw [finOf_above h]
  · split
    · rw [if_neg (by omega)]
    · rfl

theorem signPageRead_refused {rc : ReplyCode} (hi : get8 args 0 = i.val)
    (hb : i.val < readBound s s.img.counts.signs 24) (hr : pageRefusal (s.lampSign i.val) args = some rc) :
    signPageRead a args s = s.answer a rc [] := by
  simp only [signPageRead, hi, finOf_val, if_pos hb, hr]

/-- A read that passes its tests asks the arbiter, and is answered at once without a valid map. -/
theorem signPageRead_passed {q : PageReq} (hi : get8 args 0 = i.val) (hb : i.val < readBound s s.img.counts.signs 24)
    (hr : pageRefusal (s.lampSign i.val) args = none)
    (hq : q = ⟨true, a.tag, i, get8 args 1 == 1, get8 args 2, get8 args 3⟩) : signPageRead a args s =
      if s.map.valid then s.portAsks a.port q else s.answer a .ok (s.pageData q ++ mapStateTail s) := by
  subst hq
  simp only [signPageRead, hi, finOf_val, if_pos hb, hr]

theorem pageRefusal_buffer {lamp : Bool} (h : 1 < get8 args 1) : pageRefusal lamp args = some .badValue := if_pos h

theorem pageRefusal_block {lamp : Bool} (hb : get8 args 1 ≤ 1) (h : 1 < get8 args 2 ∨ 8 < get8 args 3) :
    pageRefusal lamp args = some .badRange := by
  rw [pageRefusal, if_neg (by omega), if_pos h]

theorem pageRefusal_rest {lamp : Bool} (hb : get8 args 1 ≤ 1) (hp : get8 args 2 ≤ 1) (hk : get8 args 3 ≤ 8) :
    pageRefusal lamp args = if lamp = true ∧ get8 args 3 ≠ 0 then some .badRange else none := by
  rw [pageRefusal, if_neg (by omega), if_neg (by omega)]

end PageRead

/-- The waiting ports are those with a request (R143). -/
theorem nextPort_eq (a : Arbiter) : a.nextPort =
    a.portOrder.find? (fun p => decide (a.portWait[portIndex p] ≠ [])) := by
  unfold Arbiter.nextPort
  congr 1
  funext p
  cases a.portWait[portIndex p] <;> rfl

/-- The one element that passes a test is found. -/
theorem find?_only {α : Type} {l : List α} {t : α → Bool} {x : α} (hx : x ∈ l) (ht : t x = true)
    (h : ∀ y, t y = true → y = x) : l.find? t = some x := by
  cases hf : l.find? t with
  | none => exact absurd ht (List.find?_eq_none.mp hf x hx)
  | some y => rw [h y (List.find?_some hf)]

/-- A port that asks for a memory which nobody holds or waits for has it at once (R143). -/
theorem State.portAsks_free {s : State} {p : Port} {q : PageReq} (hh : s.scp.arbiter.holder = none)
    (hc : s.scp.arbiter.composerWait = false) (hl : ∀ l : Fin 2, s.scp.arbiter.lineWait[l] = false)
    (hw : ∀ k : Fin 3, s.scp.arbiter.portWait[k] = []) (hp : p ∈ s.scp.arbiter.portOrder) (ho : q.owed = true) :
    s.portAsks p q = s.setArbiter { s.scp.arbiter with
      holder := some (.port p (some (replyBody signPageReadCode q.tag .ok (s.pageData q))))
      portOrder := s.scp.arbiter.portOrder.filter (· ≠ p) ++ [p] } := by
  have hwait : s.scp.arbiter.portWait[portIndex p] ++ [q] = [q] := by rw [hw]; rfl
  have hback : setAt s.scp.arbiter.portWait (portIndex p) [] = s.scp.arbiter.portWait := by
    rw [← hw (portIndex p)]
    exact setAt_self _ _
  let w := s.setArbiter { s.scp.arbiter with portWait := setAt s.scp.arbiter.portWait (portIndex p) [q] }
  have hline : w.scp.arbiter.nextLine = none :=
    List.find?_eq_none.mpr fun l _ => by
      change ¬s.scp.arbiter.lineWait[l] = true
      rw [hl l]
      decide
  have hfirst : w.scp.arbiter.portWait[portIndex p] = [q] := setAt_get_same _ _ _
  have hport : w.scp.arbiter.nextPort = some p := by
    refine find?_only hp (by rw [hfirst]; rfl) fun k hk => ?_
    by_contra hne
    have hother : w.scp.arbiter.portWait[portIndex k] = [] :=
      (setAt_get_other _ _ fun e => hne (portIndex_inj e).symm).trans (hw _)
    rw [hother] at hk
    cases hk
  have hgrant := grant_port (s := w) hh hc hline hport hfirst
  rw [if_pos ho] at hgrant
  rw [portAsks, hwait]
  refine hgrant.trans ?_
  simp only [w, setArbiter, setAt_setAt, hback]
  rfl

/-- Settles O55: the tests of SIGN_PAGE_READ, the end of an access, the hand-over and the block are read off their own
lemmas. -/
theorem pageMemoryIsShared : Obligations.PageMemoryIsShared := by
  refine ⟨fun p tag args s h hb => exec_answered h tag (signPageRead_beyond hb),
    fun p tag args s i h hi hb => ⟨fun hv => ?_, fun hv hp => ?_, fun hv hp hk q hq => ⟨fun hl hz => ?_, fun hl => ?_⟩⟩,
    fun s v hp hv => ?_, fun s a line port ha hline hport => ?_, fun s q x bufferA held head hx hbuf hheld hhead => ?_⟩
  · exact exec_answered h tag (signPageRead_refused hi hb (pageRefusal_buffer hv))
  · exact exec_answered h tag (signPageRead_refused hi hb (pageRefusal_block hv hp))
  · have hr : pageRefusal (s.lampSign i.val) args = some .badRange := by
      rw [pageRefusal_rest hv hp hk, if_pos ⟨hl, hz⟩]
    exact exec_answered h tag (signPageRead_refused hi hb hr)
  · have hr : pageRefusal (s.lampSign i.val) args = none := by
      rw [pageRefusal_rest hv hp hk, if_neg]
      rintro ⟨h1, h2⟩
      rcases hl with h3 | h3
      · exact Bool.false_ne_true (h3.symm.trans h1)
      · exact h2 h3
    have passed := signPageRead_passed (a := ⟨p, 0x11, tag⟩) (s := s.serving p) hi hb hr hq
    have hasks : s.map.valid = true → exec (.signPageRead p tag args) s = .next ((s.serving p).portAsks p q) := fun hm =>
      (exec_taken h tag).trans (congrArg _ (passed.trans (if_pos hm)))
    refine ⟨fun hm => ?_, fun hm => hasks hm, fun hm hh => ?_, fun hm hh hc hlw hpw hpo => ?_⟩
    · exact exec_answered h tag (passed.trans (if_neg fun e => Bool.false_ne_true (hm.symm.trans e)))
    · exact (hasks hm).trans (congrArg _ (State.grant_held hh))
    · subst hq
      exact (hasks hm).trans (congrArg _ (State.portAsks_free (s := s.serving p) hh hc hlw hpw hpo rfl))
  · have hexec : exec .pageMemoryAccessEnd s = .next s.pageMemoryAccessEnd := by
      simp [exec, execPageMemoryAccessEnd, State.whenPowered, hp]
    have hrel : s.release = v.grant := by rw [hv]; rfl
    rw [hexec]
    refine ⟨fun h => ?_, fun l h => ?_, fun p h => ?_, fun p body w h hw => ?_, fun h hc => ?_,
      fun c r op rest w h hcomp hr htodo hw => ?_⟩
    · simp only [State.pageMemoryAccessEnd, h]
    · simp only [State.pageMemoryAccessEnd, h, hrel]
    · simp only [State.pageMemoryAccessEnd, h, hrel]
    · simp only [State.pageMemoryAccessEnd, h, hrel, hw]
      rfl
    · simp only [State.pageMemoryAccessEnd, h]
      unfold State.composerAccessEnd
      cases hcomp : s.scp.composer with
      | none => exact congrArg _ hrel
      | some c =>
        dsimp only
        split
        · next r op rest hr ht => rcases hc c hcomp with h1 | h1 <;> simp_all
        · exact congrArg _ hrel
    · simp only [State.pageMemoryAccessEnd, h, State.composerAccessEnd, hcomp, hr, htodo]
      rw [hw, hv]
      refine ⟨fun hrest => ?_, fun hrest => ?_⟩
      · rw [hrest]
        rfl
      · rw [if_neg (by simpa using hrest)]
        rfl
  · subst ha
    refine ⟨State.grant_held, fun h hc => State.grant_composer h hc, fun l u h hc hl hu => ?_,
      fun p q rest h hc hl hp hq =>
        State.grant_port h hc (hline.symm.trans hl) (((nextPort_eq _).trans hport.symm).trans hp) hq,
      fun h hc hl hp => State.grant_none h hc (hline.symm.trans hl) (((nextPort_eq _).trans hport.symm).trans hp)⟩
    · have hgrant : s.grant = u.lineGranted l := (State.grant_line h hc (hline.symm.trans hl)).trans (by rw [hu]; rfl)
      have hflc : u.flc[l] = s.flc[l] := by rw [hu]
      rw [hgrant, ← hflc]
      refine ⟨State.lineGranted_idle, fun t ht => ⟨State.lineGranted_page ht, fun gen draft lamps hk hdraft hlamps => ?_⟩⟩
      have hw : (s.signs[t.sign]).draftLamps = lamps := by
        rw [State.draftLamps_eq, hlamps, hdraft]
        rfl
      rw [State.lineGranted_lamp ht hk, ← hw, hu]
      rfl
  · subst hx
    have hdata := State.pageData_eq hbuf hheld hhead
    refine ⟨fun hn => ?_, fun d full hd hfull => ?_⟩
    · rw [hdata, hn]
      simp [putOpt16, putFlag, State.flaggedBlock]
    · rw [hd] at hdata
      have hshort : s.pageData q = full ++ State.flaggedBlock (d.blockBytes s.scp.memory q.sign bufferA q.page q.block) := by
        rw [hdata, hfull]
        rfl
      refine ⟨fun n hface => ⟨fun hp => ?_, fun hp => ?_⟩, fun word mask hface => ⟨fun hp => ?_, fun hp => ?_⟩⟩
      · simp only [hshort, Composed.blockBytes, hface, if_pos hp]
        rfl
      · simp only [hshort, Composed.blockBytes, hface, if_neg (Nat.not_lt.mpr hp)]
        rfl
      · simp only [hshort, Composed.blockBytes, hface, if_pos hp]
        rfl
      · simp only [hshort, Composed.blockBytes, hface, if_neg hp]
        rfl

end Sys2Proof.Machine
end

section
/-! ## The map checks (R1, R11): the map is valid exactly when MC01 to MC10 hold -/

set_option Elab.async false

namespace Sys2Proof.Machine

/-! ### A list of failures is empty when no record fails -/

namespace ImgUnit

theorem failuresOf_eq_nil {α : Type} {code : CheckCode} {kind : RecordKind} {n : Nat} {rec? : Nat → Option α}
    {bad : Nat → α → Bool} :
    failuresOf code kind n rec? bad = [] ↔ ∀ i < n, ∀ r, rec? i = some r → bad i r = false := by
  simp only [failuresOf, List.map_eq_nil_iff, List.filter_eq_nil_iff, List.mem_range]
  refine forall₂_congr fun i _ => ?_
  cases rec? i <;> simp

/-- Where only the indices below `n` have a record, the bound says nothing. -/
theorem failuresOf_present {α : Type} {code : CheckCode} {kind : RecordKind} {n : Nat} {rec? : Nat → Option α}
    {bad : Nat → α → Bool} (present : ∀ i r, rec? i = some r → i < n) :
    failuresOf code kind n rec? bad = [] ↔ ∀ i r, rec? i = some r → bad i r = false :=
  failuresOf_eq_nil.trans ⟨fun h i r hr => h i (present i r hr) r hr, fun h i _ => h i⟩

variable {m : ImgUnit}

theorem segment?_present (i r) (h : m.segment? i = some r) : i < m.counts.segments := by
  simp only [segment?, Option.ite_none_right_eq_some] at h
  exact h.1.1

theorem sign?_present (i r) (h : m.sign? i = some r) : i < m.counts.signs := by
  simp only [sign?, Option.ite_none_right_eq_some] at h
  exact h.1.1

theorem gate?_present (i r) (h : m.gate? i = some r) : i < m.counts.gates := by
  simp only [gate?, Option.ite_none_right_eq_some] at h
  exact h.1.1

theorem path?_present (i r) (h : m.path? i = some r) : i < m.counts.paths := by
  simp only [path?, Option.ite_none_right_eq_some] at h
  exact h.1.1

theorem station?_present (i r) (h : m.station? i = some r) : i < m.counts.stations := by
  simp only [station?, Option.ite_none_right_eq_some] at h
  exact h.1.1

/-! ### MC01 and MC03 -/

theorem rowFailures_eq_nil {kind : RecordKind} {n : Nat} {rowOf : Nat → Nat} :
    m.rowFailures kind n rowOf = [] ↔ ∀ i < n, m.ok (rowOf i) = true := by
  simp [rowFailures, List.filter_eq_nil_iff]

theorem mem_counts_rows {c : Counts} {P : Nat → Prop} :
    (∀ n ∈ c.rows, P n) ↔
      (((∀ i < c.segments, P (rowOfSegment i)) ∧ ∀ i < c.signs, P (rowOfSign i)) ∧ ∀ i < c.gates, P (rowOfGate i)) ∧
        (∀ i < c.paths, P (rowOfPath i)) ∧ ∀ i < c.stations, P (rowOfStation i) := by
  simp only [Counts.rows, List.mem_append, or_imp, forall_and, List.forall_mem_map, List.mem_range, and_assoc]

/-- MC03 over the rows of one kind. -/
theorem fieldFailures_eq_nil {kind : RecordKind} {n : Nat} {rowOf : Nat → Nat} {good : List Byte → Bool} :
    failuresOf .mc03 kind n (m.raw? n rowOf) (fun _ d => !good d) = [] ↔
      ∀ i < n, m.ok (rowOf i) = true → good (m.row (rowOf i)) = true := by
  simp only [failuresOf_eq_nil, raw?, Option.ite_none_right_eq_some, Option.some.injEq, Bool.not_eq_false']
  exact forall₂_congr fun i hi => ⟨fun h hok => h _ ⟨⟨hi, hok⟩, rfl⟩, fun h d ⟨⟨_, hok⟩, hd⟩ => hd ▸ h hok⟩

/-! ### MC04: a reference names a present record -/

theorem absentRef_eq_false {count n : Nat} : absentRef count n = false ↔ n < count := by
  simp [absentRef]

theorem segmentRefs_eq_false {r : PassSegment} :
    m.segmentRefs r = false ↔ ∀ k, r.station = some k → k < m.counts.stations := by
  cases h : r.station <;> simp [segmentRefs, h, absentRef_eq_false]

theorem signRefs_eq_false {r : SignRec} : m.signRefs r = false ↔ r.first < m.nseg ∧ r.last < m.nseg := by
  simp only [signRefs, Bool.or_eq_false_iff, absentRef_eq_false]

theorem gateRefs_eq_false {r : GateRec} :
    m.gateRefs r = false ↔ r.seg < m.nseg ∧ ∀ j ∈ r.approach, j < m.counts.signs := by
  simp only [gateRefs, Bool.or_eq_false_iff, List.any_eq_false, Bool.not_eq_true, absentRef_eq_false]

theorem pathRefs_eq_false {r : PathRec} :
    m.pathRefs r = false ↔ r.first < m.nseg ∧ r.last < m.nseg ∧ ∀ g ∈ r.barriers, g < m.counts.gates := by
  simp only [pathRefs, Bool.or_eq_false_iff, List.any_eq_false, Bool.not_eq_true, absentRef_eq_false, and_assoc]

/-! ### MC05: the segments of a station form one run -/

/-- Every index between two members is a member. -/
def Contiguous (l : List Nat) : Prop := ∀ a b c, a ∈ l → c ∈ l → a < b → b < c → b ∈ l

/-- A rising list from `a` to `b` has as many members as the interval exactly when it leaves no gap. -/
theorem length_eq_iff_contiguous {a : Nat} {t : List Nat} (hl : (a :: t).Pairwise (· < ·)) :
    (a :: t).getLast (List.cons_ne_nil a t) + 1 - a = (a :: t).length ↔ Contiguous (a :: t) := by
  generalize hb : (a :: t).getLast (List.cons_ne_nil a t) = b
  have hmem : b ∈ a :: t := hb ▸ List.getLast_mem _
  have hle : (a :: t).Pairwise (· ≤ ·) := hl.imp Nat.le_of_lt
  have hbounds : ∀ x ∈ a :: t, a ≤ x ∧ x ≤ b := fun x hx =>
    ⟨hle.rel_head hx, hb ▸ hle.rel_getLast hx⟩
  have hsub : (a :: t).toFinset ⊆ Finset.Icc a b := fun x hx =>
    Finset.mem_Icc.2 (hbounds x (List.mem_toFinset.1 hx))
  have hcard : (a :: t).toFinset.card = (a :: t).length :=
    List.toFinset_card_of_nodup (hl.imp Nat.ne_of_lt)
  rw [← hcard, ← Nat.card_Icc]
  constructor
  · intro h x y z hx hz hxy hyz
    have hfull := Finset.eq_of_subset_of_card_le hsub h.le
    have : y ∈ (a :: t).toFinset := by
      rw [hfull, Finset.mem_Icc]
      exact ⟨(hbounds x hx).1.trans hxy.le, hyz.le.trans (hbounds z hz).2⟩
    exact List.mem_toFinset.1 this
  · intro h
    refine congrArg Finset.card (Finset.Subset.antisymm (fun y hy => ?_) hsub)
    obtain ⟨hay, hyb⟩ := Finset.mem_Icc.1 hy
    refine List.mem_toFinset.2 ?_
    rcases hay.eq_or_lt with rfl | hay
    · exact List.mem_cons_self
    · rcases hyb.eq_or_lt with rfl | hyb
      · exact hmem
      · exact h a y b List.mem_cons_self hmem hay hyb

theorem segmentsOf_rising (k : Nat) : (m.segmentsOf k).Pairwise (· < ·) := List.pairwise_lt_range.filter _

theorem spanBroken_eq_false {k : Nat} : m.spanBroken k = false ↔ Contiguous (m.segmentsOf k) := by
  have hrising := m.segmentsOf_rising k
  unfold spanBroken span
  cases h : m.segmentsOf k with
  | nil => simp [Contiguous]
  | cons a t =>
    rw [h] at hrising
    simpa [bne_eq_false_iff_eq] using length_eq_iff_contiguous hrising

/-! ### MC06: drop addresses -/

theorem lineMates_length {i : Nat} {r : SignRec} :
    (m.lineMates i r).length =
      ((List.range i).filter (fun j => (m.sign? j).any (fun q => q.line == r.line))).length := by
  unfold lineMates
  induction List.range i with
  | nil => rfl
  | cons j l ih =>
    cases hj : m.sign? j with
    | none => simp [hj, ih]
    | some q => by_cases hq : q.line = r.line <;> simp [hj, hq, ih]

theorem mem_lineMates {i : Nat} {r q : SignRec} :
    q ∈ m.lineMates i r ↔ (∃ j < i, m.sign? j = some q) ∧ q.line = r.line := by
  simp [lineMates]

theorem dropClash_eq_false {i : Nat} {r : SignRec} : m.dropClash i r = false ↔
    (∀ j < i, ∀ q, m.sign? j = some q → q.line = r.line → q.addr ≠ r.addr) ∧
      ((List.range i).filter (fun j => (m.sign? j).any (fun q => q.line == r.line))).length < 16 := by
  simp only [dropClash, Bool.or_eq_false_iff, List.any_eq_false, mem_lineMates, lineMates_length, beq_iff_eq,
    decide_eq_false_iff_not, not_le]
  exact and_congr_left' ⟨fun h j hj q hq hl => h q ⟨⟨j, hj, hq⟩, hl⟩, fun h q ⟨⟨j, hj, hq⟩, hl⟩ => h j hj q hq hl⟩

/-- A symmetric demand on every pair of records, against the lower records alone and against all others. -/
theorem forall_lower_iff {α : Type} {rec? : Nat → Option α} {R : α → α → Prop} (symm : ∀ a b, R a b → R b a) :
    (∀ i r, rec? i = some r → ∀ j < i, ∀ q, rec? j = some q → R r q) ↔
      ∀ i r, rec? i = some r → ∀ j q, rec? j = some q → j ≠ i → R r q := by
  refine ⟨fun h i r hr j q hq hji => ?_, fun h i r hr j hji q hq => h i r hr j q hq hji.ne⟩
  rcases Nat.lt_or_gt_of_ne hji with hlt | hgt
  · exact h i r hr j hlt q hq
  · exact symm _ _ (h j q hq i hgt r hr)

/-- MC06 over all signs. -/
theorem dropClash_all : (∀ i r, m.sign? i = some r → m.dropClash i r = false) ↔
    ∀ i r, m.sign? i = some r →
      (∀ j q, m.sign? j = some q → j ≠ i → q.line = r.line → q.addr ≠ r.addr) ∧
        ((List.range i).filter (fun j => (m.sign? j).any (fun q => q.line == r.line))).length < 16 := by
  simp only [dropClash_eq_false, imp_and, forall_and]
  exact and_congr_left' (forall_lower_iff (rec? := m.sign?) (R := fun r q => q.line = r.line → q.addr ≠ r.addr)
    fun _ _ h hl he => h hl.symm he.symm)

/-! ### MC07: the watch range runs forward -/

/-- The watch range runs forward in the facing direction over 1 to 4 segments. -/
def WatchesForward (r : SignRec) : Prop :=
  match r.facing with
  | .S => r.first ≤ r.last ∧ r.last ≤ r.first + 3
  | .N => r.last ≤ r.first ∧ r.first ≤ r.last + 3

theorem watchBad_eq_false {r : SignRec} : watchBad r = false ↔ WatchesForward r := by
  cases h : r.facing <;> simp [watchBad, WatchesForward, h]

/-! ### MC08: repeated ids and inputs -/

theorem hasRepeat_eq_false : ∀ {l : List Nat}, hasRepeat l = false ↔ l.Nodup
  | [] => by simp [hasRepeat]
  | a :: t => by simp [hasRepeat, hasRepeat_eq_false (l := t)]

theorem pathListBad_eq_false {i : Nat} {r : PathRec} : m.pathListBad i r = false ↔
    r.barriers.Nodup ∧ ∀ j < i, ∀ q, m.path? j = some q → r.input.isSome = true → q.input ≠ r.input := by
  simp only [pathListBad, Bool.or_eq_false_iff, hasRepeat_eq_false, Bool.and_eq_false_imp, List.any_eq_false,
    List.mem_filterMap, List.mem_range, beq_iff_eq]
  exact and_congr_right' ⟨fun h j hj q hq hi => h hi q ⟨j, hj, hq⟩, fun h hi q ⟨j, hj, hq⟩ => h j hj q hq hi⟩

/-- MC08 over all paths. -/
theorem pathListBad_all : (∀ i r, m.path? i = some r → m.pathListBad i r = false) ↔
    ∀ i r, m.path? i = some r → r.barriers.Nodup ∧
      ∀ j q, m.path? j = some q → j ≠ i → r.input.isSome = true → q.input ≠ r.input := by
  simp only [pathListBad_eq_false, imp_and, forall_and]
  exact and_congr_right' (forall_lower_iff (rec? := m.path?) (R := fun r q => r.input.isSome = true → q.input ≠ r.input)
    fun _ _ h hi he => h (he ▸ hi) he.symm)

/-! ### MC09 and MC10 -/

theorem reachBad_eq_false {r : PathRec} :
    m.reachBad r = false ↔ ∀ g ∈ r.barriers, ∀ q, m.gate? g = some q → m.inReach r q = true := by
  simp only [reachBad, List.any_eq_false, Bool.not_eq_true]
  refine forall₂_congr fun g _ => ?_
  cases m.gate? g <;> simp

/-! ### The map state -/

theorem mapUnit_noHeader (h : m.header = none) : m.mapUnit = ⟨false, some ⟨.mc01, .header, 0⟩, 1⟩ := by
  simp [mapUnit, failures, h]

/-- The map is valid when no check of R11 fails, check by check. -/
theorem mapUnit_valid {h : List Byte} (hh : m.header = some h) : m.mapUnit.valid = true ↔
    (∀ n ∈ m.counts.rows, m.ok n = true) ∧
    (get8 h 0 = m.counts.segments ∧ get8 h 1 = m.counts.signs ∧ get8 h 2 = m.counts.gates ∧
      get8 h 3 = m.counts.paths ∧ get8 h 4 = m.counts.stations) ∧
    (headerFields h = true ∧
      (∀ i < m.counts.segments, m.ok (rowOfSegment i) = true → segmentFields (m.row (rowOfSegment i)) = true) ∧
      (∀ i < m.counts.signs, m.ok (rowOfSign i) = true → signFields (m.row (rowOfSign i)) = true) ∧
      (∀ i < m.counts.gates, m.ok (rowOfGate i) = true → gateFields (m.row (rowOfGate i)) = true) ∧
      (∀ i < m.counts.paths, m.ok (rowOfPath i) = true → pathFields (m.row (rowOfPath i)) = true) ∧
      (∀ i < m.counts.stations, m.ok (rowOfStation i) = true → stationFields (m.row (rowOfStation i)) = true)) ∧
    ((∀ i r, m.segment? i = some r → ∀ k, r.station = some k → k < m.counts.stations) ∧
      (∀ i r, m.sign? i = some r → r.first < m.nseg ∧ r.last < m.nseg) ∧
      (∀ i r, m.gate? i = some r → r.seg < m.nseg ∧ ∀ j ∈ r.approach, j < m.counts.signs) ∧
      (∀ i r, m.path? i = some r → r.first < m.nseg ∧ r.last < m.nseg ∧ ∀ g ∈ r.barriers, g < m.counts.gates)) ∧
    (∀ k r, m.station? k = some r → Contiguous (m.segmentsOf k)) ∧
    (∀ i r, m.sign? i = some r →
      (∀ j q, m.sign? j = some q → j ≠ i → q.line = r.line → q.addr ≠ r.addr) ∧
        ((List.range i).filter (fun j => (m.sign? j).any (fun q => q.line == r.line))).length < 16) ∧
    (∀ i r, m.sign? i = some r → WatchesForward r) ∧
    ((∀ i r, m.gate? i = some r → r.approach.Nodup) ∧
      (∀ i r, m.path? i = some r → r.barriers.Nodup ∧
        ∀ j q, m.path? j = some q → j ≠ i → r.input.isSome = true → q.input ≠ r.input)) ∧
    (∀ k r, m.station? k = some r → r.strong ≤ r.storm) ∧
    (∀ i r, m.path? i = some r → ∀ g ∈ r.barriers, ∀ q, m.gate? g = some q → m.inReach r q = true) := by
  have hrows := mem_counts_rows (c := m.counts) (P := fun n => m.ok n = true)
  simp only [mapUnit, List.isEmpty_iff, failures, hh, List.append_eq_nil_iff, rowFailures_eq_nil, fieldFailures_eq_nil,
    failuresOf_present segment?_present, failuresOf_present sign?_present, failuresOf_present gate?_present,
    failuresOf_present path?_present, failuresOf_present station?_present, segmentRefs_eq_false, signRefs_eq_false,
    gateRefs_eq_false, pathRefs_eq_false, spanBroken_eq_false, dropClash_all, watchBad_eq_false, hasRepeat_eq_false,
    pathListBad_all, reachBad_eq_false, hrows, decide_eq_false_iff_not, not_lt, ite_eq_left_iff, List.cons_ne_self, imp_false, not_not, and_assoc]

end ImgUnit

end Sys2Proof.Machine
end

section
/-! ## ORD at a start (R39): what the retained table keeps -/

set_option Elab.async false

namespace Sys2Proof.Machine

/-! ### The table under one operation -/

theorem OrdUnit.find_replace_other {u : OrdUnit} {o : Order} {n : Nat} (h : n ≠ o.number) :
    (u.replace o).find n = u.find n := by
  simp only [find, replace]
  induction u.table with
  | nil => rfl
  | cons x l ih =>
    by_cases hx : x.number = o.number
    · simp [hx, Ne.symm h, ih]
    · by_cases hn : x.number = n <;> simp [hx, hn, h, ih]

theorem OrdUnit.find_replace_same {u : OrdUnit} {o x : Order} (h : u.find o.number = some x) :
    (u.replace o).find o.number = some o := by
  revert h
  simp only [find, replace]
  induction u.table with
  | nil => simp
  | cons y l ih =>
    by_cases hy : y.number = o.number
    · simp [hy]
    · simpa [hy] using ih

namespace State

theorem retire_ord (s : State) (n : Nat) (r : EndReason) : (s.retire n r).ord = s.ord.remove n := by
  unfold retire
  cases h : s.ord.find n with
  | none =>
    have hall : s.ord.table.filter (fun o => o.number != n) = s.ord.table :=
      List.filter_eq_self.2 fun o ho => by
        simpa using List.find?_eq_none.1 h o ho
    exact (congrArg (fun l => { s.ord with table := l }) hall).symm
  | some o => rfl

theorem changeState_ord (s : State) (o : Order) (st : OrderState) :
    (s.changeState o st).ord = (s.putOrder { o with state := st } o.state).ord := rfl

theorem changeState_counter (s : State) (o : Order) (st : OrderState) :
    (s.changeState o st).ord.counter = s.ord.counter := by
  rw [changeState_ord, putOrder]
  split <;> rfl

theorem changeState_find_other {s : State} {o : Order} {st : OrderState} {n : Nat} (h : n ≠ o.number) :
    (s.changeState o st).ord.find n = s.ord.find n := by
  rw [changeState_ord, putOrder]
  split
  · exact OrdUnit.find_replace_other (o := { o with state := st, stamp := nextStamp s.ord.stamps }) h
  · exact OrdUnit.find_replace_other (o := { o with state := st }) h

/-- An entry that changes its state stands in the table as `changeState` stores it (R20, R29). -/
theorem changeState_find_same {s : State} {o x : Order} {st : OrderState} (h : s.ord.find o.number = some x) :
    (s.changeState o st).ord.find o.number = some (s.stored { o with state := st } o.state) := by
  rw [changeState_ord, putOrder, stored]
  split
  · exact OrdUnit.find_replace_same (o := { o with state := st, stamp := nextStamp s.ord.stamps }) h
  · exact OrdUnit.find_replace_same (o := { o with state := st }) h

/-! ### Purge and expiry keep the entries that pass their test -/

/-- Retiring entries of a list one by one, by a test that no retirement changes. -/
theorem foldl_retire_ord {out : State → Order → Bool} {r : EndReason}
    (still : ∀ s n o, out (s.retire n r) o = out s o) (l : List Order) (s : State) :
    (l.foldl (fun s o => if out s o then s.retire o.number r else s) s).ord =
      { s.ord with table := s.ord.table.filter (fun x => l.all (fun o => !out s o || x.number != o.number)) } := by
  induction l generalizing s with
  | nil => simp
  | cons o l ih =>
    rw [List.foldl_cons, ih]
    cases h : out s o with
    | true =>
      simp only [reduceIte, still, retire_ord, OrdUnit.remove, List.filter_filter, List.all_cons, h, Bool.not_true,
        Bool.false_or, Bool.and_comm]
    | false => simp only [Bool.false_eq_true, reduceIte, List.all_cons, h, Bool.not_false, Bool.true_or, Bool.true_and]

/-- The numbers of an ascending table tell its entries apart. -/
theorem ascending_inj {s : State} (hs : s.ascending) {x o : Order} (hx : x ∈ s.ord.table) (ho : o ∈ s.ord.table)
    (h : x.number = o.number) : x = o :=
  List.inj_on_of_nodup_map (f := Order.number) (List.pairwise_map.2 (hs.imp Nat.ne_of_lt)) hx ho h

theorem ascending_find {s : State} (hs : s.ascending) {o : Order} (ho : o ∈ s.ord.table) :
    s.ord.find o.number = some o := by
  cases h : s.ord.find o.number with
  | none => exact absurd (beq_self_eq_true o.number) (List.find?_eq_none.1 h o ho)
  | some x => rw [ascending_inj hs (List.mem_of_find?_eq_some h) ho (by simpa using List.find?_some h)]

/-- Over its own table, where every number stands once, that leaves the entries that fail the test. -/
theorem foldl_retire_table {out : State → Order → Bool} {r : EndReason}
    (still : ∀ s n o, out (s.retire n r) o = out s o) {s : State} (hs : s.ascending) :
    (s.ord.table.foldl (fun s o => if out s o then s.retire o.number r else s) s).ord =
      { s.ord with table := s.ord.table.filter (fun x => !out s x) } := by
  rw [foldl_retire_ord still]
  have hsame : ∀ x ∈ s.ord.table, s.ord.table.all (fun o => !out s o || x.number != o.number) = !out s x := by
    intro x hx
    rw [Bool.eq_iff_iff, List.all_eq_true]
    refine ⟨fun h => by simpa using h x hx, fun h o ho => ?_⟩
    by_cases hn : x.number = o.number
    · rw [← ascending_inj hs hx ho hn, h, Bool.true_or]
    · simp [hn]
  exact congrArg (fun l => { s.ord with table := l }) (List.filter_congr hsame)

theorem fits_retire (s : State) (n : Nat) (r : EndReason) (o : Order) : (s.retire n r).fits o = s.fits o := by
  unfold fits
  rw [(retire_frame s n r).img]

theorem fits_purged (s : State) (n : Nat) (o : Order) : (!(s.retire n .purged).fits o) = !s.fits o :=
  congrArg (!·) (fits_retire s n _ o)

theorem ended_expired (s : State) (n : Nat) (o : Order) : o.ended (s.retire n .expired).now = o.ended s.now :=
  congrArg (fun m => o.ended m.clock) (retire_frame s n _).img

theorem purgeOrders_valid {s : State} (hv : s.map.valid = true) : s.purgeOrders =
    s.ord.table.foldl (fun s o => if !s.fits o then s.retire o.number .purged else s) s := by
  rw [purgeOrders, if_pos hv]
  simp only [Bool.not_eq_true', ← Bool.not_eq_true, ite_not]

theorem purgeOrders_invalid {s : State} (hv : s.map.valid = false) : s.purgeOrders = s :=
  if_neg fun h => Bool.false_ne_true (hv.symm.trans h)

/-- R39 step 1. -/
theorem purgeOrders_ord {s : State} (hs : s.ascending) : s.purgeOrders.ord =
    { s.ord with table := s.ord.table.filter (fun o => !s.map.valid || s.fits o) } := by
  cases hv : s.map.valid with
  | true =>
    rw [purgeOrders_valid hv, foldl_retire_table fits_purged hs]
    simp only [Bool.not_not, Bool.not_true, Bool.false_or]
  | false =>
    rw [purgeOrders_invalid hv]
    simp only [Bool.not_false, Bool.true_or, List.filter_true]

theorem purgeOrders_counter (s : State) : s.purgeOrders.ord.counter = s.ord.counter := by
  cases hv : s.map.valid with
  | true => rw [purgeOrders_valid hv, foldl_retire_ord fits_purged]
  | false => rw [purgeOrders_invalid hv]

/-- R39 step 2. -/
theorem expireOrders_ord {s : State} (hs : s.ascending) : s.expireOrders.ord =
    { s.ord with table := s.ord.table.filter (fun o => !o.ended s.now) } :=
  foldl_retire_table (out := fun s o => o.ended s.now) ended_expired hs

theorem expireOrders_counter (s : State) : s.expireOrders.ord.counter = s.ord.counter := by
  rw [expireOrders, foldl_retire_ord (out := fun s o => o.ended s.now) ended_expired]

/-! ### The entries that remain take their state at the clock -/

/-- R39 step 3 on one entry. -/
def restateOrder (s : State) (o : Order) : State :=
  if o.state = .active ∨ o.stateAt s.now = o.state then s else s.changeState o (o.stateAt s.now)

theorem restateOrders_eq (s : State) : s.restateOrders = s.ord.table.foldl restateOrder s := rfl

/-- What R39 step 3 makes of an entry: an ACTIVE one stays as it is, any other has its state at `now`, with a new stamp
only when that is ACTIVE. -/
def restated (now : Nat) (o : Order) (r : Option Order) : Prop :=
  (o.state = .active → r = some o) ∧
  (o.state ≠ .active → ∃ stamp, r = some { o with state := o.stateAt now, stamp := stamp } ∧
    (o.stateAt now ≠ .active → stamp = o.stamp))

theorem restateOrder_now (s : State) (o : Order) : (s.restateOrder o).now = s.now := by
  unfold restateOrder
  split
  · rfl
  · exact congrArg ImgUnit.clock (changeState_frame s _ _).img

theorem restateOrder_counter (s : State) (o : Order) : (s.restateOrder o).ord.counter = s.ord.counter := by
  unfold restateOrder
  split
  · rfl
  · exact changeState_counter ..

theorem restateOrder_find_other {s : State} {o : Order} {n : Nat} (h : n ≠ o.number) :
    (s.restateOrder o).ord.find n = s.ord.find n := by
  unfold restateOrder
  split
  · rfl
  · exact changeState_find_other h

theorem restateOrder_find_same {s : State} {o : Order} (h : s.ord.find o.number = some o) :
    restated s.now o ((s.restateOrder o).ord.find o.number) := by
  unfold restateOrder
  by_cases ha : o.state = .active
  · rw [if_pos (.inl ha)]
    exact ⟨fun _ => h, fun hne => absurd ha hne⟩
  refine ⟨fun hact => absurd hact ha, fun _ => ?_⟩
  by_cases hsame : o.stateAt s.now = o.state
  · rw [if_pos (.inr hsame)]
    exact ⟨o.stamp, by rw [h, hsame], fun _ => rfl⟩
  · rw [if_neg (by simp [ha, hsame]), changeState_find_same h, stored]
    split
    · next hst => exact ⟨nextStamp s.ord.stamps, rfl, fun hne => absurd hst.1 hne⟩
    · exact ⟨o.stamp, rfl, fun _ => rfl⟩

theorem foldl_restate_now (l : List Order) (s : State) : (l.foldl restateOrder s).now = s.now := by
  induction l generalizing s with
  | nil => rfl
  | cons o l ih => rw [List.foldl_cons, ih, restateOrder_now]

theorem foldl_restate_counter (l : List Order) (s : State) : (l.foldl restateOrder s).ord.counter = s.ord.counter := by
  induction l generalizing s with
  | nil => rfl
  | cons o l ih => rw [List.foldl_cons, ih, restateOrder_counter]

theorem foldl_restate_find_other {l : List Order} {n : Nat} (h : ∀ o ∈ l, n ≠ o.number) (s : State) :
    (l.foldl restateOrder s).ord.find n = s.ord.find n := by
  induction l generalizing s with
  | nil => rfl
  | cons o l ih =>
    rw [List.foldl_cons, ih fun x hx => h x (List.mem_cons_of_mem o hx), restateOrder_find_other (h o List.mem_cons_self)]

/-- R39 step 3 over an ascending table. -/
theorem restateOrders_find {s : State} (hs : s.ascending) {o : Order} (ho : o ∈ s.ord.table) :
    restated s.now o (s.restateOrders.ord.find o.number) := by
  have hfind := ascending_find hs ho
  obtain ⟨before, after, hl⟩ := List.append_of_mem ho
  have hs' : (before ++ o :: after).Pairwise (fun a b => a.number < b.number) := hl ▸ hs
  obtain ⟨_, hrest, hbefore⟩ := List.pairwise_append.1 hs'
  have hafter := (List.pairwise_cons.1 hrest).1
  rw [restateOrders_eq, hl, List.foldl_append, List.foldl_cons,
    foldl_restate_find_other fun x hx => (hafter x hx).ne]
  rw [← foldl_restate_now before s]
  refine restateOrder_find_same ?_
  rw [foldl_restate_find_other fun x hx => (hbefore x hx o List.mem_cons_self).ne', hfind]

/-- A number that no entry has is not found afterwards either. -/
theorem restateOrders_find_none {s : State} {n : Nat} (h : ∀ o ∈ s.ord.table, n ≠ o.number) :
    s.restateOrders.ord.find n = none := by
  rw [restateOrders_eq, foldl_restate_find_other h]
  exact List.find?_eq_none.2 fun o ho => by simpa using (h o ho).symm

/-! ### ORD at a start -/

/-- What steps 1 and 2 of R39 keep: the entries that fit a valid map and have not ended. -/
theorem expired_ord {s : State} (hs : s.ascending) : s.purgeOrders.expireOrders.ord = { s.ord with
    table := s.ord.table.filter (fun o => (!s.map.valid || s.fits o) && !o.ended s.img.clock) } := by
  have hp := purgeOrders_ord hs
  have hs' : s.purgeOrders.ascending := by
    unfold ascending
    rw [hp]
    exact hs.filter _
  rw [expireOrders_ord hs', hp, now, (purgeOrders_frame s).img]
  simp only [List.filter_filter, Bool.and_comm]

theorem expired_ascending {s : State} (hs : s.ascending) : s.purgeOrders.expireOrders.ascending := by
  unfold ascending
  rw [expired_ord hs]
  exact hs.filter _

theorem expired_now (s : State) : s.purgeOrders.expireOrders.now = s.img.clock := by
  rw [now, (expireOrders_frame _).img, (purgeOrders_frame s).img]

/-- An entry that does not fit a valid map or has ended is gone after a warm start (R39). -/
theorem startOrders_gone {s : State} (hs : s.ascending) {o : Order} (ho : o ∈ s.ord.table)
    (h : (s.map.valid = true ∧ s.fits o = false) ∨ o.ended s.img.clock = true) :
    s.startOrders.ord.find o.number = none := by
  refine restateOrders_find_none fun x hx hn => ?_
  rw [expired_ord hs] at hx
  obtain ⟨hxt, hkeep⟩ := List.mem_filter.1 hx
  rw [← ascending_inj hs ho hxt hn] at hkeep
  rcases h with ⟨hv, hf⟩ | he
  · simp [hv, hf] at hkeep
  · simp [he] at hkeep

/-- Any other entry stays, in the state that it has at the clock (R39). -/
theorem startOrders_kept {s : State} (hs : s.ascending) {o : Order} (ho : o ∈ s.ord.table)
    (hf : s.map.valid = true → s.fits o = true) (he : o.ended s.img.clock = false) :
    restated s.img.clock o (s.startOrders.ord.find o.number) := by
  rw [← expired_now s]
  refine restateOrders_find (expired_ascending hs) ?_
  rw [expired_ord hs]
  refine List.mem_filter.2 ⟨ho, ?_⟩
  cases hv : s.map.valid with
  | true => simp [hf hv, he]
  | false => simp [he]

/-- The order counter is a retained item that no start action changes (R40). -/
theorem startOrders_counter (s : State) : s.startOrders.ord.counter = s.ord.counter := by
  rw [startOrders, markDirty_ord, restateOrders_eq, foldl_restate_counter, expireOrders_counter, purgeOrders_counter]

/-- An empty table stays empty. -/
theorem startOrders_empty {s : State} (h : s.ord.table = []) : s.startOrders.ord.table = [] := by
  have hs : s.ascending := by
    unfold ascending
    rw [h]
    exact .nil
  have he : s.purgeOrders.expireOrders.ord.table = [] := by rw [expired_ord hs, h, List.filter_nil]
  rw [startOrders, markDirty_ord, restateOrders_eq, he, List.foldl_nil, he]

end State

end Sys2Proof.Machine
end

section
/-! ## The starts (R166, R174) and the loss of power -/

set_option Elab.async false

namespace Sys2Proof.Machine

/-! ### RESTARTED stands first in every notice queue (R166, R174) -/

/-- A port that has only recorded events since a start, the first of them `n`: it is as at the start but for its queue, and
`n` heads that queue until a notice is lost. -/
def PortUnit.headed (n : Notice) (q : PortUnit) : Prop :=
  q = { PortUnit.atStart with notices := q.notices, lost := q.lost } ∧ (q.lost = 0 → q.notices.head? = some n)

theorem PortUnit.headed_atStart (n : Notice) : (PortUnit.atStart.push n).headed n := ⟨rfl, fun _ => rfl⟩

theorem satAdd_ne_zero {top n : Nat} (ht : top ≠ 0) : satAdd top n 1 ≠ 0 := by
  unfold satAdd
  split <;> omega

theorem PortUnit.headed_push {n : Notice} {q : PortUnit} (h : q.headed n) (m : Notice) : (q.push m).headed n := by
  obtain ⟨hq, hhead⟩ := h
  unfold push
  split
  · refine ⟨by rw [hq], fun h0 => ?_⟩
    obtain ⟨l, hl⟩ := List.head?_eq_some_iff.1 (hhead h0)
    rw [hl]
    rfl
  · exact ⟨by rw [hq], fun h0 => absurd h0 (satAdd_ne_zero (by decide))⟩

namespace State

/-- `n` heads the queue of every port. -/
def Headed (n : Notice) (s : State) : Prop := ∀ p : Port, (s.port p).headed n

namespace Headed
variable {n : Notice} {s t : State}

theorem of_prt (h : s.Headed n) (e : t.prt = s.prt) : t.Headed n := fun p => by
  unfold port
  rw [e]
  exact h p

theorem record (h : s.Headed n) (e : Event) : (s.record e).Headed n := fun p => by
  rw [record_port]
  exact PortUnit.headed_push (h p) _

theorem foldl {α : Type} {f : State → α → State} (hf : ∀ s a, s.Headed n → (f s a).Headed n) (l : List α) {s : State}
    (h : s.Headed n) : (l.foldl f s).Headed n := by
  induction l generalizing s with
  | nil => exact h
  | cons a l ih => exact ih (hf s a h)

theorem retire (h : s.Headed n) (k : Nat) (r : EndReason) : (s.retire k r).Headed n := by
  unfold State.retire
  split
  · exact h
  · exact ((h.of_prt rfl).record _).of_prt rfl

theorem changeState (h : s.Headed n) (o : Order) (st : OrderState) : (s.changeState o st).Headed n :=
  ((h.of_prt (putOrder_frame s _ _).prt).record _).of_prt rfl

theorem startOrders (h : s.Headed n) : s.startOrders.Headed n := by
  have hp : s.purgeOrders.Headed n := by
    unfold purgeOrders
    split
    · refine foldl (fun s o h => ?_) _ h
      split
      · exact h
      · exact h.retire _ _
    · exact h
  have he : s.purgeOrders.expireOrders.Headed n := by
    refine foldl (fun s o h => ?_) _ hp
    split
    · exact h.retire _ _
    · exact h
  have hr : s.purgeOrders.expireOrders.restateOrders.Headed n := by
    refine foldl (fun s o h => ?_) _ he
    split
    · exact h
    · exact h.changeState _ _
  exact hr.of_prt rfl

theorem recordGate (h : s.Headed n) (g : Fin 8) (x : Gate) (b : Bool) : (s.recordGate g x b).Headed n := by
  unfold State.recordGate
  dsimp only
  split
  · exact (h.record _).record _
  · exact h.record _

theorem startBlocks (h : s.Headed n) : s.startBlocks.Headed n := by
  rw [startBlocks_eq]
  have ho : s.startUnits.startOrders.Headed n := (h.of_prt (startUnits_frame s).prt).startOrders
  have hg : ({ s.startUnits.startOrders.startPaths with
      gtc := Vector.ofFn (gateAtStart s.startUnits.startOrders.startPaths) } : State).Headed n := ho.of_prt rfl
  refine foldl (fun s g h => ?_) _ hg
  split
  · exact h.recordGate _ _ _
  · exact h

end Headed

/-! ### The device before the start actions -/

/-- A row write that is cut off (R174). -/
theorem cutWrite_writing {s : State} {q : ImgReq} (h : s.img.writing = some q) : s.cutWrite = { s with
    cuts := s.cuts + 1
    img := { s.img with rows := s.img.rows.set q.row (cutRow s.cuts), writing := none } } := by
  rw [cutWrite, h]

theorem cutWrite_idle {s : State} (h : s.img.writing = none) : s.cutWrite = s := by
  rw [cutWrite, h]

theorem start_cutOff (c : StartCause) {s : State} {q : ImgReq} (h : s.img.writing = some q) : s.start c = State.start c
    { s with cuts := s.cuts + 1
             img := { s.img with rows := s.img.rows.set q.row (cutRow s.cuts), writing := none } } := by
  have hcut : ({ s with powered := true } : State).cutWrite = _ := cutWrite_writing h
  rw [start, start, hcut, cutWrite_idle rfl]

/-- What a start loads: the rows, whose checks give the failed rows, and the retained clock. -/
def imageAtStart (c : StartCause) (m : ImgUnit) : ImgUnit :=
  { rows := m.rows, loaded := m.rows, failed := m.rows.failing, written := [], writing := none
    waiting := [], restarting := false, replyTo := none
    clock := if c = .powerCold then 0 else m.clock
    timeUnset := if c = .powerCold then true else m.timeUnset
    retained := if c = .powerCold then true else m.retained }

/-- The order counters and the table as a start finds them: retained when warm, cleared when cold (R40, R174). -/
def ordersAtStart (c : StartCause) (u : OrdUnit) : OrdUnit := if c = .powerCold then ⟨[], 0, 0⟩ else u

section Idle
variable {s : State} (c : StartCause) (h : s.img.writing = none)
include h

/-- The parts of a device without a write in flight, as a start leaves them before the start actions. -/
theorem started_eq : s.started c = State.startPorts c { s with
    powered := true
    img := imageAtStart c s.img
    map := (imageAtStart c s.img).mapUnit
    ord := ordersAtStart c s.ord
    rsv := { s.rsv with generation := if c = .powerCold then 0 else s.rsv.generation } } := by
  have hcut : ({ s with powered := true } : State).cutWrite = { s with powered := true } := cutWrite_idle h
  unfold started
  rw [hcut]
  unfold imageAtStart ordersAtStart
  by_cases hc : c = .powerCold
  · simp only [if_pos hc]
    rfl
  · simp only [if_neg hc]
    rfl

theorem started_headed : (s.started c).Headed
    ⟨(s.started c).restartedEvent c, (s.started c).img.clock, (s.started c).img.timeUnset⟩ := by
  rw [started_eq c h]
  intro p
  rw [startPorts, record_port]
  cases p <;> exact PortUnit.headed_atStart _

end Idle

theorem startBlocks_mea (s : State) :
    s.startBlocks.mea = .atStart (channelTable s.img) (scanList (channelTable s.img)) := by
  rw [startBlocks_eq, (startGates_frame _).mea, (startPaths_frame _).mea, (startOrders_frame _).mea]
  rfl

theorem startBlocks_cnd (s : State) : s.startBlocks.cnd = Vector.replicate 6 .atStart := by
  rw [startBlocks_eq, (startGates_frame _).cnd, (startPaths_frame _).cnd, (startOrders_frame _).cnd]
  rfl

theorem startBlocks_queue (s : State) : s.startBlocks.scp.queue =
    (List.finRange 24).filter (fun i => (s.startBlocks.sign? i.val).isSome) := by
  rw [startBlocks_scp]
  unfold signsInUse sign? valid
  rw [(startBlocks_frame s).img, (startBlocks_frame s).map]

/-- A gate with a record is set from its pins, with a drive that waits out its dead time (R129). -/
theorem startBlocks_gate_valid {s : State} {g : Fin 8} {r : GateRec} (hv : s.map.valid = true)
    (hr : s.gate? g.val = some r) : ∃ lantern cause, s.startBlocks.gtc[g] = { Gate.unused with
      openLimit := s.pins[g].openLimit, closedLimit := s.pins[g].closedLimit, obstruction := s.pins[g].obstruction
      state := if s.pins[g].openLimit = s.pins[g].closedLimit then .fault
        else if s.pins[g].openLimit then .opened else .closed
      cause := cause, drive := .dead, lantern := lantern } := by
  rw [startBlocks_gtc, gateAtStart, hr]
  dsimp only
  rw [if_pos hv, fromLimits_eq]
  exact ⟨_, _, rfl⟩

/-- Under MAP_INVALID its drive is OFF and its lantern dark (R14). -/
theorem startBlocks_gate_invalid {s : State} {g : Fin 8} {r : GateRec} (hv : s.map.valid = false)
    (hr : s.gate? g.val = some r) : s.startBlocks.gtc[g] = { Gate.unused with
      openLimit := s.pins[g].openLimit, closedLimit := s.pins[g].closedLimit, obstruction := s.pins[g].obstruction
      state := if s.pins[g].openLimit = s.pins[g].closedLimit then .fault
        else if s.pins[g].openLimit then .opened else .closed
      cause := if s.pins[g].openLimit = s.pins[g].closedLimit then
        some (if s.pins[g].openLimit then .limitConflict else .displaced) else none } := by
  rw [startBlocks_gtc, gateAtStart, hr]
  dsimp only
  rw [if_neg fun h => Bool.false_ne_true (hv.symm.trans h), fromLimits_eq]

/-! ### What a start leaves (R174) -/

theorem start_ord (s : State) (c : StartCause) : (s.start c).ord = (s.started c).startUnits.startOrders.ord := by
  rw [start_eq, startBlocks_ord]

section Start
variable {s : State} {c : StartCause} (h : s.img.writing = none)
include h

theorem start_powered : (s.start c).powered = true := by
  rw [start_eq, (startBlocks_frame _).powered, started_eq c h]
  rfl

theorem start_img : (s.start c).img = imageAtStart c s.img := by
  rw [start_eq, (startBlocks_frame _).img, started_eq c h]
  rfl

theorem start_map : (s.start c).map = (imageAtStart c s.img).mapUnit := by
  rw [start_eq, (startBlocks_frame _).map, started_eq c h]
  rfl

theorem start_cuts : (s.start c).cuts = s.cuts := by
  rw [start_eq, (startBlocks_frame _).cuts, started_eq c h]
  rfl

theorem start_rsv : (s.start c).rsv =
    ⟨Vector.replicate 32 .unknown, if c = .powerCold then 0 else s.rsv.generation, true, none⟩ := by
  rw [start_eq, startBlocks_rsv, started_eq c h]
  rfl

/-- The device in which ORD brings its table up to date. -/
theorem beforeOrders : (s.started c).startUnits.ord = ordersAtStart c s.ord ∧
    (s.started c).startUnits.img = imageAtStart c s.img ∧
    (s.started c).startUnits.map = (imageAtStart c s.img).mapUnit := by
  have hf := startUnits_frame (s.started c)
  rw [hf.ord, hf.img, hf.map, started_eq c h]
  exact ⟨rfl, rfl, rfl⟩

theorem start_counter : (s.start c).ord.counter = if c = .powerCold then 0 else s.ord.counter := by
  rw [start_ord s c, startOrders_counter, (beforeOrders h).1, ordersAtStart]
  split <;> rfl

theorem start_cold (hc : c = .powerCold) : (s.start c).ord.table = [] := by
  rw [start_ord s c]
  refine startOrders_empty ?_
  rw [(beforeOrders h).1, ordersAtStart, if_pos hc]

theorem start_fits (o : Order) : (s.start c).fits o = (s.started c).startUnits.fits o := by
  unfold fits
  rw [start_img h, (beforeOrders h).2.1]

/-- The retained entries after a warm start (R12, R39, R174). -/
theorem start_warm (hc : c ≠ .powerCold) (hs : s.ascending) {o : Order} (ho : o ∈ s.ord.table) :
    (((s.start c).map.valid = true ∧ (s.start c).fits o = false) ∨ o.ended s.img.clock = true →
      (s.start c).ord.find o.number = none) ∧
    (((s.start c).map.valid = true → (s.start c).fits o = true) → o.ended s.img.clock = false →
      restated s.img.clock o ((s.start c).ord.find o.number)) := by
  obtain ⟨hord, himg, hmap⟩ := beforeOrders (c := c) h
  have hkept : (s.started c).startUnits.ord = s.ord := hord.trans (if_neg hc)
  have hclock : (s.started c).startUnits.img.clock = s.img.clock :=
    (congrArg ImgUnit.clock himg).trans (if_neg hc)
  have hmapt : (s.start c).map = (s.started c).startUnits.map := (start_map h).trans hmap.symm
  have hs' : (s.started c).startUnits.ascending := by
    unfold ascending
    rw [hkept]
    exact hs
  have ho' : o ∈ (s.started c).startUnits.ord.table := hkept ▸ ho
  rw [start_ord s c, start_fits h, hmapt, ← hclock]
  exact ⟨startOrders_gone hs' ho', startOrders_kept hs' ho'⟩

/-- The ports of a device after a start (R166). -/
theorem start_headed : (s.start c).Headed ⟨(s.start c).restartedEvent c, (s.start c).img.clock,
    (s.start c).img.timeUnset⟩ := by
  have hu := (started_headed c h).startBlocks
  have hgen : (s.start c).rsv.generation = (s.started c).rsv.generation := by
    rw [start_eq, startBlocks_rsv]
  have hev : (s.start c).restartedEvent c = (s.started c).restartedEvent c := by
    unfold restartedEvent
    rw [hgen, start_eq, (startBlocks_frame _).img, (startBlocks_frame _).map]
  rw [hev, start_eq, (startBlocks_frame _).img]
  exact hu

end Start

/-- A start sets every port, so that it does not matter which one serves (R166). -/
theorem start_serving (s : State) (p : Port) (c : StartCause) : (s.serving p).start c = s.start c := by
  cases h : s.img.writing with
  | none =>
    rw [start_eq, start_eq, started_eq c h, started_eq c (s := s.serving p) h]
    rfl
  | some q =>
    rw [start_cutOff c h, start_cutOff c (s := s.serving p) h, start_eq, start_eq, started_eq c rfl, started_eq c rfl]
    rfl

/-- A cold start makes the retained check good, whatever it was (R174). -/
theorem start_afterBackup (s : State) (kept : Bool) : (s.afterBackup kept).start .powerCold = s.start .powerCold := by
  cases kept with
  | true => rfl
  | false =>
    have e : s.afterBackup false = { s with img := { s.img with retained := false } } := rfl
    rw [e]
    cases h : s.img.writing with
    | none =>
      rw [start_eq, start_eq, started_eq _ h, started_eq _ (s := { s with img := { s.img with retained := false } }) h]
      rfl
    | some q =>
      rw [start_cutOff _ h, start_cutOff _ (s := { s with img := { s.img with retained := false } }) h, start_eq,
        start_eq, started_eq _ rfl, started_eq _ rfl]
      rfl

end State

/-! ### The commands (R174) -/

section Commands
variable {s : State}

theorem execRestart_waits {p : Port} {tag : Byte} (ht : s.takes p .restart []) (hw : s.img.writing.isSome = true) :
    exec (.restart p tag []) s = .next ({ (s.serving p) with img := { s.img with restarting := true } } : State) :=
  (exec_taken ht tag).trans (congrArg _ (if_pos hw))

theorem execRestart_starts {p : Port} {tag : Byte} (ht : s.takes p .restart []) (hw : s.img.writing = none) :
    exec (.restart p tag []) s = .next (s.start .request) := by
  have hidle : ¬ (s.serving p).img.writing.isSome = true := by
    rw [show (s.serving p).img = s.img from rfl, hw]
    exact Bool.false_ne_true
  exact (exec_taken ht tag).trans (congrArg _ ((if_neg hidle).trans (s.start_serving p _)))

theorem execResetPin_unpowered (h : s.powered = false) : exec .resetPin s = .next s := by
  change Host.Outcome.next s.resetPin = _
  rw [State.resetPin, h, if_neg Bool.false_ne_true]

theorem execResetPin_powered (h : s.powered = true) : exec .resetPin s = .next (s.start .pin) := by
  change Host.Outcome.next s.resetPin = _
  rw [State.resetPin, if_pos h]

theorem execPowerUp_kept (s : State) : exec (.powerUp true) s =
    .next (s.start (if s.img.retained then .powerWarm else .powerCold)) := rfl

theorem execPowerUp_lost (s : State) : exec (.powerUp false) s = .next (s.start .powerCold) := by
  change Host.Outcome.next (State.start .powerCold (s.afterBackup false)) = _
  rw [s.start_afterBackup]

theorem execMainPowerLoss_powered (h : s.powered = true) : exec .mainPowerLoss s = .next ({ s.cutWrite with
    powered := false, gtc := Vector.ofFn (fun g : Fin 8 => State.unpoweredGate s.gtc[g]) } : State) := by
  change Host.Outcome.next s.mainPowerLoss = _
  rw [State.mainPowerLoss, if_pos h]

end Commands

end Sys2Proof.Machine
end

section
/-! ## The starts reset the blocks (R174) -/

set_option Elab.async false

namespace Sys2Proof.Machine

/-- A loss of power turns the drives off and cuts off a row write in flight; every other part of the device stands. -/
theorem mainPowerLoss_effect {s : State} (h : s.powered = true) : ∃ u : State, exec .mainPowerLoss s = .next u ∧
    u = { s with powered := false, gtc := u.gtc, img := u.img, cuts := u.cuts } ∧
    (s.img.writing = none → u.img = s.img ∧ u.cuts = s.cuts) ∧
    (∀ q, s.img.writing = some q → u.cuts = s.cuts + 1 ∧ u.img = { s.img with
      rows := s.img.rows.set q.row (State.cutRow s.cuts), writing := none }) ∧
    (∀ g : Fin 8, u.gtc[g] = { s.gtc[g] with
      drive := .off, waitingLine := none, periods := 0, duty := 0, lantern := .dark }) := by
  refine ⟨_, execMainPowerLoss_powered h, ?_, fun hw => ?_, fun q hw => ?_, fun g => ofFn_get _ _⟩
  · cases hw : s.img.writing with
    | none => rw [State.cutWrite_idle hw]
    | some q => rw [State.cutWrite_writing hw]
  · rw [State.cutWrite_idle hw]
    exact ⟨rfl, rfl⟩
  · rw [State.cutWrite_writing hw]
    exact ⟨rfl, rfl⟩

namespace State
section Start
variable {s : State} {c : StartCause} (h : s.img.writing = none)
include h

/-- Every port is in its start state but for the notices of this start, RESTARTED first (R166, R174). -/
theorem start_ports (p : Port) :
    (s.start c).port p = { PortUnit.atStart with
      notices := ((s.start c).port p).notices, lost := ((s.start c).port p).lost } ∧
    (((s.start c).port p).lost = 0 → ((s.start c).port p).notices.head? =
      some ⟨(s.start c).restartedEvent c, (s.start c).img.clock, (s.start c).img.timeUnset⟩) :=
  start_headed h p

/-- What the start actions of GTC read: the pins, the map state and the gate records. -/
theorem started_inputs (g : Fin 8) :
    (s.started c).pins = s.pins ∧ (s.start c).map = (s.started c).map ∧
      (s.start c).gate? g.val = (s.started c).gate? g.val := by
  have hf := startBlocks_frame (s.started c)
  refine ⟨by rw [started_eq c h]; rfl, by rw [start_eq, hf.map], ?_⟩
  unfold gate?
  rw [start_eq, hf.img]

theorem start_gate_valid {g : Fin 8} {r : GateRec} (hv : (s.start c).map.valid = true)
    (hr : (s.start c).gate? g.val = some r) :
    (s.start c).gtc[g].drive = .dead ∧ (s.start c).gtc[g].demand = none ∧ (s.start c).gtc[g].inhibit = false ∧
      (s.start c).gtc[g].retries = 0 ∧
      (s.start c).gtc[g].state = (if s.pins[g].openLimit = s.pins[g].closedLimit then .fault
        else if s.pins[g].openLimit then .opened else .closed) := by
  obtain ⟨hpins, hmap, hgate⟩ := started_inputs (c := c) h g
  obtain ⟨lantern, cause, hx⟩ := startBlocks_gate_valid (hmap ▸ hv) (hgate ▸ hr)
  rw [start_eq, hx, hpins]
  exact ⟨rfl, rfl, rfl, rfl, rfl⟩

theorem start_gate_invalid {g : Fin 8} {r : GateRec} (hv : (s.start c).map.valid = false)
    (hr : (s.start c).gate? g.val = some r) : (s.start c).gtc[g] = { Gate.unused with
      openLimit := s.pins[g].openLimit, closedLimit := s.pins[g].closedLimit, obstruction := s.pins[g].obstruction
      state := if s.pins[g].openLimit = s.pins[g].closedLimit then .fault
        else if s.pins[g].openLimit then .opened else .closed
      cause := if s.pins[g].openLimit = s.pins[g].closedLimit then
        some (if s.pins[g].openLimit then .limitConflict else .displaced) else none } := by
  obtain ⟨hpins, hmap, hgate⟩ := started_inputs (c := c) h g
  rw [start_eq, startBlocks_gate_invalid (hmap ▸ hv) (hgate ▸ hr), hpins]

end Start

/-- MEA has the channel table of the rows, and its first scan is in flight (R58, R77). -/
theorem start_mea {s : State} {c : StartCause} {channels : Vector ChanCfg 16} (hch : ∀ k : Fin 16, channels[k] =
      ⟨(s.start c).img.startEnable k.val, ((s.start c).img.trim k.val).1, ((s.start c).img.trim k.val).2⟩) :
    (s.start c).mea = .atStart channels (scanList channels) := by
  have htable : channelTable (s.start c).img = channels :=
    vector_ext fun k => by rw [channelTable, ofFn_get, hch]
  rw [← htable, start_eq, startBlocks_mea, (startBlocks_frame _).img]

end State

/-- Settles O60: a start is the loading of the image, RESTARTED on every port, and then the start actions of the blocks,
each part by the lemma on what that leaves. -/
theorem startsResetTheBlocks : Obligations.StartsResetTheBlocks := by
  unfold Obligations.StartsResetTheBlocks
  refine ⟨?_, ?_, ?_, ?_, ?_⟩
  · intro p tag s ht
    exact ⟨execRestart_waits ht, execRestart_starts ht⟩
  · intro s
    refine ⟨execResetPin_unpowered, execResetPin_powered, fun h => ?_, fun h => ?_, execPowerUp_lost s,
      mainPowerLoss_effect⟩
    · rw [execPowerUp_kept, if_pos h]
    · rw [execPowerUp_kept, h, if_neg Bool.false_ne_true]
  · exact fun c s q => State.start_cutOff c
  · intro c s t ht h
    rw [ht]
    have hmap := (State.start_map (c := c) h).trans (congrArg ImgUnit.mapUnit (State.start_img h).symm)
    refine ⟨State.start_powered h, (State.start_frame s c).pins, (State.start_frame s c).pending, State.start_cuts h,
      State.start_img h, hmap, State.start_rsv h, State.start_counter h, State.start_cold h,
      fun hc hs o ho => State.start_warm h hc hs ho, ?_, ?_, ?_, ?_, ?_, ?_, State.start_ports h,
      fun channels hch => State.start_mea hch, ?_, fun g r hv hr => State.start_gate_valid h hv hr, fun g r hv hr => ?_⟩
    · rw [State.start_eq, State.startBlocks_cnd]
    · rw [State.start_eq, State.startBlocks_signs]
    · rw [State.start_eq, State.startBlocks_flc]
    · rw [State.start_eq, State.startBlocks_scp]
    · rw [State.start_eq, State.startBlocks_scp]
    · rw [State.start_eq]
      exact State.startBlocks_queue _
    · intro k
      rw [State.start_eq, State.startBlocks_avp]
      unfold pathAtStart
      cases (s.started c).startBlocks.path? k.val <;>
        cases (s.started c).startBlocks.ord.tripEntry k.val <;> rfl
    · have hx := State.start_gate_invalid h hv hr
      exact ⟨hx, by rw [hx]; rfl, by rw [hx]; rfl, by rw [hx]; rfl, by rw [hx]; rfl, by rw [hx]; rfl⟩
  · exact fun m => ⟨ImgUnit.mapUnit_noHeader, fun h => ImgUnit.mapUnit_valid⟩

end Sys2Proof.Machine
end

section
/-! ## The search for a free number (R19) -/

set_option Elab.async false

namespace Sys2Proof.Machine

/-- The counter after `j + 1` advances, in closed form: numbers run 1..65535 round and round (R19). -/
theorem nextCount_iterate {c : Nat} (hc : c ≤ 65535) (j : Nat) : nextCount^[j + 1] c = (c + j) % 65535 + 1 := by
  induction j with
  | zero =>
    rw [Nat.zero_add, Function.iterate_one, nextCount]
    split <;> omega
  | succ j ih =>
    rw [Function.iterate_succ_apply', ih, nextCount]
    split <;> omega

theorem OrdUnit.find_isSome_iff {u : OrdUnit} {n : Nat} : (u.find n).isSome = true ↔ n ∈ u.table.map Order.number := by
  simp [find]

theorem OrdUnit.find_eq_none_iff {u : OrdUnit} {n : Nat} : u.find n = none ↔ ∀ o ∈ u.table, o.number ≠ n := by
  simp [find]

/-- The search stops at the first free number within its fuel. -/
theorem freeNumber_first {u : OrdUnit} (k : Nat) : ∀ {fuel c : Nat}, k < fuel → u.find (nextCount^[k + 1] c) = none →
    (∀ j < k, (u.find (nextCount^[j + 1] c)).isSome = true) → freeNumber u fuel c = nextCount^[k + 1] c := by
  induction k with
  | zero =>
    intro fuel c hk hfree _
    obtain ⟨fuel, rfl⟩ := Nat.exists_eq_add_one.mpr hk
    rw [Nat.zero_add, Function.iterate_one] at hfree ⊢
    rw [freeNumber, hfree, Option.isSome_none, if_neg Bool.false_ne_true]
  | succ k ih =>
    intro fuel c hk hfree htaken
    obtain ⟨fuel, rfl⟩ := Nat.exists_eq_add_one.mpr (Nat.zero_lt_of_lt hk)
    have h0 : (u.find (nextCount c)).isSome = true := htaken 0 k.succ_pos
    rw [freeNumber, if_pos h0]
    exact ih (by omega) hfree fun j hj => htaken (j + 1) (by omega)

/-- Of 65 numbers in a row at most 64 are carried by an entry. -/
theorem exists_free_advance {u : OrdUnit} {c : Nat} (hl : u.table.length ≤ 64) (hc : c ≤ 65535) :
    ∃ k, k ≤ 64 ∧ u.find (nextCount^[k + 1] c) = none := by
  by_contra hall
  push Not at hall
  have hnodup : ((List.range 65).map fun j => nextCount^[j + 1] c).Nodup := by
    refine List.Nodup.map_on (fun i hi j hj h => ?_) List.nodup_range
    rw [List.mem_range] at hi hj
    rw [nextCount_iterate hc, nextCount_iterate hc] at h
    omega
  have hsub : ((List.range 65).map fun j => nextCount^[j + 1] c) ⊆ u.table.map Order.number := by
    intro n hn
    obtain ⟨j, hj, rfl⟩ := List.mem_map.mp hn
    rw [List.mem_range] at hj
    exact OrdUnit.find_isSome_iff.mp (Option.isSome_iff_ne_none.mpr (hall j (by omega)))
  have hlen := (hnodup.subperm hsub).length_le
  simp only [List.length_map, List.length_range] at hlen
  omega

/-- Settles O24: the first free number in the run of advances is what the search gives. -/
theorem freshNumberIsFree : Obligations.FreshNumberIsFree := by
  intro u c hl hc
  have hex : ∃ k, u.find (nextCount^[k + 1] c) = none := (exists_free_advance hl hc).imp fun _ h => h.2
  obtain ⟨m, hm, hfree⟩ := exists_free_advance hl hc
  have hk : Nat.find hex ≤ 64 := (Nat.find_min' hex hfree).trans hm
  have htaken : ∀ j < Nat.find hex, (u.find (nextCount^[j + 1] c)).isSome = true := fun j hj =>
    Option.isSome_iff_ne_none.mpr (Nat.find_min hex hj)
  have hnum := freeNumber_first (Nat.find hex) (fuel := 65) (by omega) (Nat.find_spec hex) htaken
  refine ⟨Nat.find hex, hk, hnum, ?_, ?_, hnum ▸ Nat.find_spec hex, htaken⟩
  all_goals
    rw [hnum, nextCount_iterate hc]
    omega

end Sys2Proof.Machine
end

section
/-! ## A lawful order table

`State.ordersOk` reads of an entry its number, issuer, kind and links alone. So dropping entries, and changing what else an
entry holds, keeps a lawful table; and an admission keeps it where the new entry is apart from the others and has room. -/

set_option Elab.async false

namespace Sys2Proof.Machine

/-- What `State.ordersOk` reads of an entry. -/
def Order.key (o : Order) : Nat × Issuer × Kind × Option Nat × Option Nat :=
  (o.number, o.issuer, o.content.kind, o.path, o.station)

theorem Order.key_eq_iff {a b : Order} : a.key = b.key ↔ a.number = b.number ∧ a.issuer = b.issuer ∧
    a.content.kind = b.content.kind ∧ a.path = b.path ∧ a.station = b.station := by
  simp [key]

theorem linked_of_key {a b : Order} (h : a.key = b.key) (ha : State.linked a) : State.linked b := by
  obtain ⟨-, hi, hk, hp, hs⟩ := Order.key_eq_iff.mp h
  unfold State.linked at ha ⊢
  rwa [← hi, ← hk, ← hp, ← hs]

theorem apart_of_key {a a' b b' : Order} (ha : a.key = a'.key) (hb : b.key = b'.key) (h : State.apart a b) :
    State.apart a' b' := by
  obtain ⟨-, hi, hk, hp, hs⟩ := Order.key_eq_iff.mp ha
  obtain ⟨-, hi', hk', hp', hs'⟩ := Order.key_eq_iff.mp hb
  unfold State.apart at h ⊢
  rwa [← hi, ← hk, ← hp, ← hs, ← hi', ← hk', ← hp', ← hs']

theorem apart_symm {a b : Order} (h : State.apart a b) : State.apart b a :=
  ⟨fun hi => (h.1 hi.symm).symm, fun hi => (h.2 hi.symm).imp Ne.symm Ne.symm⟩

/-- A port order is apart from every other entry (R27, R28 speak of TRIP and WX orders alone). -/
theorem apart_of_port {a : Order} (h : a.issuer.ofPort = true) (b : Order) : State.apart a b := by
  refine ⟨fun hi => ?_, fun hi => ?_⟩
  · rw [hi.1] at h
    cases h
  · rw [hi.1] at h
    cases h

theorem linked_of_port {a : Order} (h : a.issuer.ofPort = true) : State.linked a := by
  refine ⟨fun hi => ?_, fun hi => ?_⟩
  · rw [hi] at h
    cases h
  · rw [hi] at h
    cases h

/-- A relation that reads keys alone holds between the entries of any table with fewer keys. -/
theorem pairwise_of_keys {R : Order → Order → Prop}
    (hR : ∀ a a' b b' : Order, a.key = a'.key → b.key = b'.key → R a b → R a' b') {l m : List Order}
    (h : (l.map Order.key).Sublist (m.map Order.key)) (hm : m.Pairwise R) : l.Pairwise R := by
  have hkeys : (m.map Order.key).Pairwise fun x y => ∃ a b : Order, a.key = x ∧ b.key = y ∧ R a b :=
    hm.map _ fun a b hab => ⟨a, b, rfl, rfl, hab⟩
  refine (List.pairwise_map.mp (hkeys.sublist h)).imp fun {a b} hab => ?_
  obtain ⟨a', b', ha, hb, hr⟩ := hab
  exact hR a' a b' b ha hb hr

namespace OrdUnit

/-- `State.ordersOk`, item by item. -/
structure Lawful (u : OrdUnit) : Prop where
  ascending : u.table.Pairwise (fun a b => a.number < b.number)
  apart : u.table.Pairwise State.apart
  entries : ∀ o ∈ u.table, 1 ≤ o.number ∧ o.number ≤ 65535 ∧ State.linked o
  counter : u.counter ≤ 65535
  quota : ∀ i : Issuer, i.ofPort = true → u.held i ≤ i.quota
  pool : u.portPool ≤ 34

theorem lawful_iff (s : State) : s.ordersOk ↔ s.ord.Lawful := by
  refine ⟨fun ⟨hasc, hap, hent, hc, hctr, havs, hsite, hpool⟩ => ⟨hasc, hap, hent, hc, fun i hi => ?_, hpool⟩,
    fun h => ⟨h.ascending, h.apart, h.entries, h.counter, h.quota .ctr rfl, h.quota .avs rfl, h.quota .site rfl, h.pool⟩⟩
  cases i with
  | ctr => exact hctr
  | avs => exact havs
  | site => exact hsite
  | wx => cases hi
  | trip => cases hi

theorem lawful_empty (n : Nat) : Lawful ⟨[], 0, n⟩ :=
  ⟨.nil, .nil, fun _ ho => absurd ho List.not_mem_nil, Nat.zero_le _, fun _ _ => Nat.zero_le _, Nat.zero_le _⟩

/-! ### Fewer entries, or entries with the same keys -/

/-- Every entry of `v` stands for an entry of `u` with its key, in the same order. -/
def Within (v u : OrdUnit) : Prop :=
  (v.table.map Order.key).Sublist (u.table.map Order.key) ∧ v.counter = u.counter

namespace Within
variable {u v w : OrdUnit}

theorem refl (u : OrdUnit) : u.Within u := ⟨.refl _, rfl⟩

theorem trans (h : w.Within v) (k : v.Within u) : w.Within u := ⟨h.1.trans k.1, h.2.trans k.2⟩

theorem mem (h : v.Within u) {o : Order} (ho : o ∈ v.table) : ∃ x ∈ u.table, x.key = o.key :=
  List.mem_map.mp (h.1.subset (List.mem_map_of_mem ho))

/-- No more entries of an issuer than before. -/
theorem filter_le (h : v.Within u) (p : Issuer → Bool) :
    (v.table.filter (fun o => p o.issuer)).length ≤ (u.table.filter (fun o => p o.issuer)).length := by
  have hc := h.1.countP_le (p := fun x => p x.2.1)
  rw [List.countP_map, List.countP_map, List.countP_eq_length_filter, List.countP_eq_length_filter] at hc
  exact hc

theorem lawful (h : v.Within u) (hu : u.Lawful) : v.Lawful where
  ascending := pairwise_of_keys (fun a a' b b' ha hb hab => by
    rwa [← (Order.key_eq_iff.mp ha).1, ← (Order.key_eq_iff.mp hb).1]) h.1 hu.ascending
  apart := pairwise_of_keys (fun _ _ _ _ => apart_of_key) h.1 hu.apart
  entries o ho := by
    obtain ⟨x, hx, hk⟩ := h.mem ho
    obtain ⟨hlow, hhigh, hl⟩ := hu.entries x hx
    rw [← (Order.key_eq_iff.mp hk).1]
    exact ⟨hlow, hhigh, linked_of_key hk hl⟩
  counter := h.2 ▸ hu.counter
  quota i hi := (h.filter_le (fun j => j == i)).trans (hu.quota i hi)
  pool := (h.filter_le Issuer.ofPort).trans hu.pool

end Within

/-- The entry of the table that has the number of `o`, if any, has its key. -/
def Knows (u : OrdUnit) (o : Order) : Prop := ∀ x ∈ u.table, x.number = o.number → x.key = o.key

theorem Knows.within {u v : OrdUnit} {o : Order} (h : u.Knows o) (hv : v.Within u) : v.Knows o := by
  intro y hy hn
  obtain ⟨x, hx, hk⟩ := hv.mem hy
  rw [← hk]
  exact h x hx ((Order.key_eq_iff.mp hk).1.trans hn)

/-- Of an entry of the table every part that the key does not name may be changed. -/
theorem Lawful.knows {u : OrdUnit} (h : u.Lawful) {e o : Order} (he : e ∈ u.table) (hk : e.key = o.key) : u.Knows o := by
  intro x hx hn
  have hxe : x = e := List.inj_on_of_nodup_map (f := Order.number)
    (List.pairwise_map.mpr (h.ascending.imp Nat.ne_of_lt)) hx he (hn.trans (Order.key_eq_iff.mp hk).1.symm)
  rw [hxe, hk]

theorem remove_within (u : OrdUnit) (n : Nat) : (u.remove n).Within u := ⟨List.filter_sublist.map _, rfl⟩

theorem replace_within {u : OrdUnit} {o : Order} (h : u.Knows o) : (u.replace o).Within u := by
  have hkeys : (u.replace o).table.map Order.key = u.table.map Order.key := by
    simp only [replace, List.map_map]
    refine List.map_congr_left fun x hx => ?_
    rw [Function.comp_apply]
    split
    · next hn => exact (h x hx hn).symm
    · rfl
  exact ⟨hkeys ▸ .refl _, rfl⟩

/-! ### The size of a lawful table (R18, R27, R28) -/

/-- Entries that a value tells apart are no more than its values. -/
theorem filter_length_le {β : Type} {l : List Order} {p : Order → Bool} {f : Order → β} {m : List β}
    (hne : l.Pairwise fun a b => p a = true → p b = true → f a ≠ f b) (hm : ∀ o ∈ l, p o = true → f o ∈ m) :
    (l.filter p).length ≤ m.length := by
  have hnodup : ((l.filter p).map f).Nodup := by
    refine List.pairwise_map.mpr ((hne.filter p).imp_of_mem fun ha hb h => ?_)
    exact h (List.mem_filter.mp ha).2 (List.mem_filter.mp hb).2
  have hsub : (l.filter p).map f ⊆ m := by
    intro x hx
    obtain ⟨o, ho, rfl⟩ := List.mem_map.mp hx
    obtain ⟨hol, hp⟩ := List.mem_filter.mp ho
    exact hm o hol hp
  simpa using (hnodup.subperm hsub).length_le

/-- At most one TRIP order for each path. -/
theorem Lawful.held_trip {u : OrdUnit} (h : u.Lawful) : u.held .trip ≤ 12 := by
  refine filter_length_le (f := Order.path) (m := (List.range 12).map some) (h.apart.imp fun hap ha hb => ?_)
    fun o ho hi => ?_
  · exact hap.1 ⟨by simpa using ha, by simpa using hb⟩
  · obtain ⟨k, hk, hlt⟩ := (h.entries o ho).2.2.1 (by simpa using hi)
    rw [hk]
    exact List.mem_map_of_mem (List.mem_range.mpr hlt)

/-- At most three WX orders for each station. -/
theorem Lawful.held_wx {u : OrdUnit} (h : u.Lawful) : u.held .wx ≤ 18 := by
  refine filter_length_le (f := fun o => (o.station, o.content.kind))
    (m := ((List.range 6).map some).product [Kind.speed, .restrict, .close]) (h.apart.imp fun {a b} hap ha hb heq => ?_)
    fun o ho hi => ?_
  · obtain ⟨hs, hk⟩ := Prod.ext_iff.mp heq
    exact (hap.2 ⟨by simpa using ha, by simpa using hb⟩).elim (absurd hs) (absurd hk)
  · obtain ⟨⟨k, hk, hlt⟩, hkind⟩ := (h.entries o ho).2.2.2 (by simpa using hi)
    rw [List.pair_mem_product, hk]
    exact ⟨List.mem_map_of_mem (List.mem_range.mpr hlt), by simpa using hkind⟩

theorem length_by_issuer (u : OrdUnit) : u.table.length = u.portPool + u.held .wx + u.held .trip := by
  unfold portPool held
  induction u.table with
  | nil => rfl
  | cons o l ih =>
    cases hi : o.issuer <;> simp [hi, Issuer.ofPort, ih] <;> omega

theorem Lawful.length_le {u : OrdUnit} (h : u.Lawful) : u.table.length ≤ 64 := by
  have hwx := h.held_wx
  have htrip := h.held_trip
  have hpool := h.pool
  rw [length_by_issuer]
  omega

/-! ### A new entry -/

theorem insertOrder_perm (o : Order) (l : List Order) : (insertOrder o l).Perm (o :: l) := by
  rw [insertOrder_split]
  refine List.perm_middle.trans ?_
  rw [List.takeWhile_append_dropWhile]

theorem insertOrder_ascending {o : Order} {l : List Order} (hl : l.Pairwise (fun a b => a.number < b.number))
    (hn : ∀ x ∈ l, x.number ≠ o.number) : (insertOrder o l).Pairwise (fun a b => a.number < b.number) := by
  induction l with
  | nil => exact List.pairwise_singleton _ _
  | cons x t ih =>
    obtain ⟨hx, ht⟩ := List.pairwise_cons.mp hl
    have hxo := hn x List.mem_cons_self
    unfold insertOrder
    split
    · next hlt =>
      refine List.pairwise_cons.mpr ⟨fun y hy => ?_, hl⟩
      rcases List.mem_cons.mp hy with rfl | hy
      · exact hlt
      · exact hlt.trans (hx y hy)
    · refine List.pairwise_cons.mpr ⟨fun y hy => ?_, ih ht fun y hy => hn y (List.mem_cons_of_mem x hy)⟩
      rcases List.mem_cons.mp ((insertOrder_perm o t).subset hy) with rfl | hy
      · omega
      · exact hx y hy

/-- The table has room for `o`, whose links are in order and apart from those of every entry (R18, R27, R28). -/
structure Admits (u : OrdUnit) (o : Order) : Prop where
  linked : State.linked o
  apart : ∀ x ∈ u.table, State.apart o x
  room : o.issuer.ofPort = true → u.held o.issuer < o.issuer.quota ∧ u.portPool < 34

theorem Lawful.inserted {u : OrdUnit} (h : u.Lawful) {e : Order} (ha : u.Admits e) (hr : 1 ≤ e.number ∧ e.number ≤ 65535)
    (hn : ∀ x ∈ u.table, x.number ≠ e.number) (stamps : Nat) :
    Lawful ⟨insertOrder e u.table, e.number, stamps⟩ where
  ascending := insertOrder_ascending h.ascending hn
  apart := ((insertOrder_perm e u.table).pairwise_iff apart_symm).mpr (List.pairwise_cons.mpr ⟨ha.apart, h.apart⟩)
  entries o ho := by
    rcases List.mem_cons.mp ((insertOrder_perm e u.table).subset ho) with rfl | ho
    · exact ⟨hr.1, hr.2, ha.linked⟩
    · exact h.entries o ho
  counter := hr.2
  quota i hi := by
    have hq := h.quota i hi
    have hroom := ha.room
    unfold held at hq hroom ⊢
    rw [((insertOrder_perm e u.table).filter _).length_eq, List.filter_cons]
    split
    · next he =>
      rw [beq_iff_eq] at he
      rw [← he] at hi ⊢
      exact (hroom hi).1
    · exact hq
  pool := by
    have hp := h.pool
    have hroom := ha.room
    unfold portPool at hp hroom ⊢
    rw [((insertOrder_perm e u.table).filter _).length_eq, List.filter_cons]
    split
    · next he => exact (hroom he).2
    · exact hp

end OrdUnit

end Sys2Proof.Machine
end

section
/-! ## The order table under the operations of ORD, CND and AVP -/

set_option Elab.async false

namespace Sys2Proof.Machine

namespace State

/-- The operation that leads from `s` to `t` keeps the order table lawful. -/
def KeepsOrders (s t : State) : Prop := s.ord.Lawful → t.ord.Lawful

namespace KeepsOrders
variable {s t u : State}

theorem refl (s : State) : KeepsOrders s s := id

theorem trans (h : KeepsOrders s t) (k : KeepsOrders t u) : KeepsOrders s u := k ∘ h

theorem of_eq (h : t.ord = s.ord) : KeepsOrders s t := fun hs => h ▸ hs

theorem of_within (h : t.ord.Within s.ord) : KeepsOrders s t := h.lawful

/-- An operation that does not touch ORD. -/
theorem of_frame {l : List Field} (h : Frame l s t) (hn : l.contains .ord = false := by rfl) : KeepsOrders s t :=
  of_eq (h.ord hn)

/-- One more operation that does not touch ORD. -/
theorem step {l : List Field} (h : KeepsOrders s t) (k : Frame l t u) (hn : l.contains .ord = false := by rfl) :
    KeepsOrders s u := h.trans (of_frame k hn)

theorem foldl {α : Type} {f : State → α → State} (h : ∀ s a, KeepsOrders s (f s a)) (l : List α) (s : State) :
    KeepsOrders s (l.foldl f s) := by
  induction l generalizing s with
  | nil => exact refl s
  | cons a l ih => exact (h s a).trans (ih (f s a))

end KeepsOrders

/-! ### Entries leave the table or change in place -/

theorem retire_within (s : State) (n : Nat) (r : EndReason) : (s.retire n r).ord.Within s.ord := by
  rw [retire_ord]
  exact OrdUnit.remove_within s.ord n

theorem keepsOrders_retire (s : State) (n : Nat) (r : EndReason) : KeepsOrders s (s.retire n r) :=
  .of_within (retire_within s n r)

theorem putOrder_within {s : State} {o : Order} (h : s.ord.Knows o) (was : OrderState) :
    (s.putOrder o was).ord.Within s.ord := by
  unfold putOrder
  split
  · exact OrdUnit.replace_within (o := { o with stamp := nextStamp s.ord.stamps }) h
  · exact OrdUnit.replace_within h

theorem changeState_within {s : State} {o : Order} (h : s.ord.Knows o) (st : OrderState) :
    (s.changeState o st).ord.Within s.ord := by
  rw [changeState_ord]
  exact putOrder_within (o := { o with state := st }) h _

theorem advanceOrder_within {s : State} {o : Order} (h : s.ord.Knows o) (t : Nat) :
    (advanceOrder t s o).ord.Within s.ord := by
  unfold advanceOrder
  split
  · exact retire_within ..
  split
  · exact changeState_within h _
  split
  · exact changeState_within h _
  · exact .refl _

theorem rewindOrder_within {s : State} {o : Order} (h : s.ord.Knows o) (t : Nat) :
    (rewindOrder t s o).ord.Within s.ord := by
  unfold rewindOrder
  split
  · exact changeState_within h _
  · exact .refl _

theorem restateOrder_within {s : State} {o : Order} (h : s.ord.Knows o) : (s.restateOrder o).ord.Within s.ord := by
  unfold restateOrder
  split
  · exact .refl _
  · exact changeState_within h _

theorem foldl_within {f : State → Order → State} (hf : ∀ s o, s.ord.Knows o → (f s o).ord.Within s.ord) (l : List Order)
    (s : State) (hl : ∀ o ∈ l, s.ord.Knows o) : (l.foldl f s).ord.Within s.ord := by
  induction l generalizing s with
  | nil => exact .refl _
  | cons o l ih =>
    have hfirst := hf s o (hl o List.mem_cons_self)
    exact (ih (f s o) fun x hx => (hl x (List.mem_cons_of_mem o hx)).within hfirst).trans hfirst

/-- Carrying the entries of the table one by one, in whatever way that keeps their keys (R29, R35, R36, R39). -/
theorem keepsOrders_carry {f : State → Order → State} (hf : ∀ s o, s.ord.Knows o → (f s o).ord.Within s.ord) (s : State) :
    KeepsOrders s (s.ord.table.foldl f s) := fun h =>
  (foldl_within hf s.ord.table s fun _ ho => h.knows ho rfl).lawful h

theorem keepsOrders_advanceOrders (s : State) (t : Nat) : KeepsOrders s (s.advanceOrders t) :=
  keepsOrders_carry (fun _ _ h => advanceOrder_within h t) s

theorem keepsOrders_rewindOrders (s : State) (t : Nat) : KeepsOrders s (s.rewindOrders t) :=
  keepsOrders_carry (fun _ _ h => rewindOrder_within h t) s

theorem keepsOrders_purgeOrders (s : State) : KeepsOrders s s.purgeOrders := by
  unfold purgeOrders
  split
  · refine .foldl (fun s o => ?_) _ s
    split
    · exact .refl s
    · exact keepsOrders_retire s _ _
  · exact .refl s

theorem keepsOrders_expireOrders (s : State) : KeepsOrders s s.expireOrders := by
  refine .foldl (fun s o => ?_) _ s
  split
  · exact keepsOrders_retire s _ _
  · exact .refl s

theorem keepsOrders_restateOrders (s : State) : KeepsOrders s s.restateOrders :=
  keepsOrders_carry (fun _ _ => restateOrder_within) s

theorem keepsOrders_startOrders (s : State) : KeepsOrders s s.startOrders :=
  (((keepsOrders_purgeOrders s).trans (keepsOrders_expireOrders _)).trans (keepsOrders_restateOrders _)).step
    (markDirty_frame _)

theorem keepsOrders_clockTick (s : State) : KeepsOrders s s.clockTick := by
  unfold clockTick
  dsimp only
  have hclock : KeepsOrders s (s.setClock (s.img.clock + 1)) := .of_frame (setClock_frame s _)
  split
  · split
    · exact hclock.trans (keepsOrders_advanceOrders _ _)
    · exact hclock
  · exact .refl s

theorem keepsOrders_jumpTo (s : State) (t : Nat) : KeepsOrders s (s.jumpTo t) := by
  unfold jumpTo
  dsimp only
  have hclock : KeepsOrders s (s.setClock t) := .of_frame (setClock_frame s t)
  split
  · exact hclock.trans (keepsOrders_advanceOrders _ _)
  split
  · exact hclock.trans (keepsOrders_rewindOrders _ _)
  · exact hclock

/-! ### Admission (R18, R19, R26) -/

/-- A lawful table has a free number, and the search finds it (R19). -/
theorem newEntry_number {s : State} (h : s.ord.Lawful) (o : Order) :
    (1 ≤ (s.newEntry o).number ∧ (s.newEntry o).number ≤ 65535) ∧
      ∀ x ∈ s.ord.table, x.number ≠ (s.newEntry o).number := by
  obtain ⟨k, -, -, hlow, hhigh, hfree, -⟩ := freshNumberIsFree s.ord s.ord.counter h.length_le h.counter
  exact ⟨⟨hlow, hhigh⟩, OrdUnit.find_eq_none_iff.mp hfree⟩

theorem keepsOrders_admitOrder {s : State} {o : Order} (ha : s.ord.Lawful → s.ord.Admits o) :
    KeepsOrders s (s.admitOrder o) := by
  intro h
  obtain ⟨hrange, hfresh⟩ := newEntry_number h o
  obtain ⟨hlinked, hapart, hroom⟩ := ha h
  exact h.inserted (e := s.newEntry o) ⟨hlinked, hapart, hroom⟩ hrange hfresh _

/-- A port order needs room alone. -/
theorem admits_of_room {s : State} {o : Order} (hp : o.issuer.ofPort = true) (hr : roomRefusal o.issuer s = none) :
    s.ord.Admits o := by
  refine ⟨linked_of_port hp, fun x _ => apart_of_port hp x, fun _ => ?_⟩
  unfold roomRefusal at hr
  split at hr
  · cases hr
  split at hr
  · cases hr
  · omega

/-! ### The requests of CND (R27) -/

/-- The entry found for a station and kind is a WX order of theirs. -/
theorem wxEntry_some {u : OrdUnit} {k : Nat} {kind : Kind} {e : Order} (h : u.wxEntry k kind = some e) :
    e ∈ u.table ∧ e.issuer = .wx ∧ e.station = some k ∧ e.content.kind = kind := by
  have hp := List.find?_some h
  simp only [Bool.and_eq_true, beq_iff_eq] at hp
  exact ⟨List.mem_of_find?_eq_some h, hp.1.1, hp.1.2, hp.2⟩

theorem admits_wxDraft {u : OrdUnit} {k : Fin 6} {c : Content} (h : u.wxEntry k.val c.kind = none)
    (hc : c.kind = .speed ∨ c.kind = .restrict ∨ c.kind = .close) (a b : Nat) : u.Admits (wxDraft k.val c a b) := by
  refine ⟨⟨fun hi => ?_, fun _ => ⟨⟨k.val, rfl, k.isLt⟩, hc⟩⟩, fun x hx => ⟨fun hi => ?_, fun hi => ?_⟩, fun hi => ?_⟩
  · cases hi
  · cases hi.1
  · have hne := List.find?_eq_none.mp h x hx
    by_contra heq
    push Not at heq
    refine hne ?_
    simp only [Bool.and_eq_true, beq_iff_eq]
    exact ⟨⟨hi.2, heq.1.symm⟩, heq.2.symm⟩
  · cases hi

theorem keepsOrders_wxRaise (s : State) (k : Fin 6) {c : Content}
    (hc : c.kind = .speed ∨ c.kind = .restrict ∨ c.kind = .close) : KeepsOrders s (wxRaise k c s) := by
  unfold wxRaise
  split
  · next e he =>
    obtain ⟨hmem, -, -, hkind⟩ := wxEntry_some he
    split
    · exact .refl s
    · intro h
      refine (OrdUnit.replace_within (o := { e with content := c }) (h.knows hmem ?_)).lawful h
      exact Order.key_eq_iff.mpr ⟨rfl, rfl, hkind, rfl, rfl⟩
  · next hnone =>
    split
    · exact .refl s
    split
    · exact keepsOrders_admitOrder fun _ => admits_wxDraft hnone hc _ _
    · exact .refl s

theorem keepsOrders_wxRetire (s : State) (k : Fin 6) (kind : Kind) : KeepsOrders s (wxRetire k kind s) := by
  unfold wxRetire
  split
  · exact keepsOrders_retire s _ _
  · exact .refl s

theorem keepsOrders_wxRequest (s : State) (k : Fin 6) (kind : Kind) {wanted : Option Content}
    (hw : ∀ c, wanted = some c → c.kind = .speed ∨ c.kind = .restrict ∨ c.kind = .close) :
    KeepsOrders s (s.wxRequest k kind wanted) := by
  unfold wxRequest
  split
  · next c =>
    split
    · exact .refl s
    · exact keepsOrders_wxRaise s k (hw c rfl)
  · exact keepsOrders_wxRetire s k kind

theorem wantedSpeed_kind {r : StationRec} {x : Station} {c : Content} (h : x.wantedSpeed r = some c) :
    c.kind = .speed := by
  unfold Station.wantedSpeed at h
  split at h
  · obtain ⟨v, -, rfl⟩ := Option.map_eq_some_iff.mp h
    rfl
  · obtain ⟨v, -, rfl⟩ := Option.map_eq_some_iff.mp h
    rfl
  · cases h
  · cases h

theorem wantedRestrict_kind {x : Station} {c : Content} (h : x.wantedRestrict = some c) : c.kind = .restrict := by
  unfold Station.wantedRestrict at h
  dsimp only at h
  split at h
  · cases h
  · cases h
    rfl

theorem wantedClose_kind {x : Station} {c : Content} (h : x.wantedClose = some c) : c.kind = .close := by
  unfold Station.wantedClose at h
  split at h
  · cases h
    rfl
  · cases h

theorem keepsOrders_wxRequests (s : State) (k : Fin 6) (r : StationRec) : KeepsOrders s (s.wxRequests k r) := by
  unfold wxRequests
  split
  · exact ((keepsOrders_wxRequest _ _ _ fun c h => .inl (wantedSpeed_kind h)).trans
      (keepsOrders_wxRequest _ _ _ fun c h => .inr (.inl (wantedRestrict_kind h)))).trans
        (keepsOrders_wxRequest _ _ _ fun c h => .inr (.inr (wantedClose_kind h)))
  · exact .refl s

/-! ### Hand-overs -/

theorem keepsOrders_conclude (s : State) (k : Fin 6) (r : StationRec) : KeepsOrders s (s.conclude k r) :=
  ((KeepsOrders.of_frame (setReady_frame s k r)).step (setStation_frame _ _ _)).trans (keepsOrders_wxRequests _ k r)

theorem keepsOrders_scanHandOver (s : State) (k : Fin 6) (r : StationRec) (a b : Quality) (x y : Option Int) :
    KeepsOrders s (s.scanHandOver k r a b x y) :=
  (((KeepsOrders.of_frame (noteQuality_frame s k a b)).step (setStation_frame _ _ _)).step
    (noteClass_frame _ _ _ _)).trans (keepsOrders_conclude _ k r)

theorem keepsOrders_windHandOver (s : State) (k : Fin 6) (r : StationRec) (gust mean : Nat) :
    KeepsOrders s (s.windHandOver k r gust mean) := by
  have hset : KeepsOrders s (s.setStation k ((s.cnd[k]).windFrom r gust)) := .of_frame (setStation_frame s _ _)
  refine KeepsOrders.trans ?_ (keepsOrders_conclude _ k r)
  split
  · exact hset
  · exact hset.step (record_frame _ _)

theorem keepsOrders_improvementExpiry (s : State) (k : Fin 6) : KeepsOrders s (s.improvementExpiry k) := by
  unfold improvementExpiry
  split
  · exact .refl s
  dsimp only
  split
  · exact ((KeepsOrders.of_frame (setStation_frame s _ _)).step (noteClass_frame _ _ _ _)).trans
      (keepsOrders_conclude _ k _)
  · exact .refl s

theorem keepsOrders_handOver (s : State) : KeepsOrders s s.handOver := by
  refine (KeepsOrders.foldl (fun s k => ?_) _ s).step (lightToSigns_frame _)
  unfold handStation
  split
  · exact keepsOrders_scanHandOver s k _ _ _ _ _
  · exact .refl s

theorem keepsOrders_with_mea (s : State) (m : MeaUnit) : KeepsOrders s { s with mea := m } := .of_eq rfl

theorem keepsOrders_conversionEnd (s : State) (count : Nat) (ovf : Bool) : KeepsOrders s (s.conversionEnd count ovf) := by
  unfold conversionEnd
  split
  · exact .refl s
  dsimp only
  split
  · exact (keepsOrders_with_mea s _).trans (keepsOrders_handOver _)
  · exact keepsOrders_with_mea s _

theorem keepsOrders_windSample (s : State) : KeepsOrders s s.windSample := by
  refine .foldl (fun s k => ?_) _ s
  unfold sampleStation
  split
  · split
    · exact (keepsOrders_with_mea s _).trans (keepsOrders_windHandOver _ k _ _ _)
    · exact .refl s
  · exact .refl s

/-! ### Zones and holds (R28) -/

theorem admits_tripDraft {u : OrdUnit} {k : Fin 12} {r : PathRec} (h : u.tripEntry k.val = none) :
    u.Admits (pathDraft .trip true k.val r) := by
  refine ⟨⟨fun _ => ⟨k.val, rfl, k.isLt⟩, fun hi => ?_⟩, fun x hx => ⟨fun hi heq => ?_, fun hi => ?_⟩, fun hi => ?_⟩
  · cases hi
  · refine List.find?_eq_none.mp h x hx ?_
    simp only [Bool.and_eq_true, beq_iff_eq]
    exact ⟨hi.2, heq.symm⟩
  · cases hi.1
  · cases hi

theorem keepsOrders_tripCreate (s : State) (k : Fin 12) (r : PathRec) : KeepsOrders s (tripCreate k.val r s).2 := by
  unfold tripCreate
  split
  · exact .refl s
  · next hnone => exact keepsOrders_admitOrder fun _ => admits_tripDraft hnone

theorem keepsOrders_zoneEffect (s : State) (k : Fin 12) (r : PathRec) (old : Path) (z : Zone) :
    KeepsOrders s (s.zoneEffect k r old z) := by
  unfold zoneEffect
  split
  · exact ((keepsOrders_tripCreate s k r).step (setPath_frame _ _ _)).step (record_frame _ _)
  · exact (KeepsOrders.of_frame (setPath_frame s _ _)).step (record_frame _ _)
  · exact (((keepsOrders_tripCreate s k r).step (setPath_frame _ _ _)).step (record_frame _ _)).step (record_frame _ _)
  · split
    · exact (KeepsOrders.of_frame (setPath_frame s _ _)).step (record_frame _ _)
    · exact .refl s
  · exact .of_frame (setPath_frame s _ _)

theorem keepsOrders_acceptZone (s : State) (k : Fin 12) (r : PathRec) (l : Fin 12) (z : Zone) :
    KeepsOrders s (s.acceptZone k r l z) := by
  cases hv : s.map.valid with
  | true =>
    rw [acceptZone_valid hv]
    exact (KeepsOrders.of_frame (zoneRecorded_frame k l z _ s)).trans (keepsOrders_zoneEffect _ _ _ _ _)
  | false =>
    rw [acceptZone_invalid hv]
    exact .of_frame (zoneRecorded_frame k l z _ s)

theorem keepsOrders_acceptedZone (s : State) (l : Fin 12) (z : Zone) : KeepsOrders s (s.acceptedZone l z) := by
  unfold acceptedZone
  split
  · exact .refl s
  split
  · exact .refl s
  split
  · exact keepsOrders_acceptZone s _ _ _ _
  · exact .refl s

theorem keepsOrders_loopSample (s : State) (v : Vector Nat 12) : KeepsOrders s (s.loopSample v) := by
  refine .foldl (fun s k => ?_) _ s
  unfold samplePath sampleLoop
  split
  · split
    · exact keepsOrders_acceptZone s _ _ _ _
    · exact .of_frame (setPath_frame s _ _)
  · exact .refl s

theorem keepsOrders_clearPath (s : State) (k : Fin 12) (n : Nat) : KeepsOrders s (s.clearPath k n) :=
  (keepsOrders_retire s n _).step (setPath_frame _ _ _)

theorem keepsOrders_endHold (s : State) (k : Fin 12) (n : Nat) : KeepsOrders s (s.endHold k n) :=
  (keepsOrders_retire s n _).step (setPath_frame _ _ _)

end State

end Sys2Proof.Machine
end

section
/-! ## The order table under requests, starts and the step -/

set_option Elab.async false

namespace Sys2Proof.Machine

namespace State

/-! ### The owners of requests -/

theorem keepsOrders_answer (s : State) (a : Asker) (rc : ReplyCode) (d : List Byte) : KeepsOrders s (s.answer a rc d) :=
  .of_frame (answer_frame s a rc d)

/-- The entry that a post renews is one of the table, of the issuer and kind of the draft (R25). -/
theorem renewal_some {u : OrdUnit} {o e : Order} (h : u.renewal o = some e) : e ∈ u.table ∧ e.issuer = o.issuer ∧
    e.content.kind = o.content.kind ∧ e.first = o.first ∧ e.last = o.last ∧ e.dirs = o.dirs ∧ e.path = none := by
  have hp := List.find?_some h
  simp only [Bool.and_eq_true, beq_iff_eq] at hp
  obtain ⟨⟨⟨⟨⟨hissuer, hkind⟩, hfirst⟩, hlast⟩, hdirs⟩, hpath⟩ := hp
  exact ⟨List.mem_of_find?_eq_some h, hissuer, hkind, hfirst, hlast, hdirs, hpath⟩

theorem keepsOrders_renewOrder {s : State} {e draft : Order} (h : s.ord.renewal draft = some e) :
    KeepsOrders s (renewOrder e draft s) := by
  obtain ⟨hmem, -, hkind, -⟩ := renewal_some h
  intro hs
  refine (putOrder_within (hs.knows hmem ?_) _).lawful hs
  exact Order.key_eq_iff.mpr ⟨rfl, rfl, hkind, rfl, rfl⟩

theorem issuer_ofPort (p : Port) : p.issuer.ofPort = true := by cases p <;> rfl

theorem keepsOrders_orderPost (s : State) (a : Asker) (args : List Byte) : KeepsOrders s (orderPost a args s) := by
  unfold orderPost
  dsimp only
  split
  · split
    · next hrenew => exact (keepsOrders_renewOrder hrenew).step (postReply_frame _ _ _ _ _ _)
    split
    · exact keepsOrders_answer s a _ _
    · next hroom =>
      exact (keepsOrders_admitOrder fun _ => admits_of_room (issuer_ofPort a.port) hroom).step
        (postReply_frame _ _ _ _ _ _)
  · exact keepsOrders_answer s a _ _
  · exact keepsOrders_answer s a _ _

theorem keepsOrders_liftLinked (s : State) (a : Asker) (o : Order) (k : Fin 12) :
    KeepsOrders s (liftLinked a o k s) := by
  unfold liftLinked
  dsimp only
  split
  · split
    · exact (keepsOrders_clearPath s k _).step (answer_frame _ _ _ _)
    · exact keepsOrders_answer s a _ _
  split
  · split
    · exact (keepsOrders_endHold s k _).step (answer_frame _ _ _ _)
    · exact keepsOrders_answer s a _ _
  · exact (keepsOrders_retire s _ _).step (answer_frame _ _ _ _)

theorem keepsOrders_orderLift (s : State) (a : Asker) (args : List Byte) : KeepsOrders s (orderLift a args s) := by
  unfold orderLift
  split
  · exact keepsOrders_answer s a _ _
  split
  · exact keepsOrders_answer s a _ _
  split
  · exact ((keepsOrders_retire s _ _).step (suppressFor_frame _ _)).step (answer_frame _ _ _ _)
  split
  · exact keepsOrders_answer s a _ _
  split
  · exact keepsOrders_liftLinked s a _ _
  · exact (keepsOrders_retire s _ _).step (answer_frame _ _ _ _)

theorem keepsOrders_pathClear (s : State) (a : Asker) (args : List Byte) : KeepsOrders s (pathClear a args s) := by
  unfold pathClear
  split
  · exact keepsOrders_answer s a _ _
  split
  · exact keepsOrders_answer s a _ _
  split
  · exact keepsOrders_answer s a _ _
  split
  · exact (keepsOrders_clearPath s _ _).step (answer_frame _ _ _ _)
  · exact keepsOrders_answer s a _ _
  · exact keepsOrders_answer s a _ _

theorem keepsOrders_pathEndHold (s : State) (a : Asker) (args : List Byte) : KeepsOrders s (pathEndHold a args s) := by
  unfold pathEndHold
  split
  · exact keepsOrders_answer s a _ _
  split
  · exact keepsOrders_answer s a _ _
  split
  · exact keepsOrders_answer s a _ _
  split
  · exact keepsOrders_answer s a _ _
  · exact (keepsOrders_endHold s _ _).step (answer_frame _ _ _ _)

theorem keepsOrders_pathHold (s : State) (a : Asker) (args : List Byte) : KeepsOrders s (pathHold a args s) := by
  unfold pathHold
  split
  · exact keepsOrders_answer s a _ _
  split
  · exact keepsOrders_answer s a _ _
  split
  · exact keepsOrders_answer s a _ _
  split
  · exact keepsOrders_answer s a _ _
  · next hroom =>
    exact (((keepsOrders_admitOrder fun _ => admits_of_room rfl hroom).step (setPath_frame _ _ _)).step
      (answer_frame _ _ _ _)).step (testPath_frame _ _ _)

theorem keepsOrders_trimSet (s : State) (a : Asker) (args : List Byte) : KeepsOrders s (trimSet a args s) := by
  unfold trimSet
  split
  · exact (keepsOrders_with_mea s _).step (answer_frame _ _ _ _)
  · exact keepsOrders_answer s a _ _
  · exact keepsOrders_answer s a _ _

/-! ### Starts (R39, R174) -/

/-- A start finds the table as it was, or cleared when it is cold, and brings it up to date. -/
theorem keepsOrders_start (s : State) (c : StartCause) : KeepsOrders s (s.start c) := by
  have hcut : KeepsOrders s ({ s with powered := true } : State).cutWrite :=
    (KeepsOrders.of_eq (t := { s with powered := true }) rfl).step (cutWrite_frame _)
  have hstarted : KeepsOrders s (s.started c) := by
    unfold started
    dsimp only
    refine (KeepsOrders.step ?_ (loadImage_frame _)).step (startPorts_frame _ _)
    split
    · exact fun _ => OrdUnit.lawful_empty 0
    · exact hcut
  exact ((hstarted.step (startUnits_frame _)).trans (keepsOrders_startOrders _)).trans (.of_eq (start_ord s c))

theorem keepsOrders_powerUp (s : State) (kept : Bool) : KeepsOrders s (s.powerUp kept) :=
  (KeepsOrders.of_frame (afterBackup_frame s kept)).trans (keepsOrders_start _ _)

theorem keepsOrders_resetPin (s : State) : KeepsOrders s s.resetPin := by
  unfold resetPin
  split
  · exact keepsOrders_start s _
  · exact .refl s

theorem keepsOrders_restartFor (s : State) (p : Port) : KeepsOrders s (s.restartFor p) := by
  unfold restartFor
  split
  · exact keepsOrders_start s _
  · exact .refl s

theorem keepsOrders_portBreak (s : State) (p : Port) : KeepsOrders s (s.portBreak p) := by
  unfold portBreak
  split
  · exact .refl s
  · exact (KeepsOrders.of_frame (resetPort_frame s p)).trans (keepsOrders_restartFor _ p)

theorem keepsOrders_with_img (s : State) (m : ImgUnit) : KeepsOrders s { s with img := m } := .of_eq rfl

theorem keepsOrders_restartRequest (s : State) : KeepsOrders s s.restartRequest := by
  unfold restartRequest
  split
  · exact keepsOrders_with_img s _
  · exact keepsOrders_start s _

theorem keepsOrders_restartAfterWrite (s : State) (q : ImgReq) : KeepsOrders s (s.restartAfterWrite q) := by
  unfold restartAfterWrite
  split
  · exact keepsOrders_with_img s _
  · exact keepsOrders_start s _

theorem keepsOrders_rowWriteComplete (s : State) : KeepsOrders s s.rowWriteComplete := by
  unfold rowWriteComplete
  split
  · next q _ =>
    dsimp only
    have hstored : KeepsOrders s (s.storeRow q.row (q.data.getD [])) := .of_frame (storeRow_frame s _ _)
    split
    · exact (hstored.step (imgAnswer_frame _ q _ _)).trans (keepsOrders_restartAfterWrite _ q)
    · exact (hstored.step (imgAnswer_frame _ q _ _)).step (takeWaiting_frame _ _)
  · exact .refl s

/-! ### Service (R161) -/

theorem keepsOrders_serveOwner (s : State) (r : Request) (a : Asker) (args : List Byte) :
    KeepsOrders s (serveOwner r a args s) := by
  have answered : ∀ rc d, KeepsOrders s (s.answer a rc d) := keepsOrders_answer s a
  cases r with
  | orderPost => exact keepsOrders_orderPost s a args
  | orderLift => exact keepsOrders_orderLift s a args
  | trimSet => exact keepsOrders_trimSet s a args
  | pathHold => exact keepsOrders_pathHold s a args
  | pathEndHold => exact keepsOrders_pathEndHold s a args
  | pathClear => exact keepsOrders_pathClear s a args
  | gateInhibit => exact .of_frame (gateInhibit_frame s a args)
  | gateReset => exact .of_frame (gateReset_frame s a args)
  | signPageRead => exact .of_frame (signPageRead_frame s a args)
  | timeSet => exact ((keepsOrders_jumpTo s _).step (clearTimeUnset_frame _)).step (answer_frame _ _ _ _)
  | imageRead => exact .of_frame (imgTake_frame s _)
  | imageWrite => exact .of_frame (imgTake_frame s _)
  | restart => exact keepsOrders_restartRequest s
  | orderList => exact answered _ _
  | timeRead => exact answered _ _
  | portStatus => exact answered _ _
  | orderRead =>
    change KeepsOrders s (orderRead a args s)
    unfold orderRead
    split <;> exact answered _ _
  | aspectRead =>
    change KeepsOrders s (aspectRead a args s)
    unfold aspectRead
    split <;> exact answered _ _
  | channelRead =>
    change KeepsOrders s (channelRead a args s)
    unfold channelRead
    split <;> exact answered _ _
  | stationRead =>
    change KeepsOrders s (stationRead a args s)
    unfold stationRead
    dsimp only
    (repeat' split) <;> exact answered _ _
  | pathRead =>
    change KeepsOrders s (pathRead a args s)
    unfold pathRead
    dsimp only
    (repeat' split) <;> exact answered _ _
  | gateRead =>
    change KeepsOrders s (gateRead a args s)
    unfold gateRead
    dsimp only
    (repeat' split) <;> exact answered _ _
  | signRead =>
    change KeepsOrders s (signRead a args s)
    unfold signRead
    dsimp only
    (repeat' split) <;> exact answered _ _

theorem keepsOrders_serve (s : State) (p : Port) (body : List Byte) : KeepsOrders s (s.serve p body) := by
  unfold serve
  dsimp only
  split
  · exact keepsOrders_answer s _ _ _
  split
  · exact keepsOrders_answer s _ _ _
  split
  · exact keepsOrders_answer s _ _ _
  · exact keepsOrders_serveOwner s _ _ _

theorem keepsOrders_setPort (s : State) (p : Port) (q : PortUnit) : KeepsOrders s (s.setPort p q) := .of_eq rfl

theorem keepsOrders_serveNext (s : State) (p : Port) : KeepsOrders s (s.serveNext p) := by
  unfold serveNext
  split
  · exact (keepsOrders_setPort s p _).trans (keepsOrders_serve _ p _)
  · exact .refl s

theorem keepsOrders_receiveRequest (s : State) (r : Request) (p : Port) (tag : Byte) (args : List Byte) :
    KeepsOrders s (s.receiveRequest r p tag args) := by
  unfold receiveRequest
  split
  · exact (keepsOrders_setPort s p _).trans (keepsOrders_serveNext _ p)
  · exact .refl s

theorem keepsOrders_receiveByte (s : State) (p : Port) (b : Byte) : KeepsOrders s (s.receiveByte p b) :=
  (keepsOrders_setPort s p _).trans (keepsOrders_serveNext _ p)

theorem keepsOrders_frameDiscard (s : State) (p : Port) (c : DiscardCause) : KeepsOrders s (s.frameDiscard p c) := by
  have hd := keepsOrders_setPort s p ((s.port p).discard c)
  unfold frameDiscard
  split
  · exact .refl s
  cases c with
  | gap b => exact hd.trans (keepsOrders_receiveByte _ p b)
  | overrun => exact hd.trans (keepsOrders_setPort _ p _)
  | check => exact hd
  | length => exact hd
  | character => exact hd

theorem keepsOrders_replyPlace (s : State) (p : Port) : KeepsOrders s (s.replyPlace p) := by
  unfold replyPlace
  split
  · refine (keepsOrders_setPort s p (s.port p).placeReply).trans ?_
    unfold replyPlaced
    split
    · exact keepsOrders_start _ _
    · exact keepsOrders_serveNext _ p
  · exact .refl s

/-! ### The step -/

/-- A command that acts on a powered device alone. -/
theorem keepsOrders_whenPowered {s : State} {f : State → State} (h : KeepsOrders s (f s)) :
    KeepsOrders s (s.whenPowered f) := by
  unfold whenPowered
  split
  · exact h
  · exact .refl s

/-- Such a command that does not touch ORD. -/
theorem keepsOrders_powered {l : List Field} {s : State} {f : State → State} (h : Frame l s (f s))
    (hn : l.contains .ord = false := by rfl) : KeepsOrders s (s.whenPowered f) :=
  keepsOrders_whenPowered (.of_frame h hn)

/-- Every command answers a next state and keeps the order table lawful. -/
theorem exec_keepsOrders (s : State) (c : Instr) : ∃ t, exec c s = .next t ∧ KeepsOrders s t := by
  cases c with
  | orderPost p tag args | orderLift p tag args | orderRead p tag args | orderList p tag args | aspectRead p tag args
  | stationRead p tag args | channelRead p tag args | trimSet p tag args | pathRead p tag args | pathHold p tag args
  | pathEndHold p tag args | pathClear p tag args | gateRead p tag args | gateInhibit p tag args
  | gateReset p tag args | signRead p tag args | signPageRead p tag args | timeSet p tag args | timeRead p tag args
  | imageRead p tag args | imageWrite p tag args | restart p tag args | portStatus p tag args =>
    exact ⟨_, rfl, keepsOrders_receiveRequest s _ p tag args⟩
  | frameDiscard p c => exact ⟨_, rfl, keepsOrders_whenPowered (keepsOrders_frameDiscard s p c)⟩
  | strayByte p b => exact ⟨_, rfl, keepsOrders_whenPowered (keepsOrders_receiveByte s p b)⟩
  | xoff p => exact ⟨_, rfl, keepsOrders_whenPowered (keepsOrders_receiveByte s p _)⟩
  | xon p => exact ⟨_, rfl, keepsOrders_whenPowered (keepsOrders_receiveByte s p _)⟩
  | portBreak p => exact ⟨_, rfl, keepsOrders_whenPowered (keepsOrders_portBreak s p)⟩
  | replyPlace p => exact ⟨_, rfl, keepsOrders_whenPowered (keepsOrders_replyPlace s p)⟩
  | noticeSend p => exact ⟨_, rfl, keepsOrders_powered (noticeSend_frame s p)⟩
  | portFrameSent p => exact ⟨_, rfl, keepsOrders_powered (portFrameSent_frame s p)⟩
  | rxFifoOverrun p => exact ⟨_, rfl, keepsOrders_powered (rxFifoOverrun_frame s p)⟩
  | breakEnd p => exact ⟨_, rfl, keepsOrders_powered (breakEnd_frame s p)⟩
  | clockTick => exact ⟨_, rfl, keepsOrders_clockTick s⟩
  | passBegin => exact ⟨_, rfl, keepsOrders_powered (passBegin_frame s)⟩
  | passCompletion => exact ⟨_, rfl, keepsOrders_powered (passCompletion_frame s)⟩
  | scanTimerExpiry => exact ⟨_, rfl, keepsOrders_powered (scanTimerExpiry_frame s)⟩
  | comparatorTrip n => exact ⟨_, rfl, keepsOrders_whenPowered (keepsOrders_conversionEnd s _ _)⟩
  | countOverflow => exact ⟨_, rfl, keepsOrders_whenPowered (keepsOrders_conversionEnd s _ _)⟩
  | improvementTimerExpiry k => exact ⟨_, rfl, keepsOrders_whenPowered (keepsOrders_improvementExpiry s k)⟩
  | anemometerEdge i n h => exact ⟨_, rfl, keepsOrders_powered (anemometerEdge_frame s i n.val h)⟩
  | anemometerCalm i => exact ⟨_, rfl, keepsOrders_powered (anemometerCalm_frame s i)⟩
  | windSample => exact ⟨_, rfl, keepsOrders_whenPowered (keepsOrders_windSample s)⟩
  | acceptedZone l z => exact ⟨_, rfl, keepsOrders_whenPowered (keepsOrders_acceptedZone s l z)⟩
  | confirmTimerExpiry k => exact ⟨_, rfl, keepsOrders_powered (confirmExpiry_frame s k)⟩
  | loopSample v => exact ⟨_, rfl, keepsOrders_whenPowered (keepsOrders_loopSample s v)⟩
  | openLimitAccepted g v => exact ⟨_, rfl, .of_frame (openLimitAccepted_frame s g v)⟩
  | closedLimitAccepted g v => exact ⟨_, rfl, .of_frame (closedLimitAccepted_frame s g v)⟩
  | obstructionAccepted g v => exact ⟨_, rfl, .of_frame (obstructionAccepted_frame s g v)⟩
  | signWaitExpiry g => exact ⟨_, rfl, keepsOrders_powered (signWaitExpiry_frame s g)⟩
  | countdownEnd g => exact ⟨_, rfl, keepsOrders_powered (countdownExpiry_frame s g)⟩
  | travelTimerExpiry g => exact ⟨_, rfl, keepsOrders_powered (travelExpiry_frame s g)⟩
  | retryDelayExpiry g => exact ⟨_, rfl, keepsOrders_powered (retryExpiry_frame s g)⟩
  | deadTimeEnd g => exact ⟨_, rfl, keepsOrders_powered (deadTimeEnd_frame s g)⟩
  | dutyPeriodEnd g => exact ⟨_, rfl, keepsOrders_powered (dutyPeriodEnd_frame s g)⟩
  | lanternFrameBoundary => exact ⟨_, rfl, keepsOrders_powered (lanternBoundary_frame s)⟩
  | composerTake => exact ⟨_, rfl, keepsOrders_powered (composerTake_frame s)⟩
  | compositionEnd => exact ⟨_, rfl, keepsOrders_powered (compositionEnd_frame s)⟩
  | pageMemoryAccessEnd => exact ⟨_, rfl, keepsOrders_powered (pageMemoryAccessEnd_frame s)⟩
  | pollTimerExpiry i => exact ⟨_, rfl, keepsOrders_powered (pollTimerExpiry_frame s i)⟩
  | pageTransfer l => exact ⟨_, rfl, keepsOrders_powered (pageTransfer_frame s l)⟩
  | lampTransfer l => exact ⟨_, rfl, keepsOrders_powered (lampTransfer_frame s l)⟩
  | brightnessJob l => exact ⟨_, rfl, keepsOrders_powered (brightnessJob_frame s l)⟩
  | poll l => exact ⟨_, rfl, keepsOrders_powered (poll_frame s l)⟩
  | pageBlock l => exact ⟨_, rfl, keepsOrders_powered (pageBlock_frame s l)⟩
  | fieldFrameSent l => exact ⟨_, rfl, keepsOrders_powered (fieldFrameSent_frame s l)⟩
  | confirm l q => exact ⟨_, rfl, keepsOrders_powered (confirm_frame s l q)⟩
  | status l q => exact ⟨_, rfl, keepsOrders_powered (status_frame s l q)⟩
  | replyLimitExpiry l => exact ⟨_, rfl, keepsOrders_powered (replyLimitExpiry_frame s l)⟩
  | invalidReply l c => exact ⟨_, rfl, keepsOrders_powered (invalidReply_frame s l c)⟩
  | strayCharacter l c => exact ⟨_, rfl, keepsOrders_powered (strayCharacter_frame s l c)⟩
  | rowWriteComplete => exact ⟨_, rfl, keepsOrders_whenPowered (keepsOrders_rowWriteComplete s)⟩
  | powerUp kept => exact ⟨_, rfl, keepsOrders_powerUp s kept⟩
  | resetPin => exact ⟨_, rfl, keepsOrders_resetPin s⟩
  | mainPowerLoss => exact ⟨_, rfl, .of_frame (mainPowerLoss_frame s)⟩

end State

/-- Settles O8: an entry is admitted with a free number, apart from the others and within its quota, and every other
operation drops entries or changes what the invariant does not read. -/
theorem orderTableKept : Obligations.OrderTableKept := by
  intro s t hs ht
  rw [OrdUnit.lawful_iff] at hs ⊢
  unfold step at ht
  split at ht
  · next c rest _ =>
    obtain ⟨u, hu, hk⟩ := State.exec_keepsOrders { s with pending := rest } c
    rw [hu] at ht
    cases ht
    exact hk hs
  · cases ht
    exact State.keepsOrders_powered (State.second_frame s) rfl hs

end Sys2Proof.Machine
end

section
/-! ## The draft of a post (R22 to R24, R29) -/

set_option Elab.async false

namespace Sys2Proof.Machine

theorem clampNat_eq {lo hi : Nat} (h : lo ≤ hi) (n : Nat) : clampNat lo hi n = max lo (min hi n) := by
  unfold clampNat
  split
  · omega
  · split <;> omega

theorem adjustLead_eq (k : Kind) (lead : Nat) : adjustLead k lead = if k = .close then min 720 lead else 0 := by
  unfold adjustLead
  split
  · split <;> omega
  · rfl

theorem adjustDuration_eq (n : Nat) : adjustDuration n = min 10080 n := by
  unfold adjustDuration
  split <;> omega

theorem finishFrom_eq (base n : Nat) : finishFrom base n = min 4294967295 (base + 60 * n) := by
  unfold finishFrom
  split <;> omega

namespace Content

theorem adjust_kind (c : Content) : c.adjust.kind = c.kind := by cases c <;> rfl

theorem adjust_speed (v : Nat) : (speed v).adjust = .speed (max 20 (min 120 (v / 10 * 10))) :=
  congrArg speed (clampNat_eq (by decide) _)

theorem adjust_avwarn (n : Nat) : (avwarn n).adjust = .avwarn (min 5 n) := by
  refine congrArg avwarn ?_
  split <;> omega

/-- R23 changes the value of a SPEED order. -/
def speedAdjusted : Content → Bool
  | .speed v => decide (max 20 (min 120 (v / 10 * 10)) ≠ v)
  | .close _ | .restrict _ | .avwarn _ | .notice _ => false

/-- R23 changes the level of an AVWARN order. -/
def levelAdjusted : Content → Bool
  | .avwarn n => decide (5 < n)
  | .close _ | .restrict _ | .speed _ | .notice _ => false

end Content

/-- R23 changes the duration. -/
def durationAdjusted : Option Nat → Bool
  | some n => decide (10080 < n)
  | none => false

/-- Each bit of a sum of five flags of weights 1, 2, 4, 8 and 16 is its flag. -/
theorem flagSum_testBit : ∀ b0 b1 b2 b3 b4 : Bool,
    let n := b0.toNat + 2 * b1.toNat + 4 * b2.toNat + 8 * b3.toNat + 16 * b4.toNat
    n.testBit 0 = b0 ∧ n.testBit 1 = b1 ∧ n.testBit 2 = b2 ∧ n.testBit 3 = b3 ∧ n.testBit 4 = b4 ∧ n < 32 := by
  decide

/-- The mask of R167 is the sum of its five flags. -/
theorem adjustMask_eq (c : Content) (x : PostArgs) : adjustMask c x =
    c.speedAdjusted.toNat + 2 * c.levelAdjusted.toNat +
      4 * (decide (x.lead ≠ if c.kind = .close then min 720 x.lead else 0)).toNat +
      8 * (decide (c.kind ≠ .close) && x.emergency).toNat + 16 * (durationAdjusted x.duration).toNat := by
  have hlead : decide (adjustLead c.kind x.lead ≠ x.lead) =
      decide (x.lead ≠ if c.kind = .close then min 720 x.lead else 0) := by
    rw [adjustLead_eq, decide_eq_decide]
    exact ne_comm
  have hduration : ∀ n, decide (adjustDuration n ≠ n) = decide (10080 < n) := fun n => by
    rw [adjustDuration_eq, decide_eq_decide]
    omega
  have hspeed : ∀ v, ((Content.speed v).adjust ≠ .speed v) = (max 20 (min 120 (v / 10 * 10)) ≠ v) := fun v => by
    rw [Content.adjust_speed, ne_eq, Content.speed.injEq]
  have hlevel : ∀ n, ((Content.avwarn n).adjust ≠ .avwarn n) = (5 < n) := fun n => by
    rw [Content.adjust_avwarn, ne_eq, Content.avwarn.injEq, eq_iff_iff]
    omega
  unfold adjustMask
  rw [hlead]
  congr 1
  · congr 3
    · cases c with
      | speed v => simp only [hspeed]; rfl
      | _ => rfl
    · cases c with
      | avwarn n => simp only [hlevel]; rfl
      | _ => rfl
  · cases x.duration with
    | none => rfl
    | some n => simp only [hduration]; rfl

/-- The state of the draft (R29). -/
theorem draftOrder_state (p : Port) (c : Content) (d : Dirs) (x : PostArgs) (now : Nat) :
    (draftOrder p c d x now).state = match x.start with
      | none => .active
      | some t =>
        if t ≤ now then .active
        else if c.kind = .close ∧ 0 < min 720 x.lead ∧ t ≤ now + 60 * min 720 x.lead then .announced
        else .scheduled := by
  simp only [draftOrder, Order.stateAt, Order.started, Order.windowOpen, Content.adjust_kind, adjustLead_eq]
  cases x.start with
  | none => rfl
  | some t =>
    simp only [decide_eq_true_eq]
    by_cases hc : c.kind = .close
    · simp only [hc, if_true, beq_self_eq_true, Bool.true_and, Bool.and_eq_true, decide_eq_true_eq, true_and]
    · simp [hc]

/-- Settles O20: field by field, with the adjustments of R23 as minima and maxima. -/
theorem draftFollowsThePost : Obligations.DraftFollowsThePost := by
  intro p c d x now
  obtain ⟨h0, h1, h2, h3, h4, hlt⟩ := flagSum_testBit c.speedAdjusted c.levelAdjusted
    (decide (x.lead ≠ if c.kind = .close then min 720 x.lead else 0)) (decide (c.kind ≠ .close) && x.emergency)
    (durationAdjusted x.duration)
  rw [← adjustMask_eq c x] at h0 h1 h2 h3 h4 hlt
  refine ⟨⟨rfl, ?_, rfl, rfl, rfl, rfl, rfl, rfl, rfl, adjustLead_eq _ _, ?_, ?_⟩, ?_, ?_, h2, h3, ?_, hlt⟩
  · cases c with
    | speed v => exact Content.adjust_speed v
    | avwarn n => exact Content.adjust_avwarn n
    | close _ => rfl
    | restrict _ => rfl
    | notice _ => rfl
  · refine congrArg (x.duration.map ·) (funext fun n => ?_)
    rw [finishFrom_eq, adjustDuration_eq]
  · exact draftOrder_state p c d x now
  · rw [h0]
    cases c <;> rfl
  · rw [h1]
    cases c <;> rfl
  · rw [h4]
    cases x.duration <;> rfl

end Sys2Proof.Machine
end

section
/-! ## A post that passes every test (R21, R25, R26) -/

set_option Elab.async false

namespace Sys2Proof.Machine

section Passes
variable {x : PostArgs} {s : State} {c : Content} {d : Dirs}

/-- A post that passes the tests of R21. The end of the draft does not depend on the port. -/
theorem postRefusal_none (p : Port) (hv : s.map.valid = true) (hr : x.first ≤ x.last ∧ x.last < s.img.nseg)
    (hc : contentOf x.kind x.value = some c) (hd : dirsOf x.dirs = some d) (h0 : x.duration ≠ some 0)
    (htext : ∀ id, c = .notice id → (s.img.noticeText id).isSome = true)
    (htime : x.start.isSome = true → s.img.timeUnset = false)
    (hend : (draftOrder p c d x s.img.clock).ended s.img.clock = false) : postRefusal x s = none := by
  have hset : ¬(x.start.isSome = true ∧ s.img.timeUnset = true) := fun h => by simp [htime h.1] at h
  have hend' : (draftOrder .centre c d x s.now).ended s.now = false := hend
  rw [postRefusal_inRange hv hr hc hd, if_neg h0, Content.textless_false htext, if_neg Bool.false_ne_true, if_neg hset,
    hend', if_neg Bool.false_ne_true]

end Passes

section Posts
variable {a : Asker} {args : List Byte} {s : State} {c : Content} {d : Dirs}

/-- A post that renews nothing and has room is admitted (R26). -/
theorem orderPost_admitted (h : postRefusal (parsePost args) s = none)
    (hc : contentOf (parsePost args).kind (parsePost args).value = some c) (hd : dirsOf (parsePost args).dirs = some d)
    (hn : s.ord.renewal (draftOrder a.port c d (parsePost args) s.now) = none)
    (hr : roomRefusal a.port.issuer s = none) : orderPost a args s =
      postReply a (adjustMask c (parsePost args)) false
        (s.newEntry (draftOrder a.port c d (parsePost args) s.now)).number
        (draftOrder a.port c d (parsePost args) s.now).state
        (s.admitOrder (draftOrder a.port c d (parsePost args) s.now)) := by
  have hi : (draftOrder a.port c d (parsePost args) s.now).issuer = a.port.issuer := rfl
  simp only [orderPost, h, hc, hd, hn, hi, hr]

/-- A post that matches an entry renews it (R25). -/
theorem orderPost_renewed {e : Order} (h : postRefusal (parsePost args) s = none)
    (hc : contentOf (parsePost args).kind (parsePost args).value = some c) (hd : dirsOf (parsePost args).dirs = some d)
    (hn : s.ord.renewal (draftOrder a.port c d (parsePost args) s.now) = some e) : orderPost a args s =
      postReply a (adjustMask c (parsePost args)) true e.number (draftOrder a.port c d (parsePost args) s.now).state
        (renewOrder e (draftOrder a.port c d (parsePost args) s.now) s) := by
  simp only [orderPost, h, hc, hd, hn]

end Posts

/-- The reply of a post that passes (R23, R25, R26). -/
theorem postReply_eq (a : Asker) (mask : Nat) (renewal : Bool) (n : Nat) (st : OrderState) (s : State) :
    postReply a mask renewal n st s =
      s.answer a (if mask = 0 then (if renewal then .renewed else .admitted) else .adjusted)
        (if mask = 0 then put16 n ++ put8 st.num else put16 n ++ putFlag renewal ++ put8 st.num ++ put8 mask) := by
  unfold postReply
  by_cases h : mask = 0
  · rw [if_pos h, if_pos h, if_pos h]
  · rw [if_neg h, if_neg h, if_neg h]

namespace State

theorem serving_postReply (p : Port) (code : Nat) (tag : Byte) (mask : Nat) (renewal : Bool) (n : Nat) (st : OrderState)
    (s : State) : postReply ⟨p, code, tag⟩ mask renewal n st (s.serving p) =
      postReply ⟨p, code, tag⟩ mask renewal n st s := by
  rw [postReply_eq, postReply_eq, answer_serving]

/-- What an admission does, with the entry in its place (R19, R20, R26). -/
theorem admitOrder_inserted (o : Order) (s : State) : s.admitOrder o = ({ s with
    ord := { table := insertOrder (s.newEntry o) s.ord.table, counter := (s.newEntry o).number
             stamps := if o.state = .active then nextStamp s.ord.stamps else s.ord.stamps }
    rsv := { s.rsv with dirty := true } } : State).record (.orderAdmitted (s.newEntry o)) := by
  rw [admitOrder_eq, insertOrder_split]

theorem renewOrder_eq {e e' o : Order} {s : State} (he : e' = { e with
      content := o.content, emergency := o.emergency, start := o.start, finish := o.finish, lead := o.lead
      state := o.state
      stamp := if o.state = .active ∧ e.state ≠ .active then nextStamp s.ord.stamps else e.stamp }) :
    renewOrder e o s = ({ s with
      ord := { table := s.ord.table.map (fun y => if y.number = e.number then e' else y), counter := s.ord.counter
               stamps := if o.state = .active ∧ e.state ≠ .active then nextStamp s.ord.stamps else s.ord.stamps }
      rsv := { s.rsv with dirty := true } } : State).record (.orderRenewed e') := by
  subst he
  unfold renewOrder renewedEntry putOrder stored
  dsimp only
  split <;> rfl

end State

/-- Settles O21: the tests pass, nothing is renewed, there is room, and the draft is admitted. -/
theorem postAdmitsAnOrder : Obligations.PostAdmitsAnOrder := by
  intro p tag args s x c d o e h hx hv hfirst hlast hc hd h0 htext htime ho hend hren hheld hpool he
  subst hx ho
  have passes := postRefusal_none p hv ⟨hfirst, hlast⟩ hc hd h0 htext htime hend
  have room : roomRefusal p.issuer s = none := by
    rw [roomRefusal, if_neg (by omega), if_neg (by omega)]
  have hserve : exec (.orderPost p tag args) s = .next (orderPost ⟨p, 0x01, tag⟩ args (s.serving p)) := exec_taken h tag
  rw [hserve, orderPost_admitted (a := ⟨p, 0x01, tag⟩) (s := s.serving p) passes hc hd hren room,
    State.serving_admitOrder, State.serving_postReply, State.admitOrder_inserted, postReply_eq]
  subst he
  rfl

/-- Settles O22: the entry found is the one that R25 names, and it is replaced in its place. -/
theorem postRenewsItsEntry : Obligations.PostRenewsItsEntry := by
  intro p tag args s x c d o e e' h hx hv hfirst hlast hc hd h0 htext htime ho hend hren he
  subst hx
  have passes := postRefusal_none p hv ⟨hfirst, hlast⟩ hc hd h0 htext htime (ho ▸ hend)
  obtain ⟨-, hissuer, hkind, hfst, hlst, hdirs, hpath⟩ := State.renewal_some hren
  refine ⟨⟨?_, hkind, ?_, ?_, ?_, hpath⟩, ?_⟩
  · rw [hissuer, ho]
    rfl
  · rw [hfst, ho]
    rfl
  · rw [hlst, ho]
    rfl
  · rw [hdirs, ho]
    rfl
  · have hserve : exec (.orderPost p tag args) s = .next (orderPost ⟨p, 0x01, tag⟩ args (s.serving p)) := exec_taken h tag
    rw [hserve, orderPost_renewed (a := ⟨p, 0x01, tag⟩) (s := s.serving p) passes hc hd (ho ▸ hren)]
    have hdraft : draftOrder p c d (parsePost args) (s.serving p).now = o := ho.symm
    rw [hdraft, State.serving_renewOrder, State.serving_postReply, State.renewOrder_eq he, postReply_eq]
    rfl

end Sys2Proof.Machine
end

section
/-! ## Lifts (R31 to R33, R100, R107, R109) -/

set_option Elab.async false

namespace Sys2Proof.Machine

theorem OrdUnit.find_number {u : OrdUnit} {n : Nat} {o : Order} (h : u.find n = some o) : o.number = n := by
  simpa using List.find?_some h

theorem OrdUnit.find_remove_same (u : OrdUnit) (n : Nat) : (u.remove n).find n = none := by
  simp [find, remove]

theorem OrdUnit.find_remove_other {u : OrdUnit} {n m : Nat} (h : m ≠ n) : (u.remove n).find m = u.find m := by
  simp only [find, remove]
  induction u.table with
  | nil => rfl
  | cons x l ih =>
    by_cases hx : x.number = n
    · simp [hx, h.symm, ih]
    · by_cases hm : x.number = m <;> simp [hx, hm, h, ih]

namespace State

theorem retire_none {s : State} {n : Nat} (h : s.ord.find n = none) (r : EndReason) : s.retire n r = s := by
  simp only [retire, h]

/-- A retired entry leaves the table, with its event and RSV dirty (R17, R37). -/
theorem retire_some {s : State} {n : Nat} {o : Order} (h : s.ord.find n = some o) (r : EndReason) :
    s.retire n r = ({ s with
      ord := { s.ord with table := s.ord.table.filter (fun y => y.number != n) }
      rsv := { s.rsv with dirty := true } } : State).record (.orderEnded n o.issuer o.content.kind r) := by
  simp only [retire, h]
  rfl

theorem serving_suppressFor (p : Port) (o : Order) (s : State) :
    (s.serving p).suppressFor o = (s.suppressFor o).serving p := by
  unfold suppressFor
  split <;> rfl

theorem serving_clearPath (p : Port) (k : Fin 12) (n : Nat) (s : State) :
    (s.serving p).clearPath k n = (s.clearPath k n).serving p := by
  unfold clearPath
  rw [serving_retire]
  rfl

theorem serving_endHold (p : Port) (k : Fin 12) (n : Nat) (s : State) :
    (s.serving p).endHold k n = (s.endHold k n).serving p := by
  unfold endHold
  rw [serving_retire]
  rfl

/-- Only the lift of a WX order reaches CND (R32). -/
theorem suppressFor_other {o : Order} (h : o.issuer ≠ .wx) (s : State) : s.suppressFor o = s := by
  unfold suppressFor
  split
  · next hi _ => exact absurd hi h
  · rfl

theorem suppressFor_wx {o : Order} {k : Fin 6} (h : o.issuer = .wx) (hs : o.station = some k.val) (s : State) :
    s.suppressFor o = s.setStation k (s.cnd[k].suppress o.content.kind) := by
  simp only [suppressFor, h, hs, Option.bind_some, finOf_val]

end State

/-! ### Which lift it is (R31) -/

section Lift
variable {a : Asker} {args : List Byte} {s : State} {o : Order}

theorem orderLift_notFound (h : s.ord.find (get16 args 0) = none) : orderLift a args s = s.answer a .notFound [] := by
  simp only [orderLift, h]

theorem orderLift_notPermitted (h : s.ord.find (get16 args 0) = some o) (hm : s.img.mayLift a.port o.issuer = false) :
    orderLift a args s = s.answer a .notPermitted [] := by
  simp [orderLift, h, hm]

theorem orderLift_plain (h : s.ord.find (get16 args 0) = some o) (hm : s.img.mayLift a.port o.issuer = true)
    (hp : o.path = none) : orderLift a args s = liftPlain a o s := by
  simp [orderLift, h, hm, hp]

theorem orderLift_mapInvalid {n : Nat} (h : s.ord.find (get16 args 0) = some o)
    (hm : s.img.mayLift a.port o.issuer = true) (hp : o.path = some n) (hv : s.map.valid = false) :
    orderLift a args s = s.answer a .mapInvalid [] := by
  simp [orderLift, h, hm, hp, hv]

theorem orderLift_linked {k : Fin 12} (h : s.ord.find (get16 args 0) = some o)
    (hm : s.img.mayLift a.port o.issuer = true) (hp : o.path = some k.val) (hv : s.map.valid = true) :
    orderLift a args s = liftLinked a o k s := by
  simp [orderLift, h, hm, hp, hv, finOf_val]

end Lift

/-! ### Plain lifts (R32) -/

theorem execOrderLift_plain {p : Port} {tag : Byte} {args : List Byte} {s : State} {o : Order}
    (h : s.takes p .orderLift args) (hfind : s.ord.find (get16 args 0) = some o)
    (hm : s.img.mayLift p o.issuer = true) (hp : o.path = none) : exec (.orderLift p tag args) s =
      .next (((s.retire o.number (if o.state = .active then .lifted p else .cancelled)).suppressFor o).answer
        ⟨p, 0x02, tag⟩ .ok (put16 o.number)) := by
  have hserve : exec (.orderLift p tag args) s = .next (orderLift ⟨p, 0x02, tag⟩ args (s.serving p)) := exec_taken h tag
  rw [hserve, orderLift_plain (a := ⟨p, 0x02, tag⟩) (s := s.serving p) hfind hm hp, liftPlain, State.serving_retire,
    State.serving_suppressFor, State.answer_serving]

/-- Settles O25: the entry is retired, and a WX order's suppression flag is set. -/
theorem liftRetiresAPlainOrder : Obligations.LiftRetiresAPlainOrder := by
  intro p tag args s o h hfind hm hp
  have hn := OrdUnit.find_number hfind
  refine ⟨hn, _, rfl, fun hi => ?_, fun k hi hs => ?_⟩
  · rw [execOrderLift_plain h hfind hm hp, State.suppressFor_other hi, State.retire_some (hn ▸ hfind)]
  · rw [execOrderLift_plain h hfind hm hp, State.suppressFor_wx hi hs, State.retire_some (hn ▸ hfind)]
    cases o.content.kind <;> rfl

/-! ### Lifts of path-linked entries (R33, R100, R107) -/

/-- The lift of a path-linked entry does not see the service phase of the port that asks for it. -/
theorem serving_liftLinked (p : Port) (code : Nat) (tag : Byte) (o : Order) (k : Fin 12) (s : State) :
    liftLinked ⟨p, code, tag⟩ o k (s.serving p) = liftLinked ⟨p, code, tag⟩ o k s := by
  have havp : (s.serving p).avp = s.avp := rfl
  unfold liftLinked
  dsimp only
  rw [havp]
  split
  · split
    · rw [State.serving_clearPath, State.answer_serving]
    · rw [State.answer_serving]
  split
  · split
    · rw [State.serving_endHold, State.answer_serving]
    · rw [State.answer_serving]
  · rw [State.serving_retire, State.answer_serving]

section Linked
variable {a : Asker} {o : Order} {k : Fin 12} {s : State}

theorem liftLinked_latched (ht : s.avp[k].tripOrder = some o.number) (hs : s.avp[k].state = .latched) :
    liftLinked a o k s = (s.clearPath k o.number).answer a .ok (put16 o.number) := by
  simp only [liftLinked, if_pos ht, if_pos hs]

theorem liftLinked_tripped (ht : s.avp[k].tripOrder = some o.number) (hs : s.avp[k].state ≠ .latched) :
    liftLinked a o k s = s.answer a .pathActive [] := by
  simp only [liftLinked, if_pos ht, if_neg hs]

theorem liftLinked_held {rc : ReplyCode} (ht : s.avp[k].tripOrder ≠ some o.number)
    (hh : s.avp[k].holdOrder = some o.number) (hr : s.avp[k].endRefusal = some rc) :
    liftLinked a o k s = s.answer a rc [] := by
  simp only [liftLinked, if_neg ht, if_pos hh, hr]

theorem liftLinked_ended (ht : s.avp[k].tripOrder ≠ some o.number) (hh : s.avp[k].holdOrder = some o.number)
    (hr : s.avp[k].endRefusal = none) :
    liftLinked a o k s = (s.endHold k o.number).answer a .ok (put16 o.number) := by
  simp only [liftLinked, if_neg ht, if_pos hh, hr]

theorem liftLinked_loose (ht : s.avp[k].tripOrder ≠ some o.number) (hh : s.avp[k].holdOrder ≠ some o.number) :
    liftLinked a o k s = (s.retire o.number (.lifted a.port)).answer a .ok (put16 o.number) := by
  simp only [liftLinked, if_neg ht, if_neg hh]

end Linked

/-- A hold that can end but for a release with the loop still in TRIP (R107). -/
theorem Path.endRefusal_held {x : Path} (h : x.state = .hold ∨ x.state = .holdPending) :
    x.endRefusal = if x.released = true ∧ x.zone = some .trip then some .pathActive else none := by
  unfold endRefusal
  rw [if_neg (not_and_or.mpr (h.imp not_not.mpr not_not.mpr))]

/-- Settles O26: the refusals in the order of R31, then the cases of R33 by what the path holds. -/
theorem liftOfALinkedOrder : Obligations.LiftOfALinkedOrder := by
  refine ⟨fun p tag args s h => ⟨fun hfind => ?_, fun o hfind => ⟨fun hm => ?_, fun hm k hp => ?_⟩⟩,
    fun n r s => ⟨fun h => State.retire_none h r, fun o h => ⟨State.retire_some h r, ?_, fun m hm => ?_⟩⟩⟩
  · exact exec_answered h tag (orderLift_notFound (s := s.serving p) hfind)
  · exact exec_answered h tag (orderLift_notPermitted (s := s.serving p) hfind hm)
  · have linked : s.map.valid = true →
        exec (.orderLift p tag args) s = .next (liftLinked ⟨p, 0x02, tag⟩ o k s) := fun hv => by
      have hserve : exec (.orderLift p tag args) s = .next (orderLift ⟨p, 0x02, tag⟩ args (s.serving p)) :=
        exec_taken h tag
      rw [hserve, orderLift_linked (a := ⟨p, 0x02, tag⟩) (s := s.serving p) hfind hm hp hv, serving_liftLinked]
    refine ⟨fun hv => exec_answered h tag (orderLift_mapInvalid (s := s.serving p) hfind hm hp hv),
      fun hv ht => ⟨fun hs => ?_, fun hs => ?_⟩, fun hv ht hh hs => ?_, fun hv ht hh => ?_⟩
    · rw [linked hv, liftLinked_latched ht hs]
      rfl
    · rw [linked hv, liftLinked_tripped ht hs]
    · have htrip : s.avp[k].tripOrder ≠ some o.number := by
        rw [ht]
        exact Option.some_ne_none _ |>.symm
      rw [linked hv]
      refine ⟨fun hr => ?_, fun hr => ?_⟩
      · rw [liftLinked_held htrip hh ((Path.endRefusal_held hs).trans (if_pos hr))]
      · rw [liftLinked_ended htrip hh ((Path.endRefusal_held hs).trans (if_neg hr))]
        rfl
    · rw [linked hv, liftLinked_loose ht hh]
  · rw [State.retire_ord, OrdUnit.find_remove_same]
  · rw [State.retire_ord, OrdUnit.find_remove_other hm]

end Sys2Proof.Machine
end

section
/-! ## PATH_HOLD (R18, R28, R101) -/

set_option Elab.async false

namespace Sys2Proof.Machine

theorem pathArg_none {s : State} {n : Nat} (h : s.path? n = none) : s.pathArg n = none := by
  unfold State.pathArg
  rw [h]
  split
  · next heq => cases heq
  · rfl

theorem pathArg_some {s : State} {args : List Byte} {k : Fin 12} {r : PathRec} (h : s.pathIs args k r) :
    s.pathArg (get8 args 0) = some (k, r) := by
  obtain ⟨hk, hr⟩ := h
  simp only [State.pathArg, hk, finOf_val, hr]

section Hold
variable {a : Asker} {args : List Byte} {s : State} {k : Fin 12} {r : PathRec}

theorem pathHold_mapInvalid (hv : s.map.valid = false) : pathHold a args s = s.answer a .mapInvalid [] := by
  simp [pathHold, hv]

theorem pathHold_badRange (hv : s.map.valid = true) (hp : s.path? (get8 args 0) = none) :
    pathHold a args s = s.answer a .badRange [] := by
  simp [pathHold, hv, pathArg_none hp]

theorem pathHold_pathState (hv : s.map.valid = true) (hp : s.pathIs args k r) (hs : s.avp[k].state ≠ .quiet) :
    pathHold a args s = s.answer a .pathState [] := by
  simp only [pathHold, State.valid, hv, pathArg_some hp, if_pos hs, Bool.not_true, Bool.false_eq_true, if_false]

theorem pathHold_noRoom {rc : ReplyCode} (hv : s.map.valid = true) (hp : s.pathIs args k r)
    (hs : s.avp[k].state = .quiet) (hr : roomRefusal .avs s = some rc) : pathHold a args s = s.answer a rc [] := by
  simp only [pathHold, State.valid, hv, pathArg_some hp, if_neg (not_not.mpr hs), hr, Bool.not_true, Bool.false_eq_true,
    if_false]

theorem pathHold_held (hv : s.map.valid = true) (hp : s.pathIs args k r) (hs : s.avp[k].state = .quiet)
    (hr : roomRefusal .avs s = none) : pathHold a args s =
      (((s.admitOrder (pathDraft .avs false k.val r)).setPath k
        (s.avp[k].heldBy (s.newEntry (pathDraft .avs false k.val r)).number)).answer a .holdPending
          (put16 (s.newEntry (pathDraft .avs false k.val r)).number)).testPath k r := by
  simp only [pathHold, State.valid, hv, pathArg_some hp, if_neg (not_not.mpr hs), hr, Bool.not_true, Bool.false_eq_true,
    if_false]

end Hold

/-- Settles O47: the tests of R101 in their order, each under the earlier ones passing, and the hold that passes them. -/
theorem pathHoldCreatesItsOrder : Obligations.PathHoldCreatesItsOrder := by
  intro p tag args s h
  refine ⟨fun hv => exec_answered h tag (pathHold_mapInvalid (s := s.serving p) hv),
    fun hv hp => exec_answered h tag (pathHold_badRange (s := s.serving p) hv hp), fun k r hv hp => ?_⟩
  have noRoom : ∀ rc, s.avp[k].state = .quiet → roomRefusal .avs s = some rc →
      exec (.pathHold p tag args) s = .next (s.answer ⟨p, 0x0A, tag⟩ rc []) := fun rc hs hr =>
    exec_answered h tag (pathHold_noRoom (s := s.serving p) hv hp hs hr)
  refine ⟨fun hs => exec_answered h tag (pathHold_pathState (s := s.serving p) hv hp hs),
    fun hs hq => noRoom _ hs (if_pos hq), fun hs hq hpool => noRoom _ hs ((if_neg (not_le.mpr hq)).trans (if_pos hpool)),
    fun hs hq hpool o n ho hn => ?_⟩
  have room : roomRefusal .avs s = none := (if_neg (not_le.mpr hq)).trans (if_neg (not_le.mpr hpool))
  have hserve : exec (.pathHold p tag args) s = .next (pathHold ⟨p, 0x0A, tag⟩ args (s.serving p)) := exec_taken h tag
  rw [hserve, pathHold_held (s := s.serving p) hv hp hs room, State.serving_admitOrder, State.serving_setPath,
    State.answer_serving, ho, hn]
  rfl

end Sys2Proof.Machine
end

section
/-! ## ORDER_READ, ORDER_LIST and ASPECT_READ (R38, R54, R168) -/

set_option Elab.async false

namespace Sys2Proof.Machine

/-! ### Lengths -/

theorem putOpt8_length (o : Option Nat) : (putOpt8 o).length = 1 := by cases o <;> rfl

theorem putOpt32_length (o : Option Nat) : (putOpt32 o).length = 4 := by cases o <;> rfl

theorem orderBytes_length (o : Order) : o.bytes.length = 26 := by
  simp [Order.bytes, put8, put16, put32, putOpt8_length, putOpt32_length]

theorem aspectBytes_length (a : Aspect) : a.bytes.length = 13 := by
  simp [Aspect.bytes, put8, put32, putOpt8_length, putOpt32_length]

/-! ### The segments of an ASPECT_READ -/

/-- At most 16 segments are present (R1). -/
theorem nseg_le (m : ImgUnit) : m.nseg ≤ 16 := by
  unfold ImgUnit.nseg ImgUnit.counts
  split
  · exact (clampNat_eq (by decide) _).trans_le (by omega)
  · decide

theorem aspectBound_le (s : State) : s.aspectBound ≤ 16 := by
  unfold State.aspectBound
  split
  · exact nseg_le s.img
  · exact Nat.le_refl 16

/-- The records of a segment stand in the published table, S before N (R41). -/
theorem segmentBytes_eq (s : State) {seg : Nat} (h : seg < 16) :
    s.segmentBytes seg = (s.aspectAt seg .S).bytes ++ (s.aspectAt seg .N).bytes := by
  have hS : finOf 32 (2 * seg + Dir.S.num) = some ⟨2 * seg, by omega⟩ := finOf_val (n := 32) ⟨2 * seg, by omega⟩
  have hN : finOf 32 (2 * seg + Dir.N.num) = some ⟨2 * seg + 1, by omega⟩ :=
    finOf_val (n := 32) ⟨2 * seg + 1, by omega⟩
  have hS' : finOf 32 (2 * seg) = some ⟨2 * seg, by omega⟩ := hS
  have hN' : finOf 32 (2 * seg + 1) = some ⟨2 * seg + 1, by omega⟩ := hN
  simp [State.segmentBytes, State.aspectAt, hS, hN, hS', hN']

/-- One reply carries the segments from `first` up to `last`, and eight at most. -/
theorem aspectStop_eq {first last : Nat} (h : first ≤ last) : aspectStop first last + 1 - first = min 8 (last + 1 - first) ∧
    (aspectStop first last < last ↔ first + min 8 (last + 1 - first) ≤ last) := by
  unfold aspectStop
  split <;> omega

theorem aspectData_eq {s : State} {first last n : Nat} (h : first ≤ last) (hb : last < s.aspectBound)
    (hn : n = min 8 (last + 1 - first)) : s.aspectData first last =
      put16 s.rsv.generation ++ putFlag (!s.map.valid) ++ put8 first ++ put8 (2 * n) ++
        putFlag (decide (first + n ≤ last)) ++
        (List.range n).flatMap (fun j => (s.aspectAt (first + j) .S).bytes ++ (s.aspectAt (first + j) .N).bytes) := by
  obtain ⟨hcount, hmore⟩ := aspectStop_eq h
  have hbound := aspectBound_le s
  have hsegments : (List.range n).flatMap (fun j => s.segmentBytes (first + j)) =
      (List.range n).flatMap fun j => (s.aspectAt (first + j) .S).bytes ++ (s.aspectAt (first + j) .N).bytes := by
    refine List.flatMap_congr fun j hj => segmentBytes_eq s ?_
    have hlt := List.mem_range.mp hj
    omega
  rw [← hn] at hcount hmore
  simp only [State.aspectData, hcount, hmore, hsegments, State.valid]

section Reads
variable {a : Asker} {args : List Byte} {s : State}

theorem orderRead_found {o : Order} (h : s.ord.find (get16 args 0) = some o) :
    orderRead a args s = s.answer a .ok o.bytes := by
  simp only [orderRead, h]

theorem orderRead_notFound (h : s.ord.find (get16 args 0) = none) : orderRead a args s = s.answer a .notFound [] := by
  simp only [orderRead, h]

theorem orderList_eq {l : List Order} (h : l = s.ord.table.filter (fun o => decide (get16 args 0 ≤ o.number))) :
    orderList a args s = s.answer a .ok
      (put8 (min 8 l.length) ++ putFlag (decide (8 < l.length)) ++ (l.take 8).flatMap Order.bytes) := by
  rw [← List.length_take, h]
  rfl

theorem aspectRead_served {n : Nat} (h : get8 args 0 ≤ get8 args 1) (hb : get8 args 1 < s.aspectBound)
    (hn : n = min 8 (get8 args 1 + 1 - get8 args 0)) : aspectRead a args s = s.answer a .ok
      (put16 s.rsv.generation ++ putFlag (!s.map.valid) ++ put8 (get8 args 0) ++ put8 (2 * n) ++
        putFlag (decide (get8 args 0 + n ≤ get8 args 1)) ++ (List.range n).flatMap (fun j =>
          (s.aspectAt (get8 args 0 + j) .S).bytes ++ (s.aspectAt (get8 args 0 + j) .N).bytes)) := by
  rw [aspectRead, if_pos ⟨h, hb⟩, aspectData_eq h hb hn]

theorem aspectRead_beyond (h : ¬(get8 args 0 ≤ get8 args 1 ∧ get8 args 1 < s.aspectBound)) :
    aspectRead a args s = s.answer a .badRange [] := if_neg h

end Reads

/-- Settles O29: each read answers from the state before, with records of fixed length. -/
theorem orderAndAspectReads : Obligations.OrderAndAspectReads := by
  refine ⟨⟨fun p tag args s h => ⟨fun o ho => ?_, fun hnone => ?_⟩, fun p tag args s l h hl => ?_, orderBytes_length⟩,
    fun p tag args s first last n h hfirst hlast hn => ?_, aspectBytes_length⟩
  · exact exec_answered h tag (orderRead_found (s := s.serving p) ho)
  · exact exec_answered h tag (orderRead_notFound (s := s.serving p) hnone)
  · exact exec_answered h tag (orderList_eq (s := s.serving p) hl)
  · subst hfirst hlast
    exact ⟨fun hle hb => exec_answered h tag (aspectRead_served (s := s.serving p) hle hb hn),
      fun hb => exec_answered h tag (aspectRead_beyond (s := s.serving p) hb)⟩

end Sys2Proof.Machine
end

section
/-! ## The clock carries the entries (R29, R30, R35, R36, R173) -/

set_option Elab.async false

namespace Sys2Proof.Machine

theorem nextStamp_eq (c : Nat) : nextStamp c = if c < 4294967295 then c + 1 else 1 := by
  unfold nextStamp
  split
  · rw [if_neg (by omega)]
  · rw [if_pos (by omega)]

namespace State

/-- An operation on the clock and the entries changes the image, the order table, the ports and the dirty flag alone. -/
theorem eq_of_marks {s t : State} {m : ImgUnit} (h : Frame [.img, .ord, .rsv, .prt] s t) (hm : Marks s t)
    (hi : t.img = m) :
    t = { s with img := m, ord := t.ord, rsv := { s.rsv with dirty := t.rsv.dirty }, prt := t.prt } := by
  have hrsv : t.rsv = { s.rsv with dirty := t.rsv.dirty } := by
    obtain ⟨d, hd⟩ := hm
    rw [hd]
  cases t
  exact (State.mk.injEq ..).mpr ⟨h.powered, hi, h.map, rfl, hrsv, h.mea, h.cnd, h.avp, h.gtc, h.pins, h.scp, h.signs,
    h.flc, rfl, h.cuts, h.pending⟩

/-! ### One entry -/

/-- An entry that enters ACTIVE takes the next stamp (R20, R29). -/
theorem changeState_active {s : State} {o e : Order} (ho : o.state ≠ .active)
    (he : e = { o with state := .active, stamp := nextStamp s.ord.stamps }) : s.changeState o .active = ({ s with
      ord := { s.ord with
        table := s.ord.table.map (fun y => if y.number = o.number then e else y), stamps := e.stamp }
      rsv := { s.rsv with dirty := true } } : State).record (.orderState o.number .active e.stamp) := by
  subst he
  simp only [changeState, putOrder, stored, ne_eq, ho, not_false_eq_true, and_self, if_true]
  rfl

theorem changeState_other {s : State} {o e : Order} {st : OrderState} (hst : st ≠ .active)
    (he : e = { o with state := st }) : s.changeState o st = ({ s with
      ord := { s.ord with table := s.ord.table.map (fun y => if y.number = o.number then e else y) }
      rsv := { s.rsv with dirty := true } } : State).record (.orderState o.number st o.stamp) := by
  subst he
  simp only [changeState, putOrder, stored, hst, false_and, if_false]
  rfl

section Advance
variable {s : State} {o : Order} {t : Nat}

theorem advanceOrder_ended (h : o.ended t = true) : advanceOrder t s o = s.retire o.number .expired := if_pos h

theorem advanceOrder_starts (he : o.ended t = false) (ha : o.state ≠ .active) (hs : o.started t = true) :
    advanceOrder t s o = s.changeState o .active := by
  rw [advanceOrder, he, if_neg Bool.false_ne_true, if_pos ⟨ha, hs⟩]

theorem advanceOrder_announced (he : o.ended t = false) (ho : o.state = .scheduled) (hs : o.started t = false)
    (hw : o.windowOpen t = true) : advanceOrder t s o = s.changeState o .announced := by
  rw [advanceOrder, he, if_neg Bool.false_ne_true, if_neg (by simp [hs]), if_pos ⟨ho, hw⟩]

/-- No case of R35 fits. -/
theorem advanceOrder_same (he : o.ended t = false) (hs : ¬(o.state ≠ .active ∧ o.started t = true))
    (hw : ¬(o.state = .scheduled ∧ o.windowOpen t = true)) : advanceOrder t s o = s := by
  rw [advanceOrder, he, if_neg Bool.false_ne_true, if_neg hs, if_neg hw]

theorem advanceOrder_find_other {n : Nat} (h : n ≠ o.number) : (advanceOrder t s o).ord.find n = s.ord.find n := by
  unfold advanceOrder
  split
  · rw [retire_ord, OrdUnit.find_remove_other h]
  split
  · exact changeState_find_other h
  split
  · exact changeState_find_other h
  · rfl

theorem advanceOrder_find_same (h : s.ord.find o.number = some o) :
    carried t o ((advanceOrder t s o).ord.find o.number) := by
  unfold carried
  by_cases he : o.ended t = true
  · rw [if_pos he, advanceOrder_ended he, retire_ord, OrdUnit.find_remove_same]
  rw [if_neg he]
  rw [Bool.not_eq_true] at he
  by_cases hs : o.state ≠ .active ∧ o.started t = true
  · rw [if_pos hs, advanceOrder_starts he hs.1 hs.2, changeState_find_same h]
    exact ⟨nextStamp s.ord.stamps, congrArg some (if_pos ⟨rfl, hs.1⟩)⟩
  rw [if_neg hs]
  by_cases hw : o.state = .scheduled ∧ o.windowOpen t = true
  · have hstarted : o.started t = false := by simpa [hw.1] using hs
    rw [if_pos hw, advanceOrder_announced he hw.1 hstarted hw.2, changeState_find_same h]
    exact congrArg some (if_neg fun hact => OrderState.noConfusion hact.1)
  · rw [if_neg hw, advanceOrder_same he hs hw, h]

theorem rewindOrder_back (ho : o.state = .announced) (hw : o.windowOpen t = false) :
    rewindOrder t s o = s.changeState o .scheduled := if_pos ⟨ho, hw⟩

theorem rewindOrder_same (h : ¬(o.state = .announced ∧ o.windowOpen t = false)) : rewindOrder t s o = s := if_neg h

theorem rewindOrder_find_other {n : Nat} (h : n ≠ o.number) : (rewindOrder t s o).ord.find n = s.ord.find n := by
  unfold rewindOrder
  split
  · exact changeState_find_other h
  · rfl

theorem rewindOrder_find_same (h : s.ord.find o.number = some o) :
    takenBack t o ((rewindOrder t s o).ord.find o.number) := by
  unfold takenBack
  by_cases hb : o.state = .announced ∧ o.windowOpen t = false
  · rw [if_pos hb, rewindOrder_back hb.1 hb.2, changeState_find_same h]
    exact congrArg some (if_neg fun hact => OrderState.noConfusion hact.1)
  · rw [if_neg hb, rewindOrder_same hb, h]

end Advance

/-! ### Every entry, one by one -/

theorem foldl_find_other {f : State → Order → State} {l : List Order} {n : Nat}
    (other : ∀ s o, n ≠ o.number → (f s o).ord.find n = s.ord.find n) (h : ∀ o ∈ l, n ≠ o.number) (s : State) :
    (l.foldl f s).ord.find n = s.ord.find n := by
  induction l generalizing s with
  | nil => rfl
  | cons o l ih =>
    rw [List.foldl_cons, ih fun x hx => h x (List.mem_cons_of_mem o hx), other s o (h o List.mem_cons_self)]

/-- Over an ascending table each entry is found as its own step leaves it. -/
theorem foldl_find_same {f : State → Order → State} {R : Order → Option Order → Prop}
    (other : ∀ s o n, n ≠ o.number → (f s o).ord.find n = s.ord.find n)
    (same : ∀ s o, s.ord.find o.number = some o → R o ((f s o).ord.find o.number)) {s : State} (hs : s.ascending)
    {o : Order} (ho : o ∈ s.ord.table) : R o ((s.ord.table.foldl f s).ord.find o.number) := by
  have hfind := ascending_find hs ho
  obtain ⟨before, after, hl⟩ := List.append_of_mem ho
  have hs' : (before ++ o :: after).Pairwise (fun a b => a.number < b.number) := hl ▸ hs
  obtain ⟨-, hrest, hbefore⟩ := List.pairwise_append.mp hs'
  have hafter := (List.pairwise_cons.mp hrest).1
  rw [hl, List.foldl_append, List.foldl_cons, foldl_find_other (fun s x => other s x _) fun x hx => (hafter x hx).ne]
  refine same _ _ ?_
  rw [foldl_find_other (fun s x => other s x _) fun x hx => (hbefore x hx o List.mem_cons_self).ne', hfind]

/-- R29, R30, R35 over an ascending table. -/
theorem advanceOrders_carried {s : State} (hs : s.ascending) (t : Nat) {o : Order} (ho : o ∈ s.ord.table) :
    carried t o ((s.advanceOrders t).ord.find o.number) :=
  foldl_find_same (fun _ _ _ => advanceOrder_find_other) (fun _ _ => advanceOrder_find_same) hs ho

/-- R36 over an ascending table. -/
theorem rewindOrders_takenBack {s : State} (hs : s.ascending) (t : Nat) {o : Order} (ho : o ∈ s.ord.table) :
    takenBack t o ((s.rewindOrders t).ord.find o.number) :=
  foldl_find_same (fun _ _ _ => rewindOrder_find_other) (fun _ _ => rewindOrder_find_same) hs ho

theorem advanceOrders_counter (s : State) (t : Nat) : (s.advanceOrders t).ord.counter = s.ord.counter := by
  unfold advanceOrders
  generalize s.ord.table = l
  induction l generalizing s with
  | nil => rfl
  | cons o l ih =>
    rw [List.foldl_cons, ih]
    unfold advanceOrder
    split
    · rw [retire_ord]
      rfl
    split
    · exact changeState_counter ..
    split
    · exact changeState_counter ..
    · rfl

theorem advanceOrders_img (s : State) (t : Nat) : (s.advanceOrders t).img = s.img := (advanceOrders_frame s t).img

theorem rewindOrders_img (s : State) (t : Nat) : (s.rewindOrders t).img = s.img := (rewindOrders_frame s t).img

end State

/-! ### CLOCK_TICK (R173) -/

theorem execClockTick_holds {s : State} (h : s.img.clock = 4294967295) : exec .clockTick s = .next s := by
  simp [exec, execClockTick, State.clockTick, h]

theorem execClockTick_counts {s : State} (h : s.img.clock < 4294967295) (hp : s.powered = true) :
    exec .clockTick s = .next ((s.setClock (s.img.clock + 1)).advanceOrders (s.img.clock + 1)) := by
  simp [exec, execClockTick, State.clockTick, h, hp]

/-- Settles O27: the tick is the clock set one on and every entry carried to it. -/
theorem clockTickCarriesTheOrders : Obligations.ClockTickCarriesTheOrders := by
  refine ⟨fun s => ⟨execClockTick_holds, fun h hp hs => ⟨_, execClockTick_counts h hp, ?_, ?_, fun o ho => ?_, rfl⟩⟩,
    fun now o e s => ⟨State.advanceOrder_ended, fun he ha hs heq => ?_, fun he ho hs hw heq => ?_, fun he h => ?_⟩⟩
  · exact State.eq_of_marks (Frame.step (State.advanceOrders_frame _ _) (State.setClock_frame s _).mono)
      ((Marks.of_eq rfl).trans (State.advanceOrders_marks _ _)) (State.advanceOrders_img _ _)
  · exact State.advanceOrders_counter _ _
  · exact State.advanceOrders_carried (s := s.setClock (s.img.clock + 1)) hs _ ho
  · rw [State.advanceOrder_starts he ha hs]
    exact State.changeState_active ha (by rw [heq, nextStamp_eq])
  · rw [State.advanceOrder_announced he ho hs hw]
    exact State.changeState_other (by decide) heq
  · refine State.advanceOrder_same he (fun hst => ?_) fun hw => ?_
    · rcases h with hact | ⟨hnot, -⟩
      · exact hst.1 hact
      · exact Bool.false_ne_true (hnot.symm.trans hst.2)
    · rcases h with hact | ⟨-, hann | hclosed⟩
      · exact OrderState.noConfusion (hact.symm.trans hw.1)
      · exact OrderState.noConfusion (hann.symm.trans hw.1)
      · exact Bool.false_ne_true (hclosed.symm.trans hw.2)

/-! ### TIME_SET and TIME_READ (R35, R36, R173) -/

namespace State

section Jump
variable {s : State} {t : Nat}

theorem jumpTo_forward (h : s.img.clock < t) : s.jumpTo t = (s.setClock t).advanceOrders t := if_pos h

theorem jumpTo_back (h : t < s.img.clock) : s.jumpTo t = (s.setClock t).rewindOrders t :=
  (if_neg h.not_gt).trans (if_pos h)

theorem jumpTo_same (h : t = s.img.clock) : s.jumpTo t = s.setClock t :=
  (if_neg (by omega)).trans (if_neg (by omega))

end Jump

theorem serving_jumpTo (p : Port) (t : Nat) (s : State) : (s.serving p).jumpTo t = (s.jumpTo t).serving p := by
  rcases Nat.lt_trichotomy s.img.clock t with h | h | h
  · rw [jumpTo_forward h, jumpTo_forward (s := s.serving p) h]
    exact serving_advanceOrders p t (s.setClock t)
  · rw [jumpTo_same h.symm, jumpTo_same (s := s.serving p) h.symm]
    rfl
  · rw [jumpTo_back h, jumpTo_back (s := s.serving p) h]
    exact serving_rewindOrders p t (s.setClock t)

theorem jumpTo_marks (s : State) (t : Nat) : Marks s (s.jumpTo t) := by
  have hset : Marks s (s.setClock t) := .of_eq rfl
  unfold jumpTo
  dsimp only
  split
  · exact hset.trans (advanceOrders_marks _ t)
  split
  · exact hset.trans (rewindOrders_marks _ t)
  · exact hset

theorem jumpTo_img (s : State) (t : Nat) : (s.jumpTo t).img = { s.img with clock := t } := by
  unfold jumpTo
  dsimp only
  split
  · exact advanceOrders_img _ t
  split
  · exact rewindOrders_img _ t
  · rfl

end State

theorem execTimeSet_taken {p : Port} {args : List Byte} {s : State} (h : s.takes p .timeSet args) (tag : Byte) :
    exec (.timeSet p tag args) s =
      .next (((s.jumpTo (get32 args 0)).clearTimeUnset).answer ⟨p, 0x12, tag⟩ .ok (put32 (get32 args 0))) := by
  have hserve : exec (.timeSet p tag args) s = .next (timeSet ⟨p, 0x12, tag⟩ args (s.serving p)) := exec_taken h tag
  have hclear : ∀ u : State, (u.serving p).clearTimeUnset = u.clearTimeUnset.serving p := fun _ => rfl
  rw [hserve, timeSet, State.serving_jumpTo, hclear, State.answer_serving]

/-- Settles O28: the jump carries the entries forward or takes them back at the new clock, and TIME_UNSET is cleared after
it. -/
theorem timeSetJumpsTheClock : Obligations.TimeSetJumpsTheClock := by
  refine ⟨fun p tag args s h hs => ⟨_, execTimeSet_taken h tag, ?_, fun ht => ?_, fun ht => ⟨fun o ho => ?_, fun u hu => ?_⟩,
    fun ht => ⟨fun o ho => ?_, fun u hu => ?_⟩⟩, fun now o e s he => ⟨fun ho hw => ?_, fun h => ?_⟩, fun p tag s h => ?_⟩
  · refine State.eq_of_marks (Frame.step (State.clearTimeUnset_frame _) (State.jumpTo_frame s _))
      ((State.jumpTo_marks s _).step (State.clearTimeUnset_frame _)) ?_
    rw [State.clearTimeUnset_img, State.jumpTo_img]
  · rw [State.jumpTo_same ht]
    exact ⟨rfl, rfl, rfl⟩
  · rw [State.jumpTo_forward ht]
    exact State.advanceOrders_carried (s := s.setClock (get32 args 0)) hs _ ho
  · rw [State.jumpTo_forward ht, hu]
    rfl
  · rw [State.jumpTo_back ht]
    exact State.rewindOrders_takenBack (s := s.setClock (get32 args 0)) hs _ ho
  · rw [State.jumpTo_back ht, hu]
    rfl
  · rw [State.rewindOrder_back ho hw]
    exact State.changeState_other (by decide) he
  · refine State.rewindOrder_same fun hb => ?_
    rcases h with ho | hw
    · exact ho hb.1
    · exact Bool.false_ne_true (hb.2.symm.trans hw)
  · exact exec_answered (r := .timeRead) h tag rfl

end Sys2Proof.Machine
end

section
/-! ## The class and the wind state of a station (R80 to R82, R86, R87) -/

set_option Elab.async false

namespace Sys2Proof.Machine

namespace Station

/-- The station with a FRESH result noted, no run and no timer (R80). -/
def noted (raw : RawClass) (m : Int) (x : Station) : Station :=
  { x with raw := some raw, margin := some m, counter := 0, runBest := none, timer := none }

/-- The least severe class of the run that `raw` continues (R81). -/
def bestOfRun (raw : RawClass) (x : Station) : RawClass :=
  if x.counter = 0 then raw else match x.runBest with
    | some b => if b.num ≤ raw.num then b else raw
    | none => raw

section Fresh
variable {r : StationRec} {ts : Int} {x : Station}

theorem fresh_unknown (h : x.cls = .unknown) : x.fresh r ts =
    { x.noted (rawClassOf r (ts - r.tf)) (ts - r.tf) with cls := (rawClassOf r (ts - r.tf)).cls } := by
  simp only [fresh, h, if_true]
  rfl

/-- The run best is kept as R81 says, whichever order its two tests are made in. -/
theorem worsen_eq (raw : RawClass) : x.worsen r raw =
    if r.wc ≤ x.counter + 1 then { x with cls := (x.bestOfRun raw).cls, counter := 0, runBest := none, timer := none }
    else { x with counter := x.counter + 1, runBest := some (x.bestOfRun raw), timer := none } := by
  have hbest : (match x.runBest with
      | some b => if x.counter = 0 then raw else b.better raw
      | none => raw) = x.bestOfRun raw := by
    unfold bestOfRun
    cases x.runBest with
    | none => exact (ite_self raw).symm
    | some b => rfl
  rw [← hbest]
  rfl

theorem worseThan_known {raw : RawClass} {c : SurfaceClass} (h : raw.worseThan c = true) : c ≠ .unknown := by
  rintro rfl
  cases h

theorem fresh_worse (h : (rawClassOf r (ts - r.tf)).worseThan x.cls = true) : x.fresh r ts =
    ({ x with raw := some (rawClassOf r (ts - r.tf)), margin := some (ts - r.tf) } : Station).worsen r
      (rawClassOf r (ts - r.tf)) := by
  simp only [fresh, if_neg (worseThan_known h), h, if_true]

theorem fresh_judged (hc : x.cls ≠ .unknown) (h : (rawClassOf r (ts - r.tf)).worseThan x.cls = false) :
    x.fresh r ts = ({ x with raw := some (rawClassOf r (ts - r.tf)), margin := some (ts - r.tf) } : Station).judge r
      (ts - r.tf) := by
  simp only [fresh, if_neg hc, h, Bool.false_eq_true, if_false]

/-- The clear-through flag of a run of improving results (R82). -/
def through (r : StationRec) (m : Int) (x : Station) : Bool :=
  if x.cls = .freeze then (x.timer.isNone || x.clearThrough) && decide ((r.band : Int) + r.hyst < m) else x.clearThrough

theorem judge_through (m : Int) : (if x.cls = .freeze then
    (if x.timer.isSome then x.clearThrough else true) && decide ((r.band : Int) + r.hyst < m)
      else x.clearThrough) = x.through r m := by
  unfold through
  cases x.timer <;> rfl

theorem judge_eq (m : Int) : x.judge r m = if improves r x.cls m then
    (if r.hold = 0 then ({ x with counter := 0, runBest := none, timer := some (x.timer.getD 0)
                                  clearThrough := x.through r m } : Station).improve
      else { x with counter := 0, runBest := none, timer := some (x.timer.getD 0), clearThrough := x.through r m })
    else { x with counter := 0, runBest := none, timer := none } := by
  rw [← judge_through]
  rfl

theorem improve_cls {m : Int} (hi : improves r x.cls m = true) (ht : x.timer = none) :
    ({ x with counter := 0, runBest := none, timer := some (x.timer.getD 0)
              clearThrough := x.through r m } : Station).improve.cls =
      if x.cls = .freeze ∧ m ≤ (r.band : Int) + r.hyst then .near else .clear := by
  cases hc : x.cls with
  | freeze =>
    by_cases hm : m ≤ (r.band : Int) + r.hyst
    · simp [improve, improved, through, hc, ht, hm, not_lt.mpr hm]
    · simp [improve, improved, through, hc, ht, hm, not_le.mp hm]
  | near => simp [improve, improved]
  | clear =>
    rw [hc] at hi
    cases hi
  | unknown =>
    rw [hc] at hi
    cases hi

/-- A worsening result before the confirm count (R81). -/
theorem fresh_counts (h : (rawClassOf r (ts - r.tf)).worseThan x.cls = true) (hn : x.counter + 1 < r.wc) :
    x.fresh r ts = { x.noted (rawClassOf r (ts - r.tf)) (ts - r.tf) with
      counter := x.counter + 1, runBest := some (x.bestOfRun (rawClassOf r (ts - r.tf))) } := by
  rw [fresh_worse h, worsen_eq]
  exact if_neg (not_le.mpr hn)

/-- The worsening result that makes the confirm count (R81). -/
theorem fresh_worsens (h : (rawClassOf r (ts - r.tf)).worseThan x.cls = true) (hn : r.wc ≤ x.counter + 1) :
    x.fresh r ts = { x.noted (rawClassOf r (ts - r.tf)) (ts - r.tf) with
      cls := (x.bestOfRun (rawClassOf r (ts - r.tf))).cls } := by
  rw [fresh_worse h, worsen_eq]
  exact if_pos hn

section Judged
variable (hc : x.cls ≠ .unknown) (h : (rawClassOf r (ts - r.tf)).worseThan x.cls = false)
include hc h

/-- A result that is neither worse nor an improvement (R82). -/
theorem fresh_steady (hi : improves r x.cls (ts - r.tf) = false) :
    x.fresh r ts = x.noted (rawClassOf r (ts - r.tf)) (ts - r.tf) := by
  rw [fresh_judged hc h, judge_eq]
  exact if_neg (by rw [hi]; exact Bool.false_ne_true)

/-- An improving result starts the timer, or lets it run on (R82). -/
theorem fresh_improving (hi : improves r x.cls (ts - r.tf) = true) (hh : 0 < r.hold) :
    x.fresh r ts = { x.noted (rawClassOf r (ts - r.tf)) (ts - r.tf) with
      timer := some (x.timer.getD 0), clearThrough := x.through r (ts - r.tf) } := by
  rw [fresh_judged hc h, judge_eq]
  exact (if_pos hi).trans (if_neg hh.ne')

/-- An improvement without a hold time is taken at once: to CLEAR, or to NEAR from FREEZE within the band (R82). -/
theorem fresh_at_once (hi : improves r x.cls (ts - r.tf) = true) (hh : r.hold = 0) (ht : x.timer = none) :
    (x.fresh r ts).cls = (if x.cls = .freeze ∧ ts - r.tf ≤ (r.band : Int) + r.hyst then .near else .clear) ∧
      (x.fresh r ts).timer = none := by
  rw [fresh_judged hc h, judge_eq, if_pos hi, if_pos hh]
  exact ⟨improve_cls (x := { x with raw := some (rawClassOf r (ts - r.tf)), margin := some (ts - r.tf) }) hi ht, rfl⟩

end Judged

end Fresh

/-! ### The wind state -/

section Wind
variable {r : StationRec} {gust : Nat} {x : Station}

/-- The gust is below a limit minus the hysteresis (R87). -/
def windBelow (r : StationRec) (gust limit : Nat) : Bool := decide ((gust : Int) < (limit : Int) - r.windHyst)

/-- The gust is below the limit of the wind state in force, less the hysteresis (R87). -/
def mayFall (r : StationRec) (gust : Nat) (x : Station) : Bool :=
  match x.wind with
  | .storm => windBelow r gust r.storm
  | .strong => windBelow r gust r.strong
  | .normal => false

/-- The samples of the fall so far, after this one (R87). -/
def windSamples (x : Station) : Nat :=
  match x.windCount with
  | none => 0
  | some c => c + 1

/-- The normal-through flag of a run of samples below the limit (R87). -/
def windThrough (r : StationRec) (gust : Nat) (x : Station) : Bool :=
  if x.wind = .storm then (x.windCount.isNone || x.normalThrough) && windBelow r gust r.strong else x.normalThrough

/-- The wind state falls, or does so once the wind hold has passed (R87). -/
def windFall (r : StationRec) (gust : Nat) (x : Station) : Station :=
  if 60 * r.windHold ≤ x.windSamples then
    { x with
      wind := if x.wind = .storm ∧ x.windThrough r gust = false then .strong else .normal
      windCount := none, normalThrough := x.windThrough r gust }
  else { x with windCount := some x.windSamples, normalThrough := x.windThrough r gust }

theorem windFrom_storm (hg : r.storm ≤ gust) (hw : x.wind ≠ .storm) :
    x.windFrom r gust = { x with wind := .storm, windCount := none } := if_pos ⟨hg, hw⟩

theorem windFrom_strong (hg : gust < r.storm) (hs : r.strong ≤ gust) (hw : x.wind = .normal) :
    x.windFrom r gust = { x with wind := .strong, windCount := none } :=
  (if_neg fun h => absurd h.1 (not_le.mpr hg)).trans (if_pos ⟨hs, hw⟩)

/-- Where the gust raises nothing, the state falls or the count stops. -/
theorem windFrom_settled (h1 : ¬(r.storm ≤ gust ∧ x.wind ≠ .storm)) (h2 : ¬(r.strong ≤ gust ∧ x.wind = .normal)) :
    x.windFrom r gust = if x.mayFall r gust then x.windFall r gust else { x with windCount := none } := by
  have hthrough : (if x.wind = .storm then
      (if x.windCount.isSome then x.normalThrough else true) && windBelow r gust r.strong
        else x.normalThrough) = x.windThrough r gust := by
    unfold windThrough
    cases x.windCount <;> rfl
  have hfall : x.windFall r gust = if 60 * r.windHold ≤ x.windSamples then
      { x with
        wind := if x.wind = .storm ∧ !x.windThrough r gust then .strong else .normal
        windCount := none, normalThrough := x.windThrough r gust }
      else { x with windCount := some x.windSamples, normalThrough := x.windThrough r gust } := by
    unfold windFall
    simp only [Bool.not_eq_true']
  rw [hfall, ← hthrough]
  unfold windFrom
  rw [if_neg h1, if_neg h2]
  rfl

theorem windFrom_normal (hg : gust < r.storm) (hs : gust < r.strong) (hw : x.wind = .normal) :
    x.windFrom r gust = { x with windCount := none } := by
  rw [windFrom_settled (fun h => absurd h.1 (not_le.mpr hg)) (fun h => absurd h.1 (not_le.mpr hs)), mayFall, hw]
  exact if_neg Bool.false_ne_true

/-- In STORM, and in STRONG below the storm limit, the state falls exactly where the gust is below its limit (R87). -/
theorem windFrom_raised {b : Bool} (h : (x.wind = .storm ∧ windBelow r gust r.storm = b) ∨
      (x.wind = .strong ∧ gust < r.storm ∧ windBelow r gust r.strong = b)) :
    x.windFrom r gust = if b then x.windFall r gust else { x with windCount := none } := by
  rcases h with ⟨hw, hb⟩ | ⟨hw, hg, hb⟩
  · rw [windFrom_settled (by simp [hw]) (by simp [hw]), mayFall, hw, ← hb]
  · rw [windFrom_settled (fun h => absurd h.1 (not_le.mpr hg)) (by simp [hw]), mayFall, hw, ← hb]

end Wind

end Station

end Sys2Proof.Machine
end

section
/-! ## The WX requests of a hand-over (R27, R79, R88 to R91) -/

set_option Elab.async false

namespace Sys2Proof.Machine

/-! ### Raise and retire (R27) -/

section Raise
variable {k : Fin 6} {c : Content} {s : State}

theorem wxRaise_same {e : Order} (h : s.ord.wxEntry k.val c.kind = some e) (hc : e.content = c) : wxRaise k c s = s := by
  simp only [wxRaise, h, if_pos hc]

/-- An entry of another value is renewed in place, without a new stamp. -/
theorem wxRaise_renews {e : Order} (h : s.ord.wxEntry k.val c.kind = some e) (hc : e.content ≠ c) :
    wxRaise k c s = ({ s with
      ord := { table := s.ord.table.map (fun y => if y.number = e.number then { e with content := c } else y)
               counter := s.ord.counter, stamps := s.ord.stamps }
      rsv := { s.rsv with dirty := true } } : State).record (.orderRenewed { e with content := c }) := by
  simp only [wxRaise, h, if_neg hc]
  rfl

theorem wxRaise_dropped (h : s.ord.wxEntry k.val c.kind = none)
    (hd : s.cnd[k].suppressed c.kind = true ∨ s.img.span k.val = none) : wxRaise k c s = s := by
  cases hs : s.cnd[k].suppressed c.kind with
  | true => simp only [wxRaise, h, hs, if_true]
  | false =>
    have hspan := hd.resolve_left (by rw [hs]; exact Bool.false_ne_true)
    simp only [wxRaise, h, hs, hspan, Bool.false_eq_true, if_false]

theorem wxRaise_admits {a b : Nat} (h : s.ord.wxEntry k.val c.kind = none) (hd : s.cnd[k].suppressed c.kind = false)
    (hspan : s.img.span k.val = some (a, b)) : wxRaise k c s = s.admitOrder (wxDraft k.val c a b) := by
  simp only [wxRaise, h, hd, hspan, Bool.false_eq_true, if_false]

theorem wxRetire_held {kind : Kind} {e : Order} (h : s.ord.wxEntry k.val kind = some e) :
    wxRetire k kind s = s.retire e.number .conditionCleared := by
  simp only [wxRetire, h]

theorem wxRetire_none {kind : Kind} (h : s.ord.wxEntry k.val kind = none) : wxRetire k kind s = s := by
  simp only [wxRetire, h]

end Raise

/-! ### The end of a hand-over (R88 to R91) -/

namespace State

/-- The station as the end of a hand-over sets it: its ready flag, and the suppression flags whose cause is clear cleared
(R88, R91). -/
def concluded (k : Fin 6) (r : StationRec) (s : State) : Station :=
  ({ s.cnd[k] with ready := s.cnd[k].ready || s.readyNow k r } : Station).clearSuppression

theorem conclude_eq (k : Fin 6) (r : StationRec) (s : State) :
    s.conclude k r = (s.setStation k (s.concluded k r)).wxRequests k r := by
  unfold conclude setReady concluded
  dsimp only
  cases h : s.readyNow k r with
  | true =>
    have hset : ∀ x y : Station, (s.setStation k x).setStation k y = s.setStation k y := fun x y => by
      simp [setStation]
    simp only [if_true, hset, Bool.or_true, setStation_cnd, setAt_get_same]
  | false => simp only [Bool.false_eq_true, if_false, Bool.or_false]

theorem mayRequest_iff (k : Fin 6) (s : State) :
    s.mayRequest k = true ↔ s.map.valid = true ∧ (s.img.span k.val).isSome = true ∧ s.cnd[k].cls ≠ .unknown := by
  simp [mayRequest, and_assoc]

theorem wxRequests_made {k : Fin 6} {s : State} (hm : s.mayRequest k = true) (hr : s.cnd[k].ready = true)
    (r : StationRec) : s.wxRequests k r =
      ((s.wxRequest k .speed (s.cnd[k].wantedSpeed r)).wxRequest k .restrict s.cnd[k].wantedRestrict).wxRequest k .close
        s.cnd[k].wantedClose := by
  simp only [wxRequests, hm, hr, Bool.and_self, if_true]

theorem wxRequests_none {k : Fin 6} {s : State} (h : ¬(s.mayRequest k = true ∧ s.cnd[k].ready = true)) (r : StationRec) :
    s.wxRequests k r = s := by
  unfold wxRequests
  rw [if_neg (by rwa [Bool.and_eq_true])]

end State

/-- The restriction wanted, as the set of its flags (R89). -/
theorem wantedRestrict_eq (x : Station) : x.wantedRestrict =
    if (x.snow = true ∧ x.cls = .freeze) ∨ x.wind ≠ .normal then
      some (.restrict ⟨x.snow && decide (x.cls = .freeze), decide (x.wind ≠ .normal), false⟩) else none := by
  unfold Station.wantedRestrict Restrictions.isEmpty
  by_cases hs : x.snow = true ∧ x.cls = .freeze
  · simp [hs]
  · by_cases hw : x.wind = .normal
    · have hchains : (x.snow && decide (x.cls = .freeze)) = false := by simpa using hs
      simp [hs, hw, hchains]
    · simp [hw]

/-- The station record that the statement of O42 writes out is the one that the end of a hand-over sets. -/
theorem concluded_eq {k : Fin 6} {r : StationRec} {s : State} {x : Station} (hx : x = { s.cnd[k] with
      ready := (s.cnd[k]).ready || (decide ((s.cnd[k]).cls ≠ .unknown) && (r.wind.isNone || !(s.mea.wind[k]).isEmpty))
      supSpeed := (s.cnd[k]).supSpeed && decide ((s.cnd[k]).cls ≠ .clear)
      supRestrict := (s.cnd[k]).supRestrict &&
        !decide (((s.cnd[k]).cls = .clear ∨ (s.cnd[k]).cls = .near) ∧ (s.cnd[k]).wind = .normal)
      supClose := (s.cnd[k]).supClose && decide ((s.cnd[k]).wind = .storm) }) : s.concluded k r = x := by
  subst hx
  unfold State.concluded State.readyNow State.windInUse Station.clearSuppression
  rw [Option.not_isSome, Bool.decide_and]

/-- The requests in the statement of O42 are those of `State.wxRequest`. -/
theorem wxRequest_eq_ask {k : Fin 6} {ask : Kind → Option Content → State → State}
    (hnone : ∀ kind v, ask kind none v = wxRetire k kind v)
    (hsome : ∀ kind c v, ask kind (some c) v = if (match kind with
      | .speed => (v.cnd[k]).supSpeed
      | .restrict => (v.cnd[k]).supRestrict
      | .close => (v.cnd[k]).supClose
      | .avwarn | .notice => false) = true then v else wxRaise k c v)
    (kind : Kind) (wanted : Option Content) (v : State) : v.wxRequest k kind wanted = ask kind wanted v := by
  cases wanted with
  | none => exact (hnone kind v).symm
  | some c =>
    rw [hsome]
    cases kind <;> rfl

/-- Settles O42: the five rules, each read off from the closed forms of `Station.fresh`, `Station.windFrom`, `wxRaise`,
`wxRetire` and `State.conclude`. -/
theorem classAndWindRules : Obligations.ClassAndWindRules := by
  refine ⟨fun r ts m raw x y hm hraw hy => ?_, fun r gust n x below through hbelow hn hthrough => ?_,
    fun k c s held dropped hheld hdropped => ?_, fun k kind s held hheld => ?_,
    fun k r s u x speed restrict close ask hx hu hspeed hrestrict hclose hnone hsome => ?_⟩
  · subst hm
    obtain rfl : raw = rawClassOf r (ts - r.tf) := hraw
    obtain rfl : y = x.noted (rawClassOf r (ts - r.tf)) (ts - r.tf) := hy
    refine ⟨Station.fresh_unknown, fun hw best hbest => ?_, fun hc hw => ⟨Station.fresh_steady hc hw,
      Station.fresh_improving hc hw, Station.fresh_at_once hc hw⟩, rfl, rfl, rfl⟩
    obtain rfl : best = x.bestOfRun (rawClassOf r (ts - r.tf)) := by
      refine hbest.trans ?_
      unfold Station.bestOfRun
      cases x.runBest <;> rfl
    exact ⟨Station.fresh_counts hw, Station.fresh_worsens hw⟩
  · obtain rfl : below = Station.windBelow r gust := funext hbelow
    obtain rfl : n = x.windSamples := by
      refine hn.trans ?_
      unfold Station.windSamples
      cases x.windCount <;> rfl
    obtain rfl : through = x.windThrough r gust := hthrough
    refine ⟨Station.windFrom_storm, Station.windFrom_strong, Station.windFrom_normal, Station.windFrom_raised,
      fun h => ?_⟩
    rw [Station.windFrom_raised h]
    exact ⟨fun hlt => if_neg (not_le.mpr hlt), fun hle => if_pos hle⟩
  · have hflag : s.cnd[k].suppressed c.kind = dropped := by
      rw [hdropped]
      cases c.kind <;> rfl
    refine ⟨fun e he hc => wxRaise_same (hheld.symm.trans he) hc, fun e he hc => wxRaise_renews (hheld.symm.trans he) hc,
      fun hn hd => wxRaise_dropped (hheld.symm.trans hn) (hflag ▸ hd), fun a b stamp e hn hd hspan hstamp he => ?_⟩
    have hentry : s.newEntry (wxDraft k.val c a b) = e := by
      rw [he, hstamp]
      rfl
    rw [wxRaise_admits (hheld.symm.trans hn) (hflag.trans hd) hspan, State.admitOrder_eq, hentry, hstamp]
    rfl
  · exact ⟨fun e he => wxRetire_held (hheld.symm.trans he), fun hn => wxRetire_none (hheld.symm.trans hn)⟩
  · have hux : u.cnd[k] = x := by
      rw [hu, State.setStation_cnd, setAt_get_same]
    have hmap : u.map = s.map := by rw [hu]; rfl
    have himg : u.img = s.img := by rw [hu]; rfl
    have hcon : s.conclude k r = u.wxRequests k r := by
      rw [State.conclude_eq, concluded_eq hx, ← hu]
    have hwanted : x.wantedSpeed r = speed ∧ x.wantedRestrict = restrict ∧ x.wantedClose = close := by
      refine ⟨?_, (wantedRestrict_eq x).trans hrestrict.symm, hclose.symm⟩
      rw [hspeed]
      unfold Station.wantedSpeed
      cases x.cls <;> rfl
    rw [hcon]
    refine ⟨fun hv hspan hc hr => ?_, fun h => State.wxRequests_none (fun hreq => ?_) r⟩
    · have hmay : u.mayRequest k = true := (State.mayRequest_iff k u).mpr (by rw [hmap, himg, hux]; exact ⟨hv, hspan, hc⟩)
      rw [State.wxRequests_made hmay (by rw [hux]; exact hr), hux, hwanted.1, hwanted.2.1, hwanted.2.2]
      simp only [wxRequest_eq_ask hnone hsome]
    · obtain ⟨hv, hspan, hc⟩ := (State.mayRequest_iff k u).mp hreq.1
      rw [hmap] at hv
      rw [himg] at hspan
      rw [hux] at hc hreq
      rcases h with h | h | h | h
      · exact Bool.false_ne_true (h.symm.trans hv)
      · rw [h] at hspan
        cases hspan
      · exact hc h
      · exact Bool.false_ne_true (h.symm.trans hreq.2)

end Sys2Proof.Machine
end

section
/-! ## What a record takes from the entries that cover it (R42, R45, R47 to R51) -/

set_option Elab.async false

namespace Sys2Proof.Machine

/-! ### Folds over the covering entries -/

theorem le_foldl_max (l : List Nat) (n : Nat) : n ≤ l.foldl max n ∧ (∀ v ∈ l, v ≤ l.foldl max n) ∧
    (l.foldl max n = n ∨ l.foldl max n ∈ l) := by
  induction l generalizing n with
  | nil => simp
  | cons a t ih =>
    obtain ⟨hn, hall, hmem⟩ := ih (max n a)
    rw [List.foldl_cons, List.forall_mem_cons, List.mem_cons]
    refine ⟨by omega, ⟨by omega, hall⟩, ?_⟩
    rcases hmem with h | h
    · omega
    · exact .inr (.inr h)

/-- A step that keeps, of the value held and the new one, one that is no worse by `R` than either. -/
def Keeps {α : Type} (R : α → α → Prop) (f : Option α → α → Option α) : Prop :=
  (∀ x, f none x = some x) ∧ ∀ b x, ∃ y, f (some b) x = some y ∧ (y = b ∨ y = x) ∧ R y b ∧ R y x

section Kept
variable {α : Type} {R : α → α → Prop} {f : Option α → α → Option α} (hf : Keeps R f) (refl : ∀ x, R x x)
  (trans : ∀ x y z, R x y → R y z → R x z)
include hf refl trans

/-- The fold of such a step from a value holds that value or one of the list, and none of them is better. -/
theorem Keeps.foldl_some (l : List α) (b : α) : ∃ y, l.foldl f (some b) = some y ∧ (y = b ∨ y ∈ l) ∧ R y b ∧
    ∀ x ∈ l, R y x := by
  induction l generalizing b with
  | nil => exact ⟨b, rfl, .inl rfl, refl b, by simp⟩
  | cons a t ih =>
    obtain ⟨c, hc, hmem, hcb, hca⟩ := hf.2 b a
    obtain ⟨y, hy, hym, hyc, hall⟩ := ih c
    rw [List.foldl_cons, hc]
    refine ⟨y, hy, ?_, trans _ _ _ hyc hcb, List.forall_mem_cons.mpr ⟨trans _ _ _ hyc hca, hall⟩⟩
    rcases hym with rfl | h
    · exact hmem.imp_right fun h => List.mem_cons.mpr (.inl h)
    · exact .inr (List.mem_cons_of_mem _ h)

theorem Keeps.foldl_none {l : List α} (hl : l ≠ []) : ∃ y ∈ l, l.foldl f none = some y ∧ ∀ x ∈ l, R y x := by
  cases l with
  | nil => exact absurd rfl hl
  | cons a t =>
    obtain ⟨y, hy, hmem, hya, hall⟩ := hf.foldl_some refl trans t a
    rw [List.foldl_cons, hf.1]
    exact ⟨y, List.mem_cons.mpr hmem, hy, List.forall_mem_cons.mpr ⟨hya, hall⟩⟩

end Kept

theorem lower_keeps : Keeps (· ≤ ·) lower :=
  ⟨fun _ => rfl, fun b x => ⟨min b x, rfl, by omega, by omega, by omega⟩⟩

/-- The lowest of the value held and the list. -/
theorem foldl_lower (l : List Nat) (b : Option Nat) :
    (∀ v, b = some v ∨ v ∈ l → ∃ n, l.foldl lower b = some n ∧ n ≤ v) ∧
    (∀ n, l.foldl lower b = some n → b = some n ∨ n ∈ l) := by
  cases b with
  | none =>
    by_cases hl : l = []
    · subst hl
      simp
    · obtain ⟨y, hmem, hy, hall⟩ := lower_keeps.foldl_none Nat.le_refl (fun _ _ _ => Nat.le_trans) hl
      rw [hy]
      exact ⟨fun v hv => ⟨y, rfl, hall v (by simpa using hv)⟩, fun n hn => .inr (Option.some.inj hn ▸ hmem)⟩
  | some b =>
    obtain ⟨y, hy, hmem, hyb, hall⟩ := lower_keeps.foldl_some Nat.le_refl (fun _ _ _ => Nat.le_trans) l b
    rw [hy]
    refine ⟨fun v hv => ⟨y, rfl, ?_⟩, fun n hn => ?_⟩
    · rcases hv with h | h
      · exact Option.some.inj h ▸ hyb
      · exact hall v h
    · rcases Option.some.inj hn ▸ hmem with h | h
      · exact .inl (congrArg some h.symm)
      · exact .inr h

/-- The union of restrictions has a flag exactly when one of them has it. -/
theorem foldl_union {flag : Restrictions → Bool} (hf : ∀ a b, flag (a.union b) = (flag a || flag b))
    (l : List Restrictions) (a : Restrictions) : flag (l.foldl Restrictions.union a) = (flag a || l.any flag) := by
  induction l generalizing a with
  | nil => simp
  | cons b t ih => rw [List.foldl_cons, ih, hf, List.any_cons, Bool.or_assoc]

/-- Of two NOTICE entries, each as (stamp, number, id), the first is no earlier (R49). -/
def NoEarlier (a b : Nat × Nat × Nat) : Prop := b.1 < a.1 ∨ (b.1 = a.1 ∧ b.2.1 ≤ a.2.1)

theorem laterNotice_keeps : Keeps NoEarlier laterNotice := by
  refine ⟨fun _ => rfl, fun b x => ?_⟩
  by_cases h : b.1 < x.1 ∨ (b.1 = x.1 ∧ b.2.1 < x.2.1)
  · exact ⟨x, if_pos h, .inr rfl, by unfold NoEarlier; omega, by unfold NoEarlier; omega⟩
  · exact ⟨b, if_neg h, .inl rfl, by unfold NoEarlier; omega, by unfold NoEarlier; omega⟩

theorem noEarlier_trans (a b c : Nat × Nat × Nat) : NoEarlier a b → NoEarlier b c → NoEarlier a c := by
  unfold NoEarlier
  omega

/-- The highest-ranked reason of a list that holds one (R45). -/
theorem highestReason_spec {l : List Reason} (hl : l ≠ []) :
    ∃ r ∈ l, highestReason l = some r ∧ ∀ q ∈ l, r.num ≤ q.num := by
  have step : ∀ (t : List Reason) (a : Reason), (t.foldl Reason.higher a = a ∨ t.foldl Reason.higher a ∈ t) ∧
      (t.foldl Reason.higher a).num ≤ a.num ∧ ∀ q ∈ t, (t.foldl Reason.higher a).num ≤ q.num := by
    intro t
    induction t with
    | nil => simp
    | cons b t ih =>
      intro a
      obtain ⟨hmem, hle, hall⟩ := ih (a.higher b)
      have hh : (a.higher b = a ∨ a.higher b = b) ∧ (a.higher b).num ≤ a.num ∧ (a.higher b).num ≤ b.num := by
        unfold Reason.higher
        split
        · exact ⟨.inl rfl, by omega, by omega⟩
        · exact ⟨.inr rfl, by omega, by omega⟩
      rw [List.foldl_cons, List.forall_mem_cons, List.mem_cons]
      refine ⟨?_, by omega, by omega, hall⟩
      rcases hmem with h | h
      · rw [h]
        exact hh.1.imp_right .inl
      · exact .inr (.inr h)
  cases l with
  | nil => exact absurd rfl hl
  | cons a t =>
    obtain ⟨hmem, hle, hall⟩ := step t a
    exact ⟨_, List.mem_cons.mpr hmem, rfl, List.forall_mem_cons.mpr ⟨hle, hall⟩⟩

/-! ### The covering entries of one kind (R42) -/

theorem PassOrder.counts_iff {o : PassOrder} {st : OrderState} {seg : Nat} {d : Dir} :
    o.counts st seg d ↔ o.state = st ∧ o.covers seg d = true := by
  unfold PassOrder.counts PassOrder.covers
  rw [Bool.and_eq_true, decide_eq_true_iff, and_assoc]
  cases o.dirs <;> cases d <;> simp [Dirs.has]

namespace PassCopy
variable {p : PassCopy} {st : OrderState} {seg : Nat} {d : Dir}

theorem mem_covering {o : PassOrder} : o ∈ p.covering st seg d ↔ o ∈ p.orders ∧ o.counts st seg d := by
  simp only [covering, List.mem_filter, Bool.and_eq_true, decide_eq_true_iff, PassOrder.counts_iff]

/-- What the covering entries give, where `give` reads it off an entry. -/
def given {α : Type} (p : PassCopy) (st : OrderState) (seg : Nat) (d : Dir) (give : PassOrder → Option α) : List α :=
  (p.covering st seg d).filterMap give

theorem mem_given {α : Type} {give : PassOrder → Option α} {x : α} :
    x ∈ p.given st seg d give ↔ ∃ o ∈ p.orders, o.counts st seg d ∧ give o = some x := by
  simp only [given, List.mem_filterMap, mem_covering, and_assoc]

theorem given_eq_nil {α : Type} {give : PassOrder → Option α} :
    p.given st seg d give = [] ↔ ∀ o ∈ p.orders, o.counts st seg d → give o = none := by
  simp only [given, List.filterMap_eq_nil_iff, mem_covering, and_imp]

end PassCopy

namespace PassOrder

def restriction (o : PassOrder) : Option Restrictions :=
  match o.content with
  | .restrict v => some v
  | _ => none

def avalanche (o : PassOrder) : Option Nat :=
  match o.content with
  | .avwarn v => some v
  | _ => none

def speedLimit (o : PassOrder) : Option Nat :=
  match o.content with
  | .speed v => some v
  | _ => none

/-- The start of a CLOSE entry. -/
def closeStart (o : PassOrder) : Option Nat := o.closeReason.bind fun _ => o.start

/-- The stamp, the number and the notice id of a NOTICE entry. -/
def noticeKey (o : PassOrder) : Option (Nat × Nat × Nat) :=
  match o.content with
  | .notice id => some (o.stamp, o.number, id)
  | _ => none

variable {o : PassOrder}

theorem closeReason_eq_some {r : Reason} : o.closeReason = some r ↔ o.content = .close r := by
  unfold closeReason
  cases o.content <;> simp

theorem closeReason_isSome : o.closeReason.isSome = true ↔ ∃ r, o.content = .close r := by
  simp only [Option.isSome_iff_exists, closeReason_eq_some]

theorem restriction_eq_some {v : Restrictions} : o.restriction = some v ↔ o.content = .restrict v := by
  unfold restriction
  cases o.content <;> simp

theorem avalanche_eq_some {v : Nat} : o.avalanche = some v ↔ o.content = .avwarn v := by
  unfold avalanche
  cases o.content <;> simp

theorem speedLimit_eq_some {v : Nat} : o.speedLimit = some v ↔ o.content = .speed v := by
  unfold speedLimit
  cases o.content <;> simp

theorem closeStart_eq_some {t : Nat} : o.closeStart = some t ↔ (∃ r, o.content = .close r) ∧ o.start = some t := by
  simp only [closeStart, Option.bind_eq_some_iff, closeReason_eq_some, exists_and_right]

theorem noticeKey_eq_some {x : Nat × Nat × Nat} :
    o.noticeKey = some x ↔ o.content = .notice x.2.2 ∧ x.1 = o.stamp ∧ x.2.1 = o.number := by
  obtain ⟨a, b, c⟩ := x
  unfold noticeKey
  cases o.content <;> simp
  constructor
  · rintro ⟨rfl, rfl, rfl⟩
    exact ⟨rfl, rfl, rfl⟩
  · rintro ⟨rfl, rfl, rfl⟩
    exact ⟨rfl, rfl, rfl⟩

end PassOrder

namespace PassCopy
variable (p : PassCopy) (seg : Nat) (d : Dir)

/-! ### Each field of a record as a fold over what the covering entries give -/

theorem level_eq : p.level seg d = (p.given .active seg d PassOrder.avalanche).foldl max 0 := by
  rw [given, List.foldl_filterMap]
  unfold level PassOrder.avalanche
  congr 1
  funext n o
  cases o.content <;> rfl

theorem restr_eq : p.restr seg d =
    (p.given .active seg d PassOrder.restriction).foldl Restrictions.union ⟨false, false, false⟩ := by
  rw [given, List.foldl_filterMap]
  unfold restr PassOrder.restriction
  congr 1
  funext n o
  cases o.content <;> rfl

theorem speed_eq (base : Option Nat) : p.speed base seg d =
    (p.given .active seg d PassOrder.speedLimit).foldl lower base := by
  rw [given, List.foldl_filterMap]
  unfold speed PassOrder.speedLimit
  congr 1
  funext n o
  cases o.content <;> rfl

theorem announced_eq : p.announced seg d = (p.given .announced seg d PassOrder.closeStart).foldl lower none := by
  rw [given, List.foldl_filterMap]
  unfold announced PassOrder.closeStart PassOrder.closeReason
  congr 1
  funext n o
  cases o.content <;> cases o.start <;> rfl

theorem notice_eq : p.notice seg d =
    ((p.given .active seg d PassOrder.noticeKey).foldl laterNotice none).map (fun x => (x.2.2, x.1)) := by
  rw [given, List.foldl_filterMap]
  unfold notice PassOrder.noticeKey
  congr 2
  funext n o
  cases o.content <;> rfl

/-- The entries that close a record by order (R45). -/
def closers : List PassOrder := (p.covering .active seg d).filter (fun o => o.closeReason.isSome)

theorem mem_closers {o : PassOrder} :
    o ∈ p.closers seg d ↔ o ∈ p.orders ∧ o.counts .active seg d ∧ ∃ r, o.content = .close r := by
  simp only [closers, List.mem_filter, mem_covering, PassOrder.closeReason_isSome, and_assoc]

theorem byOrder_open (h : p.closers seg d = []) : p.byOrder seg d = ⟨.no, none, false⟩ := by
  unfold closers at h
  simp only [byOrder, h]

theorem byOrder_closed (h : p.closers seg d ≠ []) : p.byOrder seg d =
    ⟨.byOrder, highestReason ((p.closers seg d).filterMap PassOrder.closeReason),
      (p.closers seg d).any PassOrder.emergency⟩ := by
  unfold closers at h ⊢
  unfold byOrder
  dsimp only
  split
  · next e => exact absurd e h
  · rfl

variable {p seg d}

/-- A computed record is that of a present segment (R41). -/
theorem record_eq_some {a : Aspect} : p.record seg d = some a ↔ ∃ g c, p.segments[seg]? = some g ∧
    (p.closures d)[seg]? = some c ∧
    a = { resolved := true, closed := c.closed, reason := c.reason, emergency := c.emergency
          level := p.level seg d, restr := p.restr seg d, speed := p.speed g.base seg d
          notice := p.notice seg d, announced := p.announced seg d, condition := p.condition g.station } := by
  unfold record
  cases hg : p.segments[seg]? with
  | none => simp
  | some g =>
    cases hc : (p.closures d)[seg]? with
    | none => simp
    | some c => simp [eq_comm]

end PassCopy

/-! ### The statements -/

/-- Settles O30: the closing entries are those that the statement names, and the reason is the highest-ranked of
theirs. -/
theorem closureByOrder : Obligations.ClosureByOrder := by
  intro p seg d
  have hmem := fun o => p.mem_closers seg d (o := o)
  refine ⟨fun h => p.byOrder_open seg d (List.eq_nil_iff_forall_not_mem.mpr fun o ho => h ⟨o, (hmem o).mp ho⟩),
    fun ⟨o, ho⟩ => ?_⟩
  have ho := (hmem o).mpr ho
  rw [p.byOrder_closed seg d (List.ne_nil_of_mem ho)]
  have hreason : ∀ r, r ∈ (p.closers seg d).filterMap PassOrder.closeReason ↔
      ∃ o ∈ p.orders, o.counts .active seg d ∧ o.content = .close r := by
    intro r
    simp only [List.mem_filterMap, hmem, PassOrder.closeReason_eq_some]
    exact ⟨fun ⟨o, ⟨hm, hc, _⟩, hr⟩ => ⟨o, hm, hc, hr⟩, fun ⟨o, hm, hc, hr⟩ => ⟨o, ⟨hm, hc, r, hr⟩, hr⟩⟩
  obtain ⟨hm, hc, r, hr⟩ := (hmem o).mp ho
  obtain ⟨top, htop, heq, hrank⟩ := highestReason_spec (List.ne_nil_of_mem ((hreason r).mpr ⟨o, hm, hc, hr⟩))
  refine ⟨rfl, ⟨top, heq, (hreason top).mp htop, fun q hq hqc r' hr' => ?_⟩, ?_⟩
  · exact hrank r' ((hreason r').mpr ⟨q, hq, hqc, hr'⟩)
  · simp only [List.any_eq_true, hmem, and_assoc]

/-- Settles O32: the level is the highest of what the AVWARN entries give, the set the union of what the RESTRICT
entries give. -/
theorem levelAndRestrictions : Obligations.LevelAndRestrictions := by
  intro p seg d a ha
  obtain ⟨g, c, -, -, rfl⟩ := PassCopy.record_eq_some.mp ha
  have hlevel : ∀ v, v ∈ p.given .active seg d PassOrder.avalanche ↔
      ∃ o ∈ p.orders, o.counts .active seg d ∧ o.content = .avwarn v := fun v => by
    simp only [PassCopy.mem_given, PassOrder.avalanche_eq_some]
  obtain ⟨-, hle, hmax⟩ := le_foldl_max (p.given .active seg d PassOrder.avalanche) 0
  rw [← p.level_eq] at hle hmax
  have hflag : ∀ flag : Restrictions → Bool, (∀ a b, flag (a.union b) = (flag a || flag b)) →
      flag ⟨false, false, false⟩ = false → (flag (p.restr seg d) = true ↔
        ∃ o ∈ p.orders, o.counts .active seg d ∧ ∃ r, o.content = .restrict r ∧ flag r = true) := by
    intro flag hunion hnone
    rw [p.restr_eq, foldl_union hunion, hnone, Bool.false_or, List.any_eq_true]
    simp only [PassCopy.mem_given, PassOrder.restriction_eq_some]
    exact ⟨fun ⟨r, ⟨o, ho, hc, hr⟩, hx⟩ => ⟨o, ho, hc, r, hr, hx⟩,
      fun ⟨o, ho, hc, r, hr, hx⟩ => ⟨r, ⟨o, ho, hc, hr⟩, hx⟩⟩
  exact ⟨fun o ho hc v hv => hle v ((hlevel v).mpr ⟨o, ho, hc, hv⟩), hmax.imp_right (hlevel _).mp,
    hflag Restrictions.chains (fun _ _ => rfl) rfl, hflag Restrictions.noHgv (fun _ _ => rfl) rfl,
    hflag Restrictions.noTrailer (fun _ _ => rfl) rfl⟩

/-- Settles O33: speed and announced closure are the lowest of what the entries give, the condition is the copied
class. -/
theorem speedAnnouncementAndCondition : Obligations.SpeedAnnouncementAndCondition := by
  intro p seg d a g ha hg
  obtain ⟨g', c, hg', -, rfl⟩ := PassCopy.record_eq_some.mp ha
  obtain rfl : g = g' := Option.some.inj (hg.symm.trans hg')
  have hspeed : ∀ v, v ∈ p.given .active seg d PassOrder.speedLimit ↔
      ∃ o ∈ p.orders, o.counts .active seg d ∧ o.content = .speed v := fun v => by
    simp only [PassCopy.mem_given, PassOrder.speedLimit_eq_some]
  have hstart : ∀ t, t ∈ p.given .announced seg d PassOrder.closeStart ↔
      ∃ o ∈ p.orders, o.counts .announced seg d ∧ (∃ r, o.content = .close r) ∧ o.start = some t := fun t => by
    simp only [PassCopy.mem_given, PassOrder.closeStart_eq_some]
  obtain ⟨hleast, hfrom⟩ := foldl_lower (p.given .active seg d PassOrder.speedLimit) g.base
  obtain ⟨hearliest, hof⟩ := foldl_lower (p.given .announced seg d PassOrder.closeStart) none
  rw [← p.speed_eq] at hleast hfrom
  rw [← p.announced_eq] at hearliest hof
  refine ⟨fun v hv => hleast v (.inl hv), fun o ho hc v hv => hleast v (.inr ((hspeed v).mpr ⟨o, ho, hc, hv⟩)),
    fun n hn => (hfrom n hn).imp_right (hspeed n).mp,
    fun o ho hc hr t ht => hearliest t (.inr ((hstart t).mpr ⟨o, ho, hc, hr, ht⟩)), fun n hn => ?_, fun hs => ?_,
    fun k hs => ?_⟩
  · rcases hof n hn with h | h
    · cases h
    · exact (hstart n).mp h
  · simp only [PassCopy.condition, hs]
  · simp only [PassCopy.condition, hs]
    rfl

/-- Settles O34: the notice is that of the entry that no other follows in stamp and number. -/
theorem noticeOfTheHighestStamp : Obligations.NoticeOfTheHighestStamp := by
  intro p seg d a ha
  obtain ⟨g, c, -, -, rfl⟩ := PassCopy.record_eq_some.mp ha
  dsimp only
  rw [p.notice_eq]
  refine ⟨fun h => ?_, fun ⟨o, ho, hc, id, hid⟩ => ?_⟩
  · have hnil : p.given .active seg d PassOrder.noticeKey = [] := by
      refine PassCopy.given_eq_nil.mpr fun o ho hc => Option.eq_none_iff_forall_ne_some.mpr fun x hx => ?_
      exact h ⟨o, ho, hc, x.2.2, (PassOrder.noticeKey_eq_some.mp hx).1⟩
    rw [hnil]
    rfl
  · have hkey : ∀ q ∈ p.orders, q.counts .active seg d → ∀ n, q.content = .notice n →
        (q.stamp, q.number, n) ∈ p.given .active seg d PassOrder.noticeKey := fun q hq hqc n hn =>
      PassCopy.mem_given.mpr ⟨q, hq, hqc, PassOrder.noticeKey_eq_some.mpr ⟨hn, rfl, rfl⟩⟩
    obtain ⟨y, hy, hfold, hlast⟩ := laterNotice_keeps.foldl_none (fun x => .inr ⟨rfl, Nat.le_refl _⟩) noEarlier_trans
      (List.ne_nil_of_mem (hkey o ho hc id hid))
    obtain ⟨w, hw, hwc, hwk⟩ := PassCopy.mem_given.mp hy
    obtain ⟨hcontent, hstamp, hnumber⟩ := PassOrder.noticeKey_eq_some.mp hwk
    refine ⟨w, hw, hwc, ⟨y.2.2, hcontent, by rw [hfold, ← hstamp]; rfl⟩, fun q hq hqc ⟨n, hn⟩ => ?_⟩
    have hlater : NoEarlier y (q.stamp, q.number, n) := hlast _ (hkey q hq hqc n hn)
    unfold NoEarlier at hlater
    rwa [hstamp, hnumber] at hlater

end Sys2Proof.Machine
end

section
/-! ## Closures are carried back, and the pass that computes them (R41, R43, R46) -/

set_option Elab.async false

namespace Sys2Proof.Machine

/-! ### The walk along one direction (R46) -/

theorem carryBack_cons (x : Bool × Closure) (t : List (Bool × Closure)) : carryBack (x :: t) =
    (match (carryBack t).head? with
      | none => x.2
      | some ahead => ahead.carried x.1 x.2) :: carryBack t := by
  rw [carryBack]
  cases carryBack t <;> rfl

theorem carryBack_length (l : List (Bool × Closure)) : (carryBack l).length = l.length := by
  induction l with
  | nil => rfl
  | cons x t ih => rw [carryBack_cons, List.length_cons, List.length_cons, ih]

/-- The record at the far end stands as it came. -/
theorem carryBack_last {l : List (Bool × Closure)} {n : Nat} {b : Bool} {c : Closure} (hl : l.length = n + 1)
    (h : l[n]? = some (b, c)) : (carryBack l)[n]? = some c := by
  induction l generalizing n with
  | nil => simp at hl
  | cons x t ih =>
    rw [carryBack_cons]
    cases n with
    | zero =>
      obtain rfl : t = [] := List.length_eq_zero_iff.mp (Nat.succ.inj hl)
      obtain rfl : x = (b, c) := Option.some.inj h
      rfl
    | succ n => exact ih (Nat.succ.inj hl) h

/-- Every other record is carried to from the record ahead of it. -/
theorem carryBack_step {l : List (Bool × Closure)} {i : Nat} {b : Bool} {c ahead : Closure} (h : l[i]? = some (b, c))
    (ha : (carryBack l)[i + 1]? = some ahead) : (carryBack l)[i]? = some (ahead.carried b c) := by
  induction l generalizing i with
  | nil => cases h
  | cons x t ih =>
    rw [carryBack_cons] at ha ⊢
    cases i with
    | zero =>
      have hhead : (carryBack t).head? = some ahead := List.head?_eq_getElem?.trans ha
      obtain rfl : x = (b, c) := Option.some.inj h
      rw [hhead]
      rfl
    | succ i => exact ih h ha

/-- What a record takes from the record ahead: nothing, its closure, or its emergency flag (R46). -/
theorem carried_cases {x : Option Closure} {turn : Bool} {ahead c : Closure} (h : x = some (ahead.carried turn c)) :
    (ahead.closed = .no ∨ turn = true → x = some c) ∧
    (ahead.closed ≠ .no → turn = false →
      (c.closed = .no → x = some ⟨.byPropagation, ahead.reason, ahead.emergency⟩) ∧
      (c.closed = .byOrder → x = some ⟨.byOrder, c.reason, c.emergency || ahead.emergency⟩)) := by
  subst h
  unfold Closure.carried Closure.isClosed
  refine ⟨fun h => ?_, fun hc ht => ⟨fun hn => ?_, fun ho => ?_⟩⟩
  · rw [if_neg]
    rcases h with h | h <;> simp [h]
  · simp only [hc, ht, hn, ne_eq, not_false_eq_true, decide_true, Bool.not_false, Bool.and_self, if_true]
  · simp only [hc, ht, ho, ne_eq, not_false_eq_true, decide_true, Bool.not_false, Bool.and_self, if_true]

namespace PassCopy
variable {p : PassCopy} {d : Dir} {seg : Nat}

theorem firstStep_length (p : PassCopy) (d : Dir) : (p.firstStep d).length = p.segments.length := List.length_mapIdx

theorem firstStep_get {g : PassSegment} (h : p.segments[seg]? = some g) (d : Dir) :
    (p.firstStep d)[seg]? = some (g.turn, p.byOrder seg d) := by
  rw [firstStep, List.getElem?_mapIdx, h]
  rfl

theorem segment_exists (h : seg < p.segments.length) : ∃ g, p.segments[seg]? = some g :=
  ⟨_, List.getElem?_eq_getElem h⟩

theorem segment_lt {g : PassSegment} (h : p.segments[seg]? = some g) : seg < p.segments.length :=
  (List.getElem?_eq_some_iff.mp h).1

theorem closures_length (p : PassCopy) (d : Dir) : (p.closures d).length = p.segments.length := by
  cases d with
  | S => rw [closures, carryBack_length, firstStep_length]
  | N => rw [closures, List.length_reverse, carryBack_length, List.length_reverse, firstStep_length]

/-- Direction S ends at the last segment. -/
theorem closures_S_last {n : Nat} (h : p.segments.length = n + 1) : (p.closures .S)[n]? = some (p.byOrder n .S) := by
  obtain ⟨g, hg⟩ := p.segment_exists (seg := n) (by omega)
  exact carryBack_last ((p.firstStep_length .S).trans h) (firstStep_get hg .S)

theorem closures_S_step {g : PassSegment} {ahead : Closure} (hg : p.segments[seg]? = some g)
    (ha : (p.closures .S)[seg + 1]? = some ahead) :
    (p.closures .S)[seg]? = some (ahead.carried g.turn (p.byOrder seg .S)) :=
  carryBack_step (firstStep_get hg .S) ha

/-- Direction N is walked from segment 0, the last of the reversed list. -/
theorem closures_N_get {i : Nat} (h : seg + i + 1 = p.segments.length) :
    (p.closures .N)[seg]? = (carryBack (p.firstStep .N).reverse)[i]? := by
  have hl : (carryBack (p.firstStep .N).reverse).length = p.segments.length := by
    rw [carryBack_length, List.length_reverse, firstStep_length]
  rw [closures, List.getElem?_reverse (by omega), hl]
  congr 1
  omega

theorem firstStep_reverse_get {i : Nat} {g : PassSegment} (h : seg + i + 1 = p.segments.length)
    (hg : p.segments[seg]? = some g) : (p.firstStep .N).reverse[i]? = some (g.turn, p.byOrder seg .N) := by
  have hl := p.firstStep_length .N
  rw [List.getElem?_reverse (by omega), hl, ← firstStep_get hg]
  congr 1
  omega

theorem closures_N_last (h : 0 < p.segments.length) : (p.closures .N)[0]? = some (p.byOrder 0 .N) := by
  obtain ⟨n, hn⟩ : ∃ n, p.segments.length = n + 1 := Nat.exists_eq_add_one.mpr h
  obtain ⟨g, hg⟩ := p.segment_exists h
  rw [closures_N_get (i := n) (by omega)]
  exact carryBack_last (by rw [List.length_reverse, firstStep_length, hn]) (firstStep_reverse_get (by omega) hg)

theorem closures_N_step {g : PassSegment} {ahead : Closure} (hg : p.segments[seg + 1]? = some g)
    (ha : (p.closures .N)[seg]? = some ahead) :
    (p.closures .N)[seg + 1]? = some (ahead.carried g.turn (p.byOrder (seg + 1) .N)) := by
  have hlt := segment_lt hg
  obtain ⟨i, hi⟩ : ∃ i, seg + 1 + i + 1 = p.segments.length := ⟨p.segments.length - seg - 2, by omega⟩
  rw [closures_N_get (i := i + 1) (by omega)] at ha
  rw [closures_N_get hi]
  exact carryBack_step (firstStep_reverse_get hi hg) ha

/-! ### The work copy (R41) -/

theorem work_get (p : PassCopy) (published : Vector Aspect 32) (i : Fin 32) : (p.work published)[i] =
    (p.record (i.val / 2) (if i.val % 2 = 0 then .S else .N)).getD published[i] := by
  rw [work, ofFn_get, dirOfIndex]

/-- The index of a record holds that record (section 3.1). -/
theorem work_present {a : Aspect} (ha : p.record seg d = some a) (published : Vector Aspect 32) {i : Fin 32}
    (hi : i.val = 2 * seg + d.num) : (p.work published)[i] = a := by
  have hd : (if i.val % 2 = 0 then Dir.S else Dir.N) = d ∧ i.val / 2 = seg := by
    cases d with
    | S =>
      have hi : i.val = 2 * seg + 0 := hi
      exact ⟨if_pos (by omega), by omega⟩
    | N =>
      have hi : i.val = 2 * seg + 1 := hi
      exact ⟨if_neg (by omega), by omega⟩
  rw [work_get, hd.1, hd.2, ha]
  rfl

end PassCopy

/-- Settles O31: both directions are one walk, along the list or along its reverse, and each step of it takes the closure,
the emergency flag or nothing from the record ahead. -/
theorem closureCarriesBack : Obligations.ClosureCarriesBack := by
  refine ⟨fun p => ⟨p.closures_length .S, fun n hn => PassCopy.closures_S_last hn, fun s g ahead _ hg ha => ?_⟩,
    fun p => ⟨p.closures_length .N, PassCopy.closures_N_last, fun s g ahead hg ha => ?_⟩, fun p published seg d =>
    ⟨fun hs => ?_, fun g hg => ?_⟩⟩
  · exact carried_cases (PassCopy.closures_S_step hg ha)
  · exact carried_cases (PassCopy.closures_N_step hg ha)
  · refine Option.eq_none_iff_forall_ne_some.mpr fun a ha => ?_
    obtain ⟨g, c, hg, -⟩ := PassCopy.record_eq_some.mp ha
    rw [hs] at hg
    cases hg
  · have hc := List.getElem?_eq_getElem ((PassCopy.segment_lt hg).trans_eq (p.closures_length d).symm)
    have ha := PassCopy.record_eq_some.mpr ⟨g, _, hg, hc, rfl⟩
    refine ⟨_, _, hc, ha, rfl, rfl, rfl, rfl, fun i hi => PassCopy.work_present ha published ?_⟩
    cases d <;> exact hi

/-! ### The start of a pass (R42, R43) -/

namespace State
variable {s : State}

theorem passBegin_begins (hd : s.rsv.dirty = true) (hp : s.rsv.pass = none) (hv : s.map.valid = true) :
    s.passBegin = { s with rsv := { s.rsv with dirty := false, pass := some s.passCopy } } := by
  simp [passBegin, hd, hp, hv]

theorem passBegin_idle (h : s.rsv.dirty = false ∨ s.rsv.pass ≠ none ∨ s.map.valid = false) : s.passBegin = s := by
  rw [passBegin, if_neg]
  rcases h with h | h | h
  · simp [h]
  · simp [h]
  · simp [h]

theorem passCopy_segment {i : Nat} {g : PassSegment} (h : s.img.segment? i = some g) :
    s.passCopy.segments[i]? = some g := by
  have hi : i < s.img.nseg := ImgUnit.segment?_present i g h
  rw [passCopy, List.getElem?_map, List.getElem?_range hi, Option.map_some, h]
  rfl

theorem passCopy_class (s : State) (k : Fin 6) : s.passCopy.classes[k.val]? = some (s.cnd[k]).cls := by
  simp [passCopy]

end State

theorem exec_powered {s : State} (hp : s.powered = true) {i : Instr} {f : State → State}
    (h : exec i s = .next (s.whenPowered f)) : exec i s = .next (f s) := by
  rw [h, State.whenPowered, if_pos hp]

/-- Settles O35: the three conditions are those of `State.passBegin`, and the copy is `State.passCopy`. -/
theorem passBeginsWhenDirty : Obligations.PassBeginsWhenDirty := by
  intro s hp
  rw [exec_powered hp (i := .passBegin) rfl]
  refine ⟨fun hd hn hv => ⟨s.passCopy, by rw [State.passBegin_begins hd hn hv], rfl, ?_,
    fun _ _ => State.passCopy_segment, s.passCopy_class⟩, fun h => by rw [State.passBegin_idle h]⟩
  rw [State.passCopy, List.length_map, List.length_range]

end Sys2Proof.Machine
end

section
/-! ## One gate or path of its bank under the operations that run over all of them -/

set_option Elab.async false

namespace Sys2Proof.Machine

/-- A fold over a bank whose every step touches its own unit alone does not touch a unit that it does not come to. -/
theorem foldl_other {α : Type} {n : Nat} {f : State → Fin n → State} {bank : State → Vector α n}
    (hother : ∀ s i j, i ≠ j → (bank (f s i))[j] = (bank s)[j]) {l : List (Fin n)} {i : Fin n} (h : i ∉ l) (s : State) :
    (bank (l.foldl f s))[i] = (bank s)[i] := by
  induction l generalizing s with
  | nil => rfl
  | cons a t ih =>
    obtain ⟨ha, ht⟩ := List.ne_and_not_mem_of_not_mem_cons h
    rw [List.foldl_cons, ih ht, hother _ _ _ (Ne.symm ha)]

/-- Such a fold over the whole bank gives unit `i` what its own step gives it, on a device `u` in which that unit is as it
was. -/
theorem foldl_unit {α : Type} {n : Nat} {l : List Field} {f : State → Fin n → State} (bank : State → Vector α n)
    (hf : ∀ s i, Frame l s (f s i)) (hother : ∀ s i j, i ≠ j → (bank (f s i))[j] = (bank s)[j]) (s : State) (i : Fin n) :
    ∃ u, Frame l s u ∧ (bank u)[i] = (bank s)[i] ∧ (bank ((List.finRange n).foldl f s))[i] = (bank (f u i))[i] := by
  obtain ⟨as, bs, h⟩ := List.append_of_mem (List.mem_finRange i)
  have hnd : (as ++ i :: bs).Nodup := h ▸ List.nodup_finRange n
  have has : i ∉ as := fun hm => (List.nodup_append.mp hnd).2.2 i hm i List.mem_cons_self rfl
  have hbs : i ∉ bs := (List.nodup_cons.mp (List.nodup_append.mp hnd).2.1).1
  refine ⟨as.foldl f s, Frame.foldl f as hf s, foldl_other hother has s, ?_⟩
  rw [h, List.foldl_append, List.foldl_cons, foldl_other hother hbs]

namespace State

/-! ### Transitions of a gate (R112, R127) -/

theorem enterGate_gtc (g : Fin 8) (s : State) (x : Gate) : (enterGate g s x).gtc = setAt s.gtc g x := by
  rw [enterGate, (reportGate_frame _ g).gtc, (recordGate_frame _ g x _).gtc, setGate_gtc]

theorem foldl_enterGate_gtc (g : Fin 8) (l : List Gate) (s : State) :
    (l.foldl (enterGate g) s).gtc = setAt s.gtc g (l.getLast?.getD s.gtc[g]) := by
  induction l generalizing s with
  | nil => exact (setAt_self ..).symm
  | cons x t ih =>
    rw [List.foldl_cons, ih, enterGate_gtc, setAt_setAt, setAt_get_same, List.getLast?_cons]
    rfl

/-- The gate at the end of a transition stands in its bank. -/
theorem moveGate_gtc (g : Fin 8) (m : Gate × List Gate) (s : State) :
    (s.moveGate g m).gtc = setAt s.gtc g (Gate.final m) := by
  rw [moveGate, foldl_enterGate_gtc, setGate_gtc, setAt_setAt, setAt_get_same]
  rfl

theorem moveGate_nonempty (s : State) (g : Fin 8) {y : Gate} {l : List Gate} (hl : l ≠ [])
    (h : y.state = s.gtc[g].state) : s.moveGate g (y, l) = l.foldl (enterGate g) s := by
  obtain ⟨z, t, rfl⟩ := List.exists_cons_of_ne_nil hl
  rw [moveGate_entries g s y z t h, List.foldl_cons]

/-- A transition that leaves the gate as it is and enters no state changes nothing. -/
theorem moveGate_idle (s : State) (g : Fin 8) : s.moveGate g (s.gtc[g], []) = s := by
  rw [moveGate_stored, setGate]
  simp

theorem onGate_used {s : State} {g : Fin 8} {r : GateRec} (hv : s.map.valid = true) (hr : s.gate? g.val = some r)
    (f : GateRec → Gate → Gate × List Gate) : s.onGate g f = s.moveGate g (f r s.gtc[g]) := by
  simp only [onGate, valid, hv, hr]

theorem onGate_unused {s : State} {g : Fin 8} (h : s.map.valid = false ∨ s.gate? g.val = none)
    (f : GateRec → Gate → Gate × List Gate) : s.onGate g f = s := by
  rcases h with h | h
  · exact onGate_invalid h g f
  · unfold onGate
    rw [h]
    cases s.valid <;> rfl

theorem onGate_other (s : State) {g h : Fin 8} (hn : g ≠ h) (f : GateRec → Gate → Gate × List Gate) :
    (s.onGate g f).gtc[h] = s.gtc[h] := by
  unfold onGate
  split
  · rw [moveGate_gtc, setAt_get_other _ _ hn]
  · rfl

/-- A transition of a gate in use reaches gates, paths and notices alone. -/
theorem eq_of_gate_frame {s t : State} (h : Frame [.gtc, .avp, .prt] s t) :
    t = { s with gtc := t.gtc, avp := t.avp, prt := t.prt } := by
  cases t
  exact (State.mk.injEq ..).mpr ⟨h.powered, h.img, h.map, h.ord, h.rsv, h.mea, h.cnd, rfl, rfl, h.pins, h.scp, h.signs,
    h.flc, rfl, h.cuts, h.pending⟩

/-! ### The confirmation test (R102) -/

theorem signConfirmed_val (s : State) (i : Fin 24) : s.signConfirmed i.val = s.signs[i].confirmed := by
  rw [signConfirmed, finOf_val]

theorem signConfirmed_iff {s : State} {j : Nat} :
    s.signConfirmed j = true ↔ ∃ i : Fin 24, i.val = j ∧ s.signs[i].confirmed = true := by
  refine ⟨fun h => ?_, fun ⟨i, hi, hc⟩ => by rw [← hi, signConfirmed_val, hc]⟩
  by_cases hj : j < 24
  · exact ⟨⟨j, hj⟩, rfl, (signConfirmed_val s ⟨j, hj⟩).symm.trans h⟩
  · rw [signConfirmed, finOf_above (Nat.le_of_not_lt hj)] at h
    cases h

theorem gateShut_val (s : State) (g : Fin 8) : s.gateShut g.val = decide ((s.gtc[g]).state = .closed) := by
  rw [gateShut, finOf_val]

theorem gateShut_iff {s : State} {g : Nat} : s.gateShut g = true ↔ ∃ i : Fin 8, i.val = g ∧ (s.gtc[i]).state = .closed := by
  refine ⟨fun h => ?_, fun ⟨i, hi, hc⟩ => by rw [← hi, gateShut_val, hc]; rfl⟩
  by_cases hg : g < 8
  · exact ⟨⟨g, hg⟩, rfl, of_decide_eq_true ((gateShut_val s ⟨g, hg⟩).symm.trans h)⟩
  · rw [gateShut, finOf_above (Nat.le_of_not_lt hg)] at h
    cases h

theorem aspectAt_congr {s u : State} (h : u.rsv = s.rsv) (seg : Nat) (d : Dir) : u.aspectAt seg d = s.aspectAt seg d := by
  unfold aspectAt
  rw [h]

/-- Two states in which the confirmation test finds the same items met. -/
structure TestedAlike (s u : State) : Prop where
  closedAt : u.closedAt = s.closedAt
  gateShut : u.gateShut = s.gateShut
  signConfirmed : u.signConfirmed = s.signConfirmed
  approachOf : u.approachOf = s.approachOf

namespace TestedAlike
variable {s u : State}

theorem unmetField (h : TestedAlike s u) (r : PathRec) : u.unmetField r = s.unmetField r := by
  simp only [State.unmetField, unmetGate, unmetSign, h.gateShut, h.signConfirmed, h.approachOf]

theorem unmetItem (h : TestedAlike s u) (r : PathRec) : u.unmetItem r = s.unmetItem r := by
  simp only [State.unmetItem, unmetSegment, h.closedAt, h.unmetField r]

/-- The test reads the map, the published table, which gates are CLOSED and which signs are closure-confirmed. -/
theorem of_parts (himg : u.img = s.img) (hrsv : u.rsv = s.rsv)
    (hgtc : ∀ g : Fin 8, u.gtc[g].state = .closed ↔ s.gtc[g].state = .closed)
    (hsigns : ∀ i : Fin 24, u.signs[i].confirmed = s.signs[i].confirmed) : TestedAlike s u where
  closedAt := by
    funext seg d
    simp only [State.closedAt, aspectAt_congr hrsv]
  gateShut := by
    funext g
    simp only [State.gateShut, hgtc]
  signConfirmed := by
    funext i
    simp only [State.signConfirmed, hsigns]
  approachOf := by
    funext g
    simp only [State.approachOf, gate?, himg]

theorem of_frame (h : Frame [.avp, .prt] s u) : TestedAlike s u :=
  of_parts h.img h.rsv (fun g => by rw [h.gtc]) (fun i => by rw [h.signs])

end TestedAlike

/-- Path `x` after its test, where `item` is the first unmet item and `field` the first unmet of the items (b) and (c)
(R103, R105). -/
def tested (item field : Option Unmet) (x : Path) : Path :=
  match x.state with
  | .holdPending =>
    match item with
    | none => { x with state := .hold, timer := none, unmet := none }
    | some _ => x
  | .hold =>
    match field with
    | none => x
    | some u => { x with state := .holdPending, timer := some 0, unmet := some u }
  | .quiet | .tripped | .latched => x

theorem testPath_avp (k : Fin 12) (r : PathRec) (s : State) :
    (s.testPath k r).avp = setAt s.avp k (tested (s.unmetItem r) (s.unmetField r) s.avp[k]) := by
  have hself : setAt s.avp k s.avp[k] = s.avp := setAt_self ..
  unfold testPath tested
  cases s.avp[k].state with
  | holdPending =>
    cases s.unmetItem r with
    | none => rfl
    | some u => exact hself.symm
  | hold =>
    cases s.unmetField r with
    | none => exact hself.symm
    | some u => rfl
  | quiet => exact hself.symm
  | tripped => exact hself.symm
  | latched => exact hself.symm

theorem testPath_same (k : Fin 12) (r : PathRec) (s : State) :
    (s.testPath k r).avp[k] = tested (s.unmetItem r) (s.unmetField r) s.avp[k] := by
  rw [testPath_avp, setAt_get_same]

theorem testPath_other {k j : Fin 12} (h : k ≠ j) (r : PathRec) (s : State) : (s.testPath k r).avp[j] = s.avp[j] := by
  rw [testPath_avp, setAt_get_other _ _ h]

/-- One path of `State.testPaths`. -/
def testStep (named : PathRec → Bool) (states : List PathState) (s : State) (k : Fin 12) : State :=
  match s.path? k.val with
  | some r => if named r && states.contains s.avp[k].state then s.testPath k r else s
  | none => s

section TestPaths
variable (named : PathRec → Bool) (states : List PathState)

theorem testPaths_eq (s : State) : s.testPaths named states = (List.finRange 12).foldl (testStep named states) s := rfl

theorem testStep_frame (s : State) (k : Fin 12) : Frame [.avp, .prt] s (testStep named states s k) := by
  unfold testStep
  split
  · split
    · exact testPath_frame s k _
    · exact Frame.refl _ s
  · exact Frame.refl _ s

theorem testStep_other (s : State) (k j : Fin 12) (h : k ≠ j) : (testStep named states s k).avp[j] = s.avp[j] := by
  unfold testStep
  split
  · split
    · exact testPath_other h _ s
    · rfl
  · rfl

/-- What the tests of all paths make of one path: they do not change each other's items. -/
theorem testPaths_path {s : State} {k : Fin 12} {r : PathRec} (hr : s.path? k.val = some r) :
    (s.testPaths named states).avp[k] = if named r && states.contains s.avp[k].state then
      tested (s.unmetItem r) (s.unmetField r) s.avp[k] else s.avp[k] := by
  obtain ⟨u, hu, hk, h⟩ := foldl_unit State.avp (testStep_frame named states) (testStep_other named states) s k
  have hru : u.path? k.val = some r := by rw [path?, hu.img]; exact hr
  have halike := TestedAlike.of_frame hu
  rw [testPaths_eq, h, testStep, hru]
  dsimp only
  rw [hk, ← halike.unmetItem, ← halike.unmetField]
  split
  · exact (testPath_same k r u).trans (by rw [hk])
  · exact hk

end TestPaths

end State

end Sys2Proof.Machine
end

section
/-! ## The timers of a gate (R116 to R121) -/

set_option Elab.async false

namespace Sys2Proof.Machine

namespace Gate

/-- Entering CLOSING keeps no prewarn item, so the states that follow do not depend on them (R112). -/
theorem closes_prewarn (r : GateRec) (x : Gate) (ph : Option PrewarnPhase) (k : Option CountKind) (n : Nat)
    (t : Option Nat) : ({ x with phase := ph, countKind := k, remaining := n, signTimer := t } : Gate).closes r =
      x.closes r := rfl

theorem closes_ne_nil (r : GateRec) (x : Gate) : x.closes r ≠ [] := by
  unfold closes
  split <;> exact List.cons_ne_nil _ _

/-- A countdown that is over waits for the obstruction or closes the gate (R117). -/
theorem countdownOver_eq (r : GateRec) (x : Gate) : x.countdownOver r =
    if x.obstruction then ({ x with phase := some .obstructed, countKind := none, remaining := 0 }, [])
    else (x, x.closes r) := by
  rw [countdownOver, enterClosing_eq]

section Timers
variable {r : GateRec} {x : Gate}

theorem countdownEnd_obstructed (hs : x.state = .prewarn) (hp : x.phase = some .countdown) (ho : x.obstruction = true) :
    x.countdownEnd r = ({ x with phase := some .obstructed, countKind := none, remaining := 0 }, []) := by
  rw [countdownEnd, if_pos ⟨hs, hp⟩, countdownOver_eq, if_pos ho]

theorem countdownEnd_closes (hs : x.state = .prewarn) (hp : x.phase = some .countdown) (ho : x.obstruction = false) :
    x.countdownEnd r = ({ x with remaining := 0 }, x.closes r) := by
  rw [countdownEnd, if_pos ⟨hs, hp⟩, countdownOver_eq, if_neg (by simp [ho])]
  exact congrArg _ (closes_prewarn r x _ _ _ _)

theorem countdownEnd_idle (h : x.state ≠ .prewarn ∨ x.phase ≠ some .countdown) : x.countdownEnd r = (x, []) :=
  if_neg (not_and_or.mpr h)

theorem travelEnd_fails (ht : x.travel.isSome = true)
    (hs : x.state = .closing ∨ x.state = .opening ∨ (x.state = .blocked ∧ x.retryTimer = none)) :
    x.travelEnd = (x, [x.halted .fault (some .travelTimeout)]) := by
  rw [travelEnd, if_pos, enterFault_eq]
  rcases hs with h | h | ⟨h, hr⟩
  · simp [travelling, ht, h]
  · simp [travelling, ht, h]
  · simp [travelling, ht, h, hr]

theorem travelEnd_idle (h : x.travel = none ∨
    (x.state ≠ .closing ∧ x.state ≠ .opening ∧ (x.state ≠ .blocked ∨ x.retryTimer.isSome = true))) :
    x.travelEnd = (x, []) := by
  rw [travelEnd, if_neg]
  rcases h with h | ⟨hc, ho, h | h⟩
  · simp [travelling, h]
  · simp [travelling, hc, ho, h]
  · obtain ⟨n, hn⟩ := Option.isSome_iff_exists.mp h
    simp [travelling, hc, ho, hn]

/-- The retry delay ends in a PREWARN whose countdown is over (R119). -/
theorem retryEnd_obstructed (hs : x.state = .blocked) (ht : x.retryTimer.isSome = true) (ho : x.obstruction = true) :
    x.retryEnd r = (x, [{ x.halted .prewarn none with phase := some .obstructed }]) := by
  have hob : ((x.halted .prewarn none).countdown .normal 0).obstruction = true := ho
  rw [retryEnd, if_pos ⟨hs, ht⟩, ← halted_none, countdownOver_eq, if_pos hob]
  rfl

theorem retryEnd_closes {z : Gate} (hs : x.state = .blocked) (ht : x.retryTimer.isSome = true)
    (ho : x.obstruction = false)
    (hz : z = { x.halted .prewarn none with phase := some .countdown, countKind := some .normal }) :
    x.retryEnd r = (x, z :: z.closes r) := by
  have hcount : (x.halted .prewarn none).countdown .normal 0 = z := by
    rw [hz]
    rfl
  have hob : z.obstruction = false := by
    rw [hz]
    exact ho
  rw [retryEnd, if_pos ⟨hs, ht⟩, ← halted_none, hcount, countdownOver_eq, if_neg (by simp [hob])]

theorem retryEnd_idle (h : x.state ≠ .blocked ∨ x.retryTimer = none) : x.retryEnd r = (x, []) := by
  rw [retryEnd, if_neg]
  rcases h with h | h <;> simp [h]

end Timers

end Gate

namespace State

section SignWait
variable {s : State} {g : Fin 8}

theorem signWaitExpiry_ends {r : GateRec} (hv : s.map.valid = true) (hr : s.gate? g.val = some r)
    (hp : s.gtc[g].phase = some .signWait) : s.signWaitExpiry g =
      (s.record (.gateSignsUnconfirmed g.val (s.unconfirmedSigns r))).setGate g (s.gtc[g].countdown .normal r.prewarn) := by
  simp only [signWaitExpiry, valid, hv, hr, hp, if_true]

theorem signWaitExpiry_idle (h : s.map.valid = false ∨ s.gate? g.val = none ∨ s.gtc[g].phase ≠ some .signWait) :
    s.signWaitExpiry g = s := by
  unfold signWaitExpiry
  split
  · next hv hr =>
    rcases h with h | h | h
    · exact absurd (hv.symm.trans h) (by decide)
    · rw [h] at hr
      cases hr
    · rw [if_neg h]
  · rfl

end SignWait

/-! ### A report of closure-confirmed (R116, R127, R144) -/

/-- Gate `x` once sign `i` has been reported. -/
def signReported (i : Fin 24) (r : GateRec) (ready : Bool) (x : Gate) : Gate :=
  if i.val ∈ r.approach ∧ x.phase = some .signWait ∧ ready = true then x.countdown .normal r.prewarn else x

theorem reportSignToGate_used {s : State} {g : Fin 8} {r : GateRec} (hv : s.map.valid = true)
    (hr : s.gate? g.val = some r) (i : Fin 24) :
    reportSignToGate i s g = s.setGate g (signReported i r (s.signsReady r) s.gtc[g]) := by
  rw [reportSignToGate, onGate_used hv hr, signReported]
  simp only [List.contains_iff_mem]
  split <;> rw [moveGate_stored]

theorem reportSignToGate_gtc_frame (i : Fin 24) (s : State) (g : Fin 8) : Frame [.gtc] s (reportSignToGate i s g) := by
  by_cases h : s.map.valid = false ∨ s.gate? g.val = none
  · rw [reportSignToGate, onGate_unused h]
    exact Frame.refl _ s
  · obtain ⟨hv, hr⟩ := not_or.mp h
    obtain ⟨r, hr⟩ := Option.ne_none_iff_exists'.mp hr
    rw [reportSignToGate_used (Bool.eq_true_of_not_eq_false hv) hr]
    exact setGate_frame s g _

theorem reportSignToGates_gtc_frame (i : Fin 24) (s : State) : Frame [.gtc] s (s.reportSignToGates i) :=
  Frame.foldl _ _ (reportSignToGate_gtc_frame i) s

/-- The step that a report makes at gate `g` decides its gate. -/
theorem reportSignToGates_unit (i : Fin 24) (s : State) (g : Fin 8) : ∃ u, Frame [.gtc] s u ∧ u.gtc[g] = s.gtc[g] ∧
    (s.reportSignToGates i).gtc[g] = (reportSignToGate i u g).gtc[g] :=
  foldl_unit State.gtc (reportSignToGate_gtc_frame i) (fun s _ _ h => onGate_other s h _) s g

theorem reportSignToGates_unused {s : State} {g : Fin 8} (h : s.map.valid = false ∨ s.gate? g.val = none) (i : Fin 24) :
    (s.reportSignToGates i).gtc[g] = s.gtc[g] := by
  obtain ⟨u, hu, hg, he⟩ := reportSignToGates_unit i s g
  have h' : u.map.valid = false ∨ u.gate? g.val = none := by rwa [hu.map, gate?, hu.img]
  rw [he, reportSignToGate, onGate_unused h', hg]

theorem signsReady_congr {s u : State} (h : u.signs = s.signs) (r : GateRec) : u.signsReady r = s.signsReady r := by
  have hc : u.signConfirmed = s.signConfirmed := by
    funext i
    simp only [signConfirmed, h]
  rw [signsReady, signsReady, hc]

theorem reportSignToGates_used {s : State} {g : Fin 8} {r : GateRec} (hv : s.map.valid = true)
    (hr : s.gate? g.val = some r) (i : Fin 24) :
    (s.reportSignToGates i).gtc[g] = signReported i r (s.signsReady r) s.gtc[g] := by
  obtain ⟨u, hu, hg, he⟩ := reportSignToGates_unit i s g
  have hv' : u.map.valid = true := by rw [hu.map, hv]
  have hr' : u.gate? g.val = some r := by rw [gate?, hu.img]; exact hr
  rw [he, reportSignToGate_used hv' hr', setGate_gtc, setAt_get_same, hg, signsReady_congr hu.signs]

/-- A report changes no gate's state (R116). -/
theorem reportSignToGates_state (s : State) (i : Fin 24) (g : Fin 8) :
    ((s.reportSignToGates i).gtc[g]).state = (s.gtc[g]).state := by
  by_cases h : s.map.valid = false ∨ s.gate? g.val = none
  · rw [reportSignToGates_unused h]
  · obtain ⟨hv, hr⟩ := not_or.mp h
    obtain ⟨r, hr⟩ := Option.ne_none_iff_exists'.mp hr
    rw [reportSignToGates_used (Bool.eq_true_of_not_eq_false hv) hr, signReported]
    split <;> rfl

/-! ### A matching CONFIRM with the closure mark (R140, R144, R151) -/

/-- Two states in which no sign differs in closure-confirmed, nor sign `i` in its DRAFT. -/
structure SameContent (i : Fin 24) (s u : State) : Prop where
  draft : (u.signs[i]).draft = (s.signs[i]).draft
  confirmed : ∀ j : Fin 24, u.signs[j].confirmed = s.signs[j].confirmed

namespace SameContent
variable {i : Fin 24} {s u v : State}

theorem of_signs (h : u.signs = s.signs) : SameContent i s u := ⟨by rw [h], fun j => by rw [h]⟩

theorem trans (h : SameContent i s u) (k : SameContent i u v) : SameContent i s v :=
  ⟨k.draft.trans h.draft, fun j => (k.confirmed j).trans (h.confirmed j)⟩

theorem setSign {x : Sign} (hd : x.draft = (s.signs[i]).draft) (hc : x.confirmed = s.signs[i].confirmed) :
    SameContent i s (s.setSign i x) where
  draft := by rw [setSign_signs, setAt_get_same, hd]
  confirmed j := by
    rw [setSign_signs, setAt_get]
    split
    · next h => rw [hc, h]
    · rfl

theorem record (h : SameContent i s u) (e : Event) : SameContent i s (u.record e) := h.trans (of_signs rfl)

theorem endTransaction (s : State) (l : Fin 2) (t : Trans) : SameContent t.sign s (s.endTransaction l t) := by
  have hline : SameContent t.sign s (s.setLine l (s.flc[l]).finished) := of_signs rfl
  unfold State.endTransaction
  exact hline.trans (setSign rfl rfl)

theorem takeReport (s : State) (l : Fin 2) (i : Fin 24) (q : SignReply) : SameContent i s (s.takeReport l i q) := by
  unfold State.takeReport
  extract_lets x opened limit y s1 s2
  have h1 : SameContent i s s1 := setSign rfl rfl
  have h2 : SameContent i s s2 := by
    unfold s2
    split
    · exact h1
    · exact h1.record _
  split
  · exact h2.record _
  · exact h2

end SameContent

theorem live_exchanged (x : Sign) (k : Link) : ({ x with link := k, liveIsA := !x.liveIsA } : Sign).live = x.draft := by
  unfold Sign.live Sign.draft
  cases x.liveIsA <;> rfl

theorem reviewConfirmed_confirms {s : State} {i : Fin 24} (hl : s.signs[i].link = .confirmed)
    (hm : (s.signs[i]).liveMark = true) (hc : s.signs[i].confirmed = false) : s.reviewConfirmed i =
      ((s.setSign i { s.signs[i] with confirmed := true }).reportSignToGates i).reportSignToPaths i := by
  unfold reviewConfirmed
  dsimp only
  rw [hl, hm, hc, if_neg (by decide)]
  rfl

/-- The exchange that brings a closure mark into LIVE makes the sign closure-confirmed, and reports it (R140, R144). -/
theorem exchangeRoles_confirms {s : State} {i : Fin 24} {c : Composed} (hd : (s.signs[i]).draft = some c)
    (hm : c.mark = true) (hc : s.signs[i].confirmed = false) : s.exchangeRoles i =
      ((s.setSign i { s.signs[i] with
        link := .confirmed, liveIsA := !s.signs[i].liveIsA, confirmed := true }).reportSignToGates i).reportSignToPaths i := by
  have hget : ∀ x : Sign, (s.setSign i x).signs[i] = x := fun x => setAt_get_same s.signs i x
  have hset : ∀ x y : Sign, (s.setSign i x).setSign i y = s.setSign i y := fun x y => by
    simp only [State.setSign, setAt_setAt]
  unfold exchangeRoles
  rw [reviewConfirmed_confirms, hget, hset]
  · rw [hget]
  · rw [hget, Sign.liveMark, live_exchanged, hd]
    exact hm
  · rw [hget]
    exact hc

end State

/-- A matching CONFIRM of a sign whose DRAFT has the closure mark: the sign is closure-confirmed, and that is reported to
the gates and then to the paths. -/
theorem execConfirm_confirms {s : State} {l : Fin 2} {q : SignReply} {t : Trans} {c : Composed} (hp : s.powered = true)
    (hw : s.flc[l].phase = .replyWait) (hb : s.flc[l].badReply = false) (ht : s.flc[l].trans = some t)
    (hbright : t.kind ≠ .bright) (hpoll : t.kind ≠ .poll) (hd : (s.signs[t.sign]).draft = some c)
    (hcheck : c.check = q.check) (hm : c.mark = true) (hc : s.signs[t.sign].confirmed = false) :
    ∃ w, exec (.confirm l q) s = .next ((w.reportSignToGates t.sign).reportSignToPaths t.sign) ∧
      Frame [.signs, .flc, .prt] s w ∧
      ∀ j : Fin 24, w.signs[j].confirmed = if t.sign = j then true else s.signs[j].confirmed := by
  have hexec : exec (.confirm l q) s = .next (s.takeConfirm l t q) := by
    have ha : (s.flc[l]).awaits = true := by
      rw [Line.awaits, hw, hb]
      rfl
    rw [exec_powered hp (i := .confirm l q) (f := State.confirm l q) rfl, State.confirm, ha, ht]
    dsimp only
    split
    · rfl
    · rfl
    · next h => exact absurd h hbright
    · next h => exact absurd h hpoll
  have hs1 := (State.SameContent.endTransaction s l t).trans (State.SameContent.takeReport _ l t.sign q)
  have hf1 : Frame [.signs, .flc, .prt] s ((s.endTransaction l t).takeReport l t.sign q) :=
    Frame.step (State.takeReport_frame _ _ _ _) ((State.endTransaction_frame s l t).mono)
  rw [hexec, State.takeConfirm]
  dsimp only
  generalize (s.endTransaction l t).takeReport l t.sign q = s1 at hs1 hf1 ⊢
  have hs2 := hs1.trans (State.SameContent.setSign (x := { s1.signs[t.sign] with mismatch := 0 }) rfl rfl)
  have hf2 := Frame.step (State.setSign_frame s1 t.sign { s1.signs[t.sign] with mismatch := 0 }) hf1
  rw [if_pos (by rw [hs1.draft, hd, Option.map_some, hcheck])]
  generalize s1.setSign t.sign { s1.signs[t.sign] with mismatch := 0 } = s2 at hs2 hf2 ⊢
  rw [State.exchangeRoles_confirms (hs2.draft.trans hd) hm ((hs2.confirmed _).trans hc)]
  refine ⟨_, rfl, Frame.step (State.setSign_frame s2 t.sign _) hf2, fun j => ?_⟩
  rw [State.setSign_signs, setAt_get]
  split
  · rfl
  · exact hs2.confirmed j

end Sys2Proof.Machine
end

section
/-! ## Expiries and reports move the gate (R116 to R121, R127, R144) -/

set_option Elab.async false

namespace Sys2Proof.Machine

section Commands
variable {s : State} {g : Fin 8} {r : GateRec} (hp : s.powered = true) (hv : s.map.valid = true)
  (hr : s.gate? g.val = some r)
include hp hv hr

theorem execCountdownEnd_used : exec (.countdownEnd g) s = .next (s.moveGate g ((s.gtc[g]).countdownEnd r)) := by
  rw [exec_powered hp (i := .countdownEnd g) rfl, State.countdownExpiry, State.onGate_used hv hr]

theorem execTravelTimerExpiry_used : exec (.travelTimerExpiry g) s = .next (s.moveGate g (s.gtc[g]).travelEnd) := by
  rw [exec_powered hp (i := .travelTimerExpiry g) rfl, State.travelExpiry, State.onGate_used hv hr]

theorem execRetryDelayExpiry_used : exec (.retryDelayExpiry g) s = .next (s.moveGate g ((s.gtc[g]).retryEnd r)) := by
  rw [exec_powered hp (i := .retryDelayExpiry g) rfl, State.retryExpiry, State.onGate_used hv hr]

end Commands

/-- The three expiries of a gate as transitions of it. -/
theorem execExpiry_onGate {s : State} (hp : s.powered = true) {g : Fin 8} {i : Instr}
    (hi : i = .countdownEnd g ∨ i = .travelTimerExpiry g ∨ i = .retryDelayExpiry g) :
    ∃ f, exec i s = .next (s.onGate g f) := by
  rcases hi with rfl | rfl | rfl
  · exact ⟨_, exec_powered hp rfl⟩
  · exact ⟨_, exec_powered hp rfl⟩
  · exact ⟨_, exec_powered hp rfl⟩

/-- Settles O50: each expiry is one transition of the gate machine, a report of closure-confirmed one step at each gate. -/
theorem gateTimersMoveTheGate : Obligations.GateTimersMoveTheGate := by
  refine ⟨fun g r s x hp hv hr hx => ?_, fun g s i hp h hi => ?_, fun i s => ?_, ?_⟩
  · have hidle : s.moveGate g (x, []) = s := by rw [hx, State.moveGate_idle]
    have hwait : exec (.signWaitExpiry g) s = .next (s.signWaitExpiry g) := exec_powered hp rfl
    refine ⟨fun h => ?_, fun h => ?_, fun hs hph => ⟨fun ho => ?_, fun ho => ?_⟩, fun h => ?_, fun ht hs => ?_, fun h => ?_,
      fun hs ht => ⟨fun ho => ?_, fun ho z hz => ?_⟩, fun h => ?_, fun i hi => ?_⟩
    · rw [hwait, State.signWaitExpiry_ends hv hr (hx ▸ h), hx]
      rfl
    · rw [hwait, State.signWaitExpiry_idle (.inr (.inr (hx ▸ h)))]
    · rw [execCountdownEnd_used hp hv hr, ← hx, Gate.countdownEnd_obstructed hs hph ho, State.moveGate_stored]
    · rw [execCountdownEnd_used hp hv hr, ← hx, Gate.countdownEnd_closes hs hph ho,
        State.moveGate_nonempty s g (x.closes_ne_nil r) (by rw [hx])]
    · rw [execCountdownEnd_used hp hv hr, ← hx, Gate.countdownEnd_idle h, hidle]
    · rw [execTravelTimerExpiry_used hp hv hr, ← hx, Gate.travelEnd_fails ht hs, State.moveGate_entry _ _ _ _ (by rw [hx])]
    · rw [execTravelTimerExpiry_used hp hv hr, ← hx, Gate.travelEnd_idle h, hidle]
    · rw [execRetryDelayExpiry_used hp hv hr, ← hx, Gate.retryEnd_obstructed hs ht ho,
        State.moveGate_entry _ _ _ _ (by rw [hx])]
    · rw [execRetryDelayExpiry_used hp hv hr, ← hx, Gate.retryEnd_closes hs ht ho hz,
        State.moveGate_entries _ _ _ _ _ (by rw [hx])]
    · rw [execRetryDelayExpiry_used hp hv hr, ← hx, Gate.retryEnd_idle h, hidle]
    · obtain ⟨f, hf⟩ := execExpiry_onGate hp hi
      exact ⟨_, hf, State.eq_of_gate_frame (State.onGate_frame s g f), fun h hn => State.onGate_other s (Ne.symm hn) f⟩
  · rcases hi with rfl | hi
    · have hi : s.map.valid = false ∨ s.gate? g.val = none ∨ s.gtc[g].phase ≠ some .signWait := h.imp_right .inl
      rw [exec_powered hp (i := .signWaitExpiry g) rfl, State.signWaitExpiry_idle hi]
    · obtain ⟨f, hf⟩ := execExpiry_onGate hp hi
      rw [hf, State.onGate_unused h]
  · have hf := State.reportSignToGates_gtc_frame i s
    refine ⟨?_, fun g h => State.reportSignToGates_unused h i, fun g r hv hr => ?_⟩
    · have h := State.eq_of_gate_frame hf.mono
      rwa [hf.avp, hf.prt] at h
    · have hready : s.signsReady r = true ↔ ∀ j ∈ r.approach, s.signConfirmed j = true := List.all_eq_true
      rw [State.reportSignToGates_used hv hr, State.signReported]
      simp only [hready]
      rfl
  · intro g r l q t c s hp hv hr hph hw hb ht hbright hpoll hd hcheck hm hc hi hall
    obtain ⟨w, hexec, hf, hconf⟩ := execConfirm_confirms hp hw hb ht hbright hpoll hd hcheck hm hc
    refine ⟨_, hexec, ?_⟩
    have hv' : w.map.valid = true := by rw [hf.map, hv]
    have hr' : w.gate? g.val = some r := by rw [State.gate?, hf.img]; exact hr
    have hready : w.signsReady r = true := by
      refine List.all_eq_true.mpr fun j hj => ?_
      by_cases h : j = t.sign.val
      · rw [h, State.signConfirmed_val, hconf, if_pos rfl]
      · obtain ⟨k, rfl, hk⟩ := State.signConfirmed_iff.mp (hall j hj h)
        rw [State.signConfirmed_val, hconf, hk, ite_self]
    rw [(State.reportSignToPaths_frame _ _).gtc, State.reportSignToGates_used hv' hr', hf.gtc, State.signReported,
      if_pos ⟨hi, hph, hready⟩]
    rfl

end Sys2Proof.Machine
end

section
/-! ## The confirmation test, and when it is made (R102, R103, R105) -/

set_option Elab.async false

namespace Sys2Proof.Machine

namespace State
variable {s : State} {r : PathRec}

theorem closedAt_iff {seg : Nat} {d : Dir} : s.closedAt seg d = true ↔
    (s.aspectAt seg d).resolved = true ∧ (s.aspectAt seg d).closed ≠ .no := by
  rw [closedAt, Bool.and_eq_true, decide_eq_true_iff]

/-- The records of the range of a path, S before N. -/
def rangeItems (r : PathRec) : List Unmet :=
  (List.range (r.last + 1 - r.first)).flatMap (fun j => [.segment (r.first + j) .S, .segment (r.first + j) .N])

/-- The barrier gates of a path and then their approach signs. -/
def fieldItems (s : State) (r : PathRec) : List Unmet := r.barriers.map .gate ++ (r.barriers.flatMap s.approachOf).map .sign

/-- An item is not met (R102). -/
def isUnmet (s : State) : Unmet → Bool
  | .segment seg d => !s.closedAt seg d
  | .gate g => !s.gateShut g
  | .sign i => !s.signConfirmed i
  | .tripped => false

/-- The test of an item is settled by its three forms. -/
theorem isUnmet_unique {unmet : Unmet → Bool}
    (hseg : ∀ seg d, unmet (.segment seg d) =
      !((s.aspectAt seg d).resolved && decide ((s.aspectAt seg d).closed ≠ .no)))
    (hgate : ∀ g, unmet (.gate g) = !decide (∃ i : Fin 8, i.val = g ∧ (s.gtc[i]).state = .closed))
    (hsign : ∀ i, unmet (.sign i) = !s.signConfirmed i) : ∀ u ∈ rangeItems r ++ s.fieldItems r, unmet u = s.isUnmet u := by
  intro u hu
  cases u with
  | segment seg d => exact hseg seg d
  | gate g =>
    rw [hgate, isUnmet]
    exact congrArg not (Bool.eq_iff_iff.mpr (decide_eq_true_iff.trans gateShut_iff.symm))
  | sign i => exact hsign i
  | tripped => simp [rangeItems, fieldItems] at hu

theorem unmetField_eq (s : State) (r : PathRec) : s.unmetField r = (s.fieldItems r).find? s.isUnmet := by
  rw [unmetField, unmetGate, unmetSign, fieldItems, List.find?_append, List.find?_map, List.find?_map]
  rfl

theorem unmetItem_eq (s : State) (r : PathRec) : s.unmetItem r = (rangeItems r ++ s.fieldItems r).find? s.isUnmet := by
  rw [unmetItem, unmetField_eq, List.find?_append, unmetSegment]
  have hrange : rangeItems r = ((List.range (r.last + 1 - r.first)).flatMap
      (fun j => [(r.first + j, Dir.S), (r.first + j, Dir.N)])).map (fun x => .segment x.1 x.2) := by
    rw [List.map_flatMap]
    rfl
  rw [hrange, List.find?_map]
  rfl

theorem unmetField_none : s.unmetField r = none ↔
    (∀ g ∈ r.barriers, ∃ i : Fin 8, i.val = g ∧ (s.gtc[i]).state = .closed) ∧
    (∀ g ∈ r.barriers, ∀ i ∈ s.approachOf g, s.signConfirmed i = true) := by
  rw [unmetField_eq, fieldItems, List.find?_append, Option.or_eq_none_iff, List.find?_eq_none, List.find?_eq_none,
    List.forall_mem_map, List.forall_mem_map]
  simp only [isUnmet, Bool.not_eq_true, Bool.not_eq_false', gateShut_iff, List.mem_flatMap, forall_exists_index, and_imp]
  exact and_congr_right fun _ => ⟨fun h g hg i hi => h i g hg hi, fun h i g hg hi => h g hg i hi⟩

theorem unmetItem_none : s.unmetItem r = none ↔
    (∀ seg d, r.first ≤ seg → seg ≤ r.last → (s.aspectAt seg d).resolved = true ∧ (s.aspectAt seg d).closed ≠ .no) ∧
    (∀ g ∈ r.barriers, ∃ i : Fin 8, i.val = g ∧ (s.gtc[i]).state = .closed) ∧
    (∀ g ∈ r.barriers, ∀ i ∈ s.approachOf g, s.signConfirmed i = true) := by
  rw [unmetItem_eq, List.find?_append, Option.or_eq_none_iff, ← unmetField_eq, unmetField_none]
  refine and_congr_left fun _ => ?_
  rw [List.find?_eq_none]
  have hmet : ∀ seg d, ¬s.isUnmet (.segment seg d) = true ↔
      (s.aspectAt seg d).resolved = true ∧ (s.aspectAt seg d).closed ≠ .no := fun seg d => by
    rw [isUnmet, Bool.not_eq_true, Bool.not_eq_false', closedAt_iff]
  refine ⟨fun h seg d hf hl => (hmet seg d).mp (h _ ?_), fun h u hu => ?_⟩
  · refine List.mem_flatMap.mpr ⟨seg - r.first, List.mem_range.mpr (by omega), ?_⟩
    rw [Nat.add_sub_cancel' hf]
    cases d with
    | S => exact List.mem_cons_self
    | N => exact List.mem_cons_of_mem _ List.mem_cons_self
  · obtain ⟨j, hj, hu⟩ := List.mem_flatMap.mp hu
    have hj := List.mem_range.mp hj
    rcases List.mem_pair.mp hu with rfl | rfl
    · exact (hmet _ _).mpr (h _ _ (by omega) (by omega))
    · exact (hmet _ _).mpr (h _ _ (by omega) (by omega))

/-! ### When the test is made -/

section Path
variable {k : Fin 12}

theorem testPath_confirms (hs : s.avp[k].state = .holdPending) (hu : s.unmetItem r = none) :
    s.testPath k r = s.confirmHold k := by
  simp only [testPath, hs, hu]

theorem testPath_waits (hs : s.avp[k].state = .holdPending) (hu : s.unmetItem r ≠ none) : s.testPath k r = s := by
  obtain ⟨u, hu⟩ := Option.ne_none_iff_exists'.mp hu
  simp only [testPath, hs, hu]

theorem testPath_breaks {u : Unmet} (hs : s.avp[k].state = .hold) (hu : s.unmetField r = some u) :
    s.testPath k r = s.breakHold k u := by
  simp only [testPath, hs, hu]

theorem testPath_holds (hs : s.avp[k].state = .hold) (hu : s.unmetField r = none) : s.testPath k r = s := by
  simp only [testPath, hs, hu]

theorem confirmExpiry_idle (h : s.avp[k].state ≠ .holdPending ∨ s.avp[k].timer = none) : s.confirmExpiry k = s := by
  unfold confirmExpiry
  split
  · rfl
  · rw [if_neg]
    rintro ⟨hs, ht⟩
    rcases h with h | h
    · exact h hs
    · rw [h] at ht
      cases ht

theorem confirmExpiry_confirms (hr : s.path? k.val = some r) (hs : s.avp[k].state = .holdPending)
    (ht : s.avp[k].timer.isSome = true) (hu : s.unmetItem r = none) : s.confirmExpiry k = s.confirmHold k := by
  simp only [confirmExpiry, hr, if_pos (And.intro hs ht), hu]

theorem confirmExpiry_fails {u : Unmet} (hr : s.path? k.val = some r) (hs : s.avp[k].state = .holdPending)
    (ht : s.avp[k].timer.isSome = true) (hu : s.unmetItem r = some u) : s.confirmExpiry k =
      (s.setPath k { s.avp[k] with state := .quiet, holdOrder := none, timer := none, released := false
                                   unmet := some u }).record (.holdFailed k.val s.avp[k].holdOrder (some u)) := by
  simp only [confirmExpiry, hr, if_pos (And.intro hs ht), hu]

theorem tested_confirms {x : Path} {field : Option Unmet} (hs : x.state = .holdPending) :
    tested none field x = { x with state := .hold, timer := none, unmet := none } := by
  unfold tested
  rw [hs]

/-- Tests that name a path in HOLD_PENDING bring it into HOLD when no item is unmet. -/
theorem testPaths_confirms {named : PathRec → Bool} {states : List PathState} (hr : s.path? k.val = some r)
    (hn : named r = true) (hm : .holdPending ∈ states) (hs : s.avp[k].state = .holdPending) (hu : s.unmetItem r = none) :
    (s.testPaths named states).avp[k] = { s.avp[k] with state := .hold, timer := none, unmet := none } := by
  rw [testPaths_path named states hr, hn, hs, hu, Bool.true_and, if_pos (List.contains_iff_mem.mpr hm), tested_confirms hs]

end Path

/-- A gate of the barrier of a path in HOLD_PENDING that enters a state brings it into HOLD when no item is then unmet. -/
theorem enterGate_confirms {k : Fin 12} {g : Fin 8} {z : Gate} (hv : s.map.valid = true) (hr : s.path? k.val = some r)
    (hg : g.val ∈ r.barriers) (hs : s.avp[k].state = .holdPending) (hu : (s.setGate g z).unmetItem r = none) :
    (enterGate g s z).avp[k] = { s.avp[k] with state := .hold, timer := none, unmet := none } := by
  have hrec := recordGate_frame (s.setGate g z) g z (decide (s.gtc[g].state ≠ .fault))
  unfold enterGate
  generalize (s.setGate g z).recordGate g z (decide (s.gtc[g].state ≠ .fault)) = u at hrec ⊢
  have havp : u.avp = s.avp := hrec.avp
  have hvu : u.valid = true := by
    rw [valid, hrec.map]
    exact hv
  have hru : u.path? k.val = some r := by
    rw [path?, hrec.img]
    exact hr
  have halike : TestedAlike (s.setGate g z) u := .of_frame hrec.mono
  rw [reportGate, if_pos hvu, testPaths_confirms (named := fun r => r.barriers.contains g.val) hru
    (List.contains_iff_mem.mpr hg) List.mem_cons_self (by rw [havp]; exact hs) (by rw [halike.unmetItem]; exact hu), havp]

/-- A fold whose steps test one path each, as `State.testPaths` does. -/
theorem testPaths_of_steps {named : PathRec → Bool} {states : List PathState} {f : State → Fin 12 → State}
    (hsome : ∀ (v : State) (k : Fin 12) (r : PathRec), v.path? k.val = some r →
      f v k = if named r = true ∧ v.avp[k].state ∈ states then v.testPath k r else v)
    (hnone : ∀ (v : State) (k : Fin 12), v.path? k.val = none → f v k = v) :
    s.testPaths named states = (List.finRange 12).foldl f s := by
  have hf : f = testStep named states := by
    funext v k
    unfold testStep
    cases hr : v.path? k.val with
    | none => exact hnone v k hr
    | some r => simp only [hsome v k r hr, Bool.and_eq_true, List.contains_iff_mem]
  rw [testPaths_eq, hf]

end State

/-! ### The last item met (R103, R127, R144) -/

section LastItem
variable {s : State} {k : Fin 12} {r : PathRec} (hp : s.powered = true) (hr : s.path? k.val = some r)
  (hs : s.avp[k].state = .holdPending)
include hp hr hs

/-- The closed limit of a closing barrier gate as the last item. -/
theorem execClosedLimit_holds {g : Fin 8} {q : GateRec} (hv : s.map.valid = true) (hg : s.gate? g.val = some q)
    (hgb : g.val ∈ r.barriers) (hcl : s.gtc[g].state = .closing) (hc : s.gtc[g].closedLimit = false)
    (ho : s.gtc[g].openLimit = false) (hd : s.gtc[g].demand ≠ some .opened)
    (hu : (s.setGate g { s.gtc[g] with state := .closed }).unmetItem r = none) :
    ∃ t, exec (.closedLimitAccepted g true) s = .next t ∧
      t.avp[k] = { s.avp[k] with state := .hold, timer := none, unmet := none } := by
  have hexec : ∃ (u : State) (z : Gate), exec (.closedLimitAccepted g true) s = .next (State.enterGate g u z) ∧
      Frame [.pins] s u ∧ z.state = .closed := by
    rw [execClosedLimit_new (v := true) hp hv hg hc, Gate.closedLimitTo_closing rfl ho hcl]
    exact ⟨_, _, congrArg _ (State.enterClosed_rests rfl rfl (.inl hd)), Frame.with_pins (Frame.refl _ s), rfl⟩
  obtain ⟨u, z, hexec, hf, hz⟩ := hexec
  have halike : State.TestedAlike (s.setGate g { s.gtc[g] with state := .closed }) (u.setGate g z) := by
    refine .of_parts hf.img hf.rsv (fun h => ?_) fun i => by rw [State.setGate_signs, hf.signs, State.setGate_signs]
    rw [State.setGate_gtc, State.setGate_gtc, setAt_get, setAt_get, hf.gtc]
    split
    · exact iff_of_true hz rfl
    · rfl
  have hru : u.path? k.val = some r := by
    rw [State.path?, hf.img]
    exact hr
  refine ⟨_, hexec, ?_⟩
  rw [State.enterGate_confirms (by rw [hf.map, hv]) hru hgb (by rw [hf.avp]; exact hs)
    (by rw [halike.unmetItem]; exact hu), hf.avp]

/-- The CONFIRM of an approach sign of a barrier gate as the last item. -/
theorem execConfirm_holds {g : Nat} {l : Fin 2} {q : SignReply} {t : Trans} {c : Composed} (hgb : g ∈ r.barriers)
    (hi : t.sign.val ∈ s.approachOf g) (hw : s.flc[l].phase = .replyWait) (hb : s.flc[l].badReply = false)
    (ht : s.flc[l].trans = some t) (hbright : t.kind ≠ .bright) (hpoll : t.kind ≠ .poll)
    (hd : (s.signs[t.sign]).draft = some c) (hcheck : c.check = q.check) (hm : c.mark = true)
    (hc : s.signs[t.sign].confirmed = false)
    (hu : (s.setSign t.sign { s.signs[t.sign] with confirmed := true }).unmetItem r = none) :
    ∃ u, exec (.confirm l q) s = .next u ∧
      u.avp[k] = { s.avp[k] with state := .hold, timer := none, unmet := none } := by
  obtain ⟨w, hexec, hf, hconf⟩ := execConfirm_confirms hp hw hb ht hbright hpoll hd hcheck hm hc
  have hr' : (w.reportSignToGates t.sign).path? k.val = some r := by
    rw [State.path?, (State.reportSignToGates_frame w _).img, hf.img]
    exact hr
  have havp : (w.reportSignToGates t.sign).avp = s.avp := by
    rw [(State.reportSignToGates_gtc_frame _ w).avp, hf.avp]
  have halike : State.TestedAlike (s.setSign t.sign { s.signs[t.sign] with confirmed := true })
      (w.reportSignToGates t.sign) := by
    have hg := State.reportSignToGates_gtc_frame t.sign w
    refine .of_parts (hg.img.trans hf.img) (hg.rsv.trans hf.rsv) (fun g => ?_) fun i => ?_
    · rw [State.reportSignToGates_state, hf.gtc, State.setSign_gtc]
    · rw [hg.signs, hconf, State.setSign_signs, setAt_get]
      split <;> rfl
  have hnamed : (r.barriers.any fun g => ((w.reportSignToGates t.sign).approachOf g).contains t.sign.val) = true :=
    List.any_eq_true.mpr ⟨g, hgb, List.contains_iff_mem.mpr (by rw [halike.approachOf]; exact hi)⟩
  have hpath := State.testPaths_confirms (s := w.reportSignToGates t.sign) (k := k) (named := fun r =>
    r.barriers.any fun g => ((w.reportSignToGates t.sign).approachOf g).contains t.sign.val)
    (states := [.holdPending, .hold]) hr' hnamed List.mem_cons_self (by rw [havp]; exact hs)
    (by rw [halike.unmetItem]; exact hu)
  exact ⟨_, hexec, hpath.trans (by rw [havp])⟩

end LastItem

/-- Settles O46: the test is one search through the items in their order, and each report or publication tests the paths
that it names one by one. -/
theorem holdIsConfirmedOrFails : Obligations.HoldIsConfirmedOrFails := by
  refine ⟨fun s r => State.unmetItem_none, fun s r unmet segments field hseg hgate hsign hs hf => ?_,
    fun k r s hp hr => ⟨fun h => ?_, fun hs ht => ⟨fun hu => ?_, fun u hu => ?_⟩⟩,
    fun k r s u hs hu => State.testPath_breaks hs hu, fun k r s =>
    ⟨State.testPath_confirms, State.testPath_waits, State.testPath_holds⟩,
    fun s tested ht => ⟨?_, fun g => ?_, fun i => ?_⟩,
    fun k r g q s hp hv hr hg hgb hs hcl hc ho hd hu => execClosedLimit_holds hp hr hs hv hg hgb hcl hc ho hd hu,
    fun k r g l q t c s hp hr hgb hi hs hw hb ht hbright hpoll hd hcheck hm hc hu =>
      execConfirm_holds hp hr hs hgb hi hw hb ht hbright hpoll hd hcheck hm hc hu⟩
  · have hsame : ∀ u ∈ segments ++ field, unmet u = s.isUnmet u := by
      rw [hs, hf]
      exact State.isUnmet_unique hseg hgate hsign
    have hfield : ∀ u ∈ field, unmet u = s.isUnmet u := fun u hu => hsame u (List.mem_append_right _ hu)
    rw [State.unmetItem_eq, State.unmetField_eq, List.find?_congr hsame, List.find?_congr hfield, hs, hf]
    exact ⟨rfl, rfl⟩
  · rw [exec_powered hp (i := .confirmTimerExpiry k) rfl, State.confirmExpiry_idle h]
  · rw [exec_powered hp (i := .confirmTimerExpiry k) rfl, State.confirmExpiry_confirms hr hs ht hu, State.confirmHold]
  · rw [exec_powered hp (i := .confirmTimerExpiry k) rfl, State.confirmExpiry_fails hr hs ht hu]
  · rw [ht]
    exact State.testPaths_of_steps (fun v k r h => by simp only [h]) (fun v k h => by simp only [h])
  · rw [State.reportGate]
    split
    · rw [ht]
      exact State.testPaths_of_steps (fun v k r h => by simp only [h, List.contains_iff_mem, decide_eq_true_eq])
        (fun v k h => by simp only [h])
    · rfl
  · rw [ht]
    exact State.testPaths_of_steps
      (fun v k r h => by simp only [h, List.any_eq_true, List.contains_iff_mem, decide_eq_true_eq])
      (fun v k h => by simp only [h])

end Sys2Proof.Machine
end

section
/-! ## A new demand for a gate (R113, R115, R117 to R120) -/

set_option Elab.async false

namespace Sys2Proof.Machine

namespace Gate

/-- What a publication gave the gate: demand, emergency flag and generation (R113). -/
def told (x : Gate) : Option Demand × Bool × Option Nat := (x.demand, x.emergency, x.demandGen)

/-! ### No entry changes what the gate was told -/

theorem prewarned_told (r : GateRec) (signs : Bool) (x : Gate) : (x.prewarned r signs).told = x.told := by
  unfold prewarned
  split
  · split <;> rfl
  · split <;> rfl

theorem opens_told {r : GateRec} {x z : Gate} (h : z ∈ x.opens r) : z.told = x.told := by
  unfold opens at h
  split at h
  · rcases List.mem_pair.mp h with rfl | rfl <;> rfl
  · rw [List.mem_singleton.mp h]
    rfl

theorem closes_told {r : GateRec} {x z : Gate} (h : z ∈ x.closes r) : z.told = x.told := by
  unfold closes at h
  split at h
  · rcases List.mem_cons.mp h with rfl | h
    · rfl
    rcases List.mem_cons.mp h with rfl | h
    · rfl
    split at h
    · exact (opens_told h).trans rfl
    · cases h
  · rw [List.mem_singleton.mp h]
    rfl

theorem enterPrewarn_told {r : GateRec} {signs : Bool} {x z : Gate} (h : z ∈ x.enterPrewarn r signs) :
    z.told = x.told := by
  rw [enterPrewarn_eq r signs x _ rfl] at h
  split at h
  · rcases List.mem_cons.mp h with rfl | h
    · exact prewarned_told r signs x
    · exact (closes_told h).trans (prewarned_told r signs x)
  · rw [List.mem_singleton.mp h, prewarned_told]

theorem enterOpen_told {r : GateRec} {signs : Bool} {x z : Gate} (h : z ∈ x.enterOpen r signs) : z.told = x.told := by
  rw [enterOpen_eq rfl] at h
  rcases List.mem_cons.mp h with rfl | h
  · rfl
  · split at h
    · exact (enterPrewarn_told h).trans rfl
    · cases h

/-- A transition of gate `x` that keeps its state and what it was told until it enters a state, and in every state that it
enters what it was told. -/
structure Obeys (x : Gate) (m : Gate × List Gate) : Prop where
  state : m.1.state = x.state
  stored : m.1.told = x.told
  entered : ∀ z ∈ m.2, z.told = x.told

namespace Obeys
variable {r : GateRec} {signs : Bool} {x : Gate}

theorem idle : Obeys x (x, []) := ⟨rfl, rfl, fun _ h => (List.not_mem_nil h).elim⟩

theorem entries {l : List Gate} (h : ∀ z ∈ l, z.told = x.told) : Obeys x (x, l) := ⟨rfl, rfl, h⟩

theorem opening : Obeys x (x, x.enterOpening r) := entries fun _ h => opens_told (enterOpening_eq r x ▸ h)

theorem demandOpen : Obeys x (x.demandOpen r signs) := by
  unfold Gate.demandOpen
  split
  · split
    · exact entries fun _ => enterOpen_told
    · exact opening
  · exact opening
  · split
    · exact entries fun _ => enterOpen_told
    · exact opening
  · split
    · exact idle
    · exact opening
  all_goals exact idle

theorem demandClosed : Obeys x (x.demandClosed r signs) := by
  unfold Gate.demandClosed
  split
  · split
    · exact idle
    · exact entries fun _ => enterPrewarn_told
  · exact entries fun _ => enterPrewarn_told
  all_goals exact idle

theorem countdownOver : Obeys x (x.countdownOver r) := by
  rw [countdownOver_eq]
  split
  · exact ⟨rfl, rfl, fun _ h => (List.not_mem_nil h).elim⟩
  · exact entries fun _ => closes_told

theorem countdown {k : CountKind} {n : Nat} {m : Gate × List Gate} (h : Obeys (x.countdown k n) m) : Obeys x m :=
  ⟨h.state, h.stored, h.entered⟩

theorem upgrade : Obeys x (x.upgrade r) := by
  unfold Gate.upgrade
  split
  · dsimp only
    split
    · exact countdownOver.countdown
    · exact idle.countdown
  · dsimp only
    split
    · exact countdownOver.countdown
    · exact idle.countdown
  · exact idle

end Obeys

/-! ### What a publication makes of a gate -/

section Publish
variable {r : GateRec} {signs e : Bool} {gen : Nat} {d : Demand} {x y : Gate}
  (hy : y = { x with demand := some d, emergency := e, demandGen := some gen })
include hy

theorem publish_obeys : Obeys y (x.publish r signs d e gen) := by
  subst hy
  unfold publish
  dsimp only
  split
  · cases d with
    | opened => exact Obeys.demandOpen
    | closed => exact Obeys.demandClosed
  · split
    · exact Obeys.upgrade
    · exact Obeys.idle

theorem publish_same (hd : x.demand = some d) (h : e = false ∨ x.emergency = true ∨ x.state ≠ .prewarn) :
    x.publish r signs d e gen = (y, []) := by
  subst hy
  unfold publish
  rw [if_neg (not_not_intro hd), if_neg]
  rintro ⟨he, hx, hs⟩
  rcases h with h | h | h
  · exact Bool.false_ne_true (h.symm.trans he)
  · rw [h] at hx
    cases hx
  · exact h hs

theorem publish_upgrades (hd : x.demand = some d) (he : e = true) (hx : x.emergency = false) (hs : x.state = .prewarn) :
    x.publish r signs d e gen = y.upgrade r := by
  subst hy
  unfold publish
  rw [if_neg (not_not_intro hd), if_pos ⟨he, by rw [hx]; rfl, hs⟩]

theorem publish_opened (hd : x.demand ≠ some d) (h : d = .opened) : x.publish r signs d e gen = y.demandOpen r signs := by
  subst hy h
  unfold publish
  rw [if_pos hd]

theorem publish_closed (hd : x.demand ≠ some d) (h : d = .closed) :
    x.publish r signs d e gen = y.demandClosed r signs := by
  subst hy h
  unfold publish
  rw [if_pos hd]

end Publish

section Upgrade
variable {r : GateRec} {x : Gate}

/-- The upgrade to the emergency countdown of `n` seconds (R117). -/
theorem upgrade_counts {n : Nat} (h : (x.phase = some .signWait ∧ n = min r.prewarn r.emergency) ∨
    (x.phase = some .countdown ∧ x.countKind = some .normal ∧ n = min x.remaining r.emergency)) :
    x.upgrade r = if n = 0 then (x.countdown .emergency n).countdownOver r else (x.countdown .emergency n, []) := by
  unfold upgrade
  rcases h with ⟨hp, rfl⟩ | ⟨hp, hk, rfl⟩
  · rw [hp]
    rfl
  · rw [hp, hk]
    rfl

theorem upgrade_idle (hw : x.phase ≠ some .signWait) (h : x.phase ≠ some .countdown ∨ x.countKind ≠ some .normal) :
    x.upgrade r = (x, []) := by
  unfold upgrade
  split
  · next hp => exact absurd hp hw
  · next hp hk =>
    rcases h with h | h
    · exact absurd hp h
    · exact absurd hk h
  · rfl

end Upgrade

section Demand
variable {r : GateRec} {signs : Bool} {y : Gate}

theorem demandClosed_prewarns (h : (y.state = .opened ∧ y.inhibit = false) ∨ y.state = .opening) :
    y.demandClosed r signs = (y, y.enterPrewarn r signs) := by
  unfold demandClosed
  rcases h with ⟨hs, hi⟩ | hs
  · rw [hs, hi]
    rfl
  · rw [hs]

theorem demandClosed_idle (h : (y.state = .opened ∧ y.inhibit = true) ∨ (y.state ≠ .opened ∧ y.state ≠ .opening)) :
    y.demandClosed r signs = (y, []) := by
  unfold demandClosed
  rcases h with ⟨hs, hi⟩ | ⟨h1, h2⟩
  · rw [hs, hi]
    rfl
  · split
    · next hs => exact absurd hs h1
    · next hs => exact absurd hs h2
    all_goals rfl

theorem demandOpen_rests (h : (y.state = .prewarn ∧ y.openLimit = true) ∨ (y.state = .blocked ∧ y.retryTimer.isSome = true)) :
    y.demandOpen r signs = (y, y.enterOpen r signs) := by
  unfold demandOpen
  rcases h with ⟨hs, hl⟩ | ⟨hs, hl⟩
  · rw [hs, hl]
    rfl
  · rw [hs, hl]
    rfl

theorem demandOpen_opens (h : (y.state = .prewarn ∧ y.openLimit = false) ∨ y.state = .closing ∨
    (y.state = .blocked ∧ y.retryTimer = none) ∨ (y.state = .closed ∧ y.inhibit = false)) :
    y.demandOpen r signs = (y, y.opens r) := by
  unfold demandOpen
  rw [enterOpening_eq]
  rcases h with ⟨hs, hl⟩ | hs | ⟨hs, hl⟩ | ⟨hs, hl⟩
  · rw [hs, hl]
    rfl
  · rw [hs]
  · rw [hs, hl]
    rfl
  · rw [hs, hl]
    rfl

theorem demandOpen_idle (h : (y.state = .closed ∧ y.inhibit = true) ∨ y.state = .opened ∨ y.state = .opening ∨
    y.state = .fault) : y.demandOpen r signs = (y, []) := by
  unfold demandOpen
  rcases h with ⟨hs, hi⟩ | hs | hs | hs
  · rw [hs, hi]
    rfl
  · rw [hs]
  · rw [hs]
  · rw [hs]

/-- The one entry into OPEN of a gate whose demand is OPEN (R119, R120). -/
theorem enterOpen_demanded (hd : y.demand = some .opened) :
    y.enterOpen r signs = [{ y.halted .opened none with retries := 0 }] := by
  rw [enterOpen_eq rfl, if_neg]
  rintro ⟨h, -⟩
  rw [hd] at h
  cases h

end Demand

theorem final_told {x : Gate} {m : Gate × List Gate} (h : Obeys x m) : (Gate.final m).told = x.told := by
  unfold Gate.final
  cases hl : m.2.getLast? with
  | none => exact h.stored
  | some z => exact h.entered z (List.mem_of_getLast? hl)

section Publish
variable {r : GateRec} {signs e : Bool} {gen : Nat} {d : Demand} {x y : Gate}
  (hy : y = { x with demand := some d, emergency := e, demandGen := some gen })
include hy

/-- The emergency flag upgrades a gate in PREWARN: the countdown of `n` seconds, which at 0 is over (R117). -/
theorem publish_counts {n : Nat} (hd : x.demand = some d) (he : e = true) (hx : x.emergency = false)
    (hs : x.state = .prewarn) (hn : (x.phase = some .signWait ∧ n = min r.prewarn r.emergency) ∨
      (x.phase = some .countdown ∧ x.countKind = some .normal ∧ n = min x.remaining r.emergency)) :
    (0 < n → x.publish r signs d e gen = ({ y with
      phase := some .countdown, countKind := some .emergency, remaining := n, signTimer := none }, [])) ∧
    (n = 0 → x.obstruction = true → x.publish r signs d e gen = ({ y with
      phase := some .obstructed, countKind := none, remaining := 0, signTimer := none }, [])) ∧
    (n = 0 → x.obstruction = false → (x.publish r signs d e gen).2 = y.closes r) := by
  have hn : (y.phase = some .signWait ∧ n = min r.prewarn r.emergency) ∨
      (y.phase = some .countdown ∧ y.countKind = some .normal ∧ n = min y.remaining r.emergency) := by
    rw [hy]
    exact hn
  have hob : (y.countdown .emergency n).obstruction = x.obstruction := by
    rw [hy]
    rfl
  rw [publish_upgrades hy hd he hx hs, upgrade_counts hn, countdownOver_eq]
  refine ⟨fun h0 => ?_, fun h0 ho => ?_, fun h0 ho => ?_⟩
  · rw [if_neg (by omega)]
    rfl
  · rw [if_pos h0, if_pos (hob.trans ho)]
    rfl
  · rw [if_pos h0, if_neg (by rw [hob, ho]; decide)]
    exact closes_prewarn r y _ _ _ _

/-- A new demand CLOSED takes an open or opening gate to PREWARN (R115). -/
theorem publish_prewarns (hd : x.demand ≠ some d) (hc : d = .closed)
    (hs : (x.state = .opened ∧ x.inhibit = false) ∨ x.state = .opening) {z : Gate} (hz : z = y.prewarned r signs) :
    (e = false ∨ 0 < r.emergency ∨ x.obstruction = true → (x.publish r signs d e gen).2 = [z]) ∧
    (e = true → r.emergency = 0 → x.obstruction = false → (x.publish r signs d e gen).2 = z :: z.closes r) := by
  have hs : (y.state = .opened ∧ y.inhibit = false) ∨ y.state = .opening := by
    rw [hy]
    exact hs
  have hy' : y.emergency = e ∧ y.obstruction = x.obstruction := by
    rw [hy]
    exact ⟨rfl, rfl⟩
  rw [publish_closed hy hd hc, demandClosed_prewarns hs, enterPrewarn_eq r signs y z hz, hy'.1, hy'.2]
  refine ⟨fun h => if_neg ?_, fun he h0 ho => if_pos ⟨he, h0, ho⟩⟩
  rintro ⟨he, h0, ho⟩
  rcases h with h | h | h
  · exact Bool.false_ne_true (h.symm.trans he)
  · omega
  · exact Bool.false_ne_true (ho.symm.trans h)

end Publish

end Gate
end Sys2Proof.Machine
end

section
/-! ## A completed pass is published and handed on (R52, R53, R113, R141) -/

set_option Elab.async false

namespace Sys2Proof.Machine

/-! ### The mask of ASPECT_CHANGED (R52, R167) -/

theorem foldl_add_eq_sum {α : Type} (f : α → Nat) (l : List α) (n : Nat) :
    l.foldl (fun n a => n + f a) n = n + (l.map f).sum := by
  induction l generalizing n with
  | nil => rfl
  | cons a t ih => rw [List.foldl_cons, ih, List.map_cons, List.sum_cons, Nat.add_assoc]

/-- The sum of the powers of 2 of distinct indices has exactly these bits. -/
theorem changeMask_getLsbD (old new : Vector Aspect 32) (i : Fin 32) :
    (changeMask old new).getLsbD i.val = true ↔ old[i] ≠ new[i] := by
  have hsorted : (((List.finRange 32).filter (fun i => old[i] ≠ new[i])).map Fin.val).SortedLT :=
    (((List.pairwise_lt_finRange 32).filter _).map Fin.val fun _ _ h => h).sortedLT
  have hsum : ((List.finRange 32).filter (fun i => old[i] ≠ new[i])).map (fun i => 2 ^ i.val) =
      (((List.finRange 32).filter (fun i => old[i] ≠ new[i])).map Fin.val).map (2 ^ ·) := List.map_map.symm
  rw [changeMask, BitVec.getLsbD_ofNat, foldl_add_eq_sum, Nat.zero_add, decide_eq_true i.isLt, Bool.true_and,
    ← Nat.mem_bitIndices, hsum, Nat.bitIndices_sum_map_two_pow hsorted, List.mem_map_of_injective Fin.val_injective,
    List.mem_filter, decide_eq_true_iff]
  exact and_iff_right (List.mem_finRange i)

namespace State

theorem publishTable_mask (w : Vector Aspect 32) (s : State) : ∃ mask : BitVec 32,
    s.publishTable w = ({ s with rsv := { s.rsv with
      published := w, generation := (s.rsv.generation + 1) % 65536 } } : State).record
        (.aspectChanged ((s.rsv.generation + 1) % 65536) mask) ∧
    ∀ i : Fin 32, mask.getLsbD i.val = true ↔ s.rsv.published[i] ≠ w[i] :=
  ⟨_, rfl, changeMask_getLsbD s.rsv.published w⟩

/-! ### The gates (R113) -/

section Gates
variable {s : State} {g : Fin 8}

/-- The transition that the published table asks of gate `g`. -/
def asked (s : State) (r : GateRec) (x : Gate) : Gate × List Gate :=
  x.publish r (r.approach.all s.signConfirmed) (if (s.aspectAt r.seg r.dir).closed = .no then .opened else .closed)
    (s.aspectAt r.seg r.dir).emergency s.rsv.generation

theorem publishToGate_unused (h : s.map.valid = false ∨ s.gate? g.val = none) : s.publishToGate g = s :=
  onGate_unused h _

theorem publishToGate_used {r : GateRec} (hv : s.map.valid = true) (hr : s.gate? g.val = some r) :
    s.publishToGate g = s.moveGate g (s.asked r s.gtc[g]) := onGate_used hv hr _

theorem publishToGates_unit (s : State) (g : Fin 8) : ∃ u, Frame [.gtc, .avp, .prt] s u ∧ u.gtc[g] = s.gtc[g] ∧
    s.publishToGates.gtc[g] = (u.publishToGate g).gtc[g] :=
  foldl_unit State.gtc publishToGate_frame (fun s _ _ h => onGate_other s h _) s g

theorem publishToGates_unused (h : s.map.valid = false ∨ s.gate? g.val = none) : s.publishToGates.gtc[g] = s.gtc[g] := by
  obtain ⟨u, hu, hg, he⟩ := publishToGates_unit s g
  have h' : u.map.valid = false ∨ u.gate? g.val = none := by rwa [hu.map, gate?, hu.img]
  rw [he, publishToGate_unused h', hg]

theorem asked_congr {u : State} (hrsv : u.rsv = s.rsv) (hsigns : u.signs = s.signs) (r : GateRec) (x : Gate) :
    u.asked r x = s.asked r x := by
  have hready : r.approach.all u.signConfirmed = r.approach.all s.signConfirmed := signsReady_congr hsigns r
  rw [asked, asked, aspectAt_congr hrsv, hready, hrsv]

theorem publishToGates_used {r : GateRec} (hv : s.map.valid = true) (hr : s.gate? g.val = some r) :
    s.publishToGates.gtc[g] = Gate.final (s.asked r s.gtc[g]) := by
  obtain ⟨u, hu, hg, he⟩ := publishToGates_unit s g
  have hv' : u.map.valid = true := by rw [hu.map, hv]
  have hr' : u.gate? g.val = some r := by rw [gate?, hu.img]; exact hr
  rw [he, publishToGate_used hv' hr', moveGate_gtc, setAt_get_same, hg, asked_congr hu.rsv hu.signs]

end Gates

/-! ### The signs (R141) -/

/-- Sign `i` is in use and the published table changes its element list. -/
def listChanges (s : State) (i : Fin 24) : Bool :=
  match s.sign? i.val with
  | some r => decide ((s.signs[i]).lastList ≠ some (s.elements r))
  | none => false

theorem listChanges_iff {s : State} {i : Fin 24} :
    s.listChanges i = true ↔ ∃ r, s.sign? i.val = some r ∧ (s.signs[i]).lastList ≠ some (s.elements r) := by
  unfold listChanges
  cases s.sign? i.val with
  | none => simp
  | some r => simp

/-- The compose queue replaced. -/
def withQueue (q : List (Fin 24)) (s : State) : State := { s with scp := { s.scp with queue := q } }

theorem publishToSign_eq (s : State) (i : Fin 24) (q : List (Fin 24)) : publishToSign (s.withQueue q) i =
    s.withQueue (if s.listChanges i = true ∧ i ∉ q then q ++ [i] else q) := by
  have hs : (s.withQueue q).sign? i.val = s.sign? i.val := rfl
  have hj : (s.withQueue q).joinQueue i = s.withQueue (if i ∈ q then q else q ++ [i]) := by
    unfold joinQueue
    simp only [withQueue, List.contains_iff_mem]
    split <;> rfl
  unfold publishToSign listChanges
  rw [hs, hj]
  cases s.sign? i.val with
  | none => simp
  | some r =>
    have he : (s.withQueue q).elements r = s.elements r := rfl
    have hl : (s.withQueue q).signs[i].lastList = s.signs[i].lastList := rfl
    dsimp only
    rw [he, hl]
    simp only [decide_eq_true_eq]
    generalize s.signs[i].lastList = shown
    by_cases h : shown = some (s.elements r)
    · rw [if_pos h, if_neg fun hn => hn.1 h]
    · by_cases hq : i ∈ q
      · rw [if_neg h, if_pos hq, if_neg fun hn => hn.2 hq]
      · rw [if_neg h, if_neg hq, if_pos ⟨h, hq⟩]

theorem foldl_publishToSign (s : State) (l : List (Fin 24)) (hl : l.Nodup) (q : List (Fin 24)) :
    l.foldl publishToSign (s.withQueue q) =
      s.withQueue (q ++ l.filter (fun i => s.listChanges i && decide (i ∉ q))) := by
  induction l generalizing q with
  | nil => rw [List.filter_nil, List.append_nil, List.foldl_nil]
  | cons i t ih =>
    obtain ⟨hi, ht⟩ := List.nodup_cons.mp hl
    rw [List.foldl_cons, publishToSign_eq, ih ht]
    by_cases h : s.listChanges i = true ∧ i ∉ q
    · have hrest : t.filter (fun j => s.listChanges j && decide (j ∉ q ++ [i])) =
          t.filter (fun j => s.listChanges j && decide (j ∉ q)) := by
        refine List.filter_congr fun j hj => ?_
        have hne : j ≠ i := fun e => hi (e ▸ hj)
        simp [hne]
      rw [if_pos h, hrest, List.filter_cons_of_pos (by simpa using h), List.append_assoc]
      rfl
    · rw [if_neg h, List.filter_cons_of_neg (by simpa using h)]

/-- The signs whose list changes join behind those that wait, in ascending order. -/
theorem publishToSigns_eq (s : State) : s.publishToSigns = s.withQueue (s.scp.queue ++
    (List.finRange 24).filter (fun i => s.listChanges i && decide (i ∉ s.scp.queue))) :=
  foldl_publishToSign s _ (List.nodup_finRange 24) s.scp.queue

theorem mem_publishToSigns {s : State} {i : Fin 24} :
    i ∈ s.publishToSigns.scp.queue ↔ i ∈ s.scp.queue ∨ s.listChanges i = true := by
  rw [publishToSigns_eq]
  simp only [withQueue, List.mem_append, List.mem_filter, List.mem_finRange, true_and, Bool.and_eq_true, decide_eq_true_eq]
  by_cases h : i ∈ s.scp.queue <;> simp [h]

theorem elements_congr {s u : State} (himg : u.img = s.img) (hrsv : u.rsv = s.rsv) (r : SignRec) :
    u.elements r = s.elements r := by
  have ha : u.aspectAt = s.aspectAt := by
    funext seg d
    exact aspectAt_congr hrsv seg d
  rw [elements, elements, ha, himg]

/-! ### The paths (R53, R102) -/

/-- No path is left in HOLD_PENDING whose test passes. -/
theorem publishToPaths_tested {s : State} {k : Fin 12} {r : PathRec} (hr : s.path? k.val = some r)
    (hs : (s.publishToPaths.avp[k]).state = .holdPending) : s.publishToPaths.unmetItem r ≠ none := by
  rw [(TestedAlike.of_frame (publishToPaths_frame s)).unmetItem]
  intro hu
  rw [publishToPaths, testPaths_path _ _ hr, hu] at hs
  by_cases hp : s.avp[k].state = .holdPending
  · rw [Bool.true_and, if_pos (by rw [hp]; rfl), tested_confirms hp] at hs
    cases hs
  · rw [Bool.true_and, if_neg (by simpa using hp)] at hs
    exact hp hs

/-! ### The publication handed on to the gates, the signs and the paths -/

/-- A publication reaches GTC, then SCP, then AVP (R53, notes/assumptions/9.md). -/
def handOn (u : State) : State := u.publishToGates.publishToSigns.publishToPaths

theorem handOn_frame (u : State) : Frame [.scp, .gtc, .avp, .prt] u u.handOn :=
  Frame.step (publishToPaths_frame _) (Frame.step (publishToSigns_frame _) ((publishToGates_frame u).mono))

theorem handOn_gtc (u : State) : u.handOn.gtc = u.publishToGates.gtc := by
  rw [handOn, (publishToPaths_frame _).gtc, (publishToSigns_frame _).gtc]

/-- A gate in use ends in the last state of the transition that the publication asks of it. -/
theorem handOn_gate {s u t : State} {g : Fin 8} {r : GateRec} (ht : t = u.handOn) (hsigns : u.signs = s.signs)
    (hgtc : u.gtc = s.gtc) (hv : u.map.valid = true) (hr : u.gate? g.val = some r) :
    t.gtc[g] = Gate.final ((s.gtc[g]).publish r (r.approach.all s.signConfirmed)
      (if (t.aspectAt r.seg r.dir).closed = .no then .opened else .closed) (t.aspectAt r.seg r.dir).emergency
      t.rsv.generation) := by
  have hready : r.approach.all u.signConfirmed = r.approach.all s.signConfirmed := signsReady_congr hsigns r
  have hrsv : t.rsv = u.rsv := by rw [ht, (handOn_frame u).rsv]
  rw [aspectAt_congr hrsv, hrsv, ← hready, ← hgtc, ht, handOn_gtc]
  exact publishToGates_used hv hr

theorem handOn_scp (u : State) : u.handOn.scp = { u.scp with queue := u.handOn.scp.queue } := by
  rw [handOn, (publishToPaths_frame _).scp, publishToSigns_eq, withQueue, (publishToGates_frame u).scp]

theorem handOn_queue {u : State} {i : Fin 24} : i ∈ u.handOn.scp.queue ↔ i ∈ u.scp.queue ∨ u.listChanges i = true := by
  have hg := publishToGates_frame u
  have hlist : u.publishToGates.listChanges i = u.listChanges i := by
    have hsign : u.publishToGates.sign? i.val = u.sign? i.val := by rw [sign?, sign?, valid, hg.map, hg.img]
    simp only [listChanges, hsign, hg.signs, elements_congr hg.img hg.rsv]
  rw [handOn, (publishToPaths_frame _).scp, mem_publishToSigns, hg.scp, hlist]

section Completion
variable {s : State} {p : PassCopy}

theorem passCompletion_same (hp : s.rsv.pass = some p) (h : p.work s.rsv.published = s.rsv.published) :
    s.passCompletion = s.passIdle := by
  simp only [passCompletion, hp, h, if_true]

theorem passCompletion_differs (hp : s.rsv.pass = some p) (h : p.work s.rsv.published ≠ s.rsv.published) :
    s.passCompletion = (s.passIdle.publishTable (p.work s.rsv.published)).handOn := by
  simp only [passCompletion, hp, h, if_false]
  rfl

/-- What the hand-over of a publication leaves as it was. -/
theorem eq_of_publication {u t : State} {w : Vector Aspect 32} (hu : u = s.passIdle.publishTable w)
    (ht : t = u.handOn) :
    t = { s with rsv := { published := w, generation := (s.rsv.generation + 1) % 65536, dirty := s.rsv.dirty
                          pass := none }
                 scp := { s.scp with queue := t.scp.queue }, gtc := t.gtc, avp := t.avp, prt := t.prt } := by
  have hr : t.rsv = { published := w, generation := (s.rsv.generation + 1) % 65536, dirty := s.rsv.dirty
                      pass := none } := by
    rw [ht, (handOn_frame u).rsv, hu]
    rfl
  have hus : u.scp = s.scp := by
    rw [hu]
    rfl
  have hs : t.scp = { s.scp with queue := t.scp.queue } := by
    rw [← hus, ht]
    exact handOn_scp u
  have hf : Frame [.rsv, .scp, .gtc, .avp, .prt] s t := by
    rw [ht, hu]
    exact Frame.step (handOn_frame _) (Frame.step (publishTable_frame _ _) ((passIdle_frame s).mono))
  cases t
  exact (State.mk.injEq ..).mpr ⟨hf.powered, hf.img, hf.map, hf.ord, hr, hf.mea, hf.cnd, rfl, rfl, hf.pins, hs, hf.signs,
    hf.flc, rfl, hf.cuts, hf.pending⟩

end Completion

end State

/-- Settles O36: the table, each gate, the signs and the paths by the lemmas on each hand-over, and a new demand by the
cases of `Gate.publish`. -/
theorem passCompletionPublishes : Obligations.PassCompletionPublishes := by
  refine ⟨fun s t u p hp hpass => ⟨fun h => ?_, fun h hu ht => ?_, fun i hi => ?_⟩, fun w s => s.publishTable_mask w,
    fun s => ⟨rfl, fun g h => State.publishToGate_unused h, fun g r m hv hr hm => ?_, ?_⟩, ?_⟩
  · rw [exec_powered hp (i := .passCompletion) rfl, State.passCompletion_same hpass h]
    rfl
  · have hu : u = s.passIdle.publishTable (p.work s.rsv.published) := hu
    have ht : t = u.handOn := ht
    have huf : Frame [.rsv, .prt] s u := by
      rw [hu]
      exact Frame.step (State.publishTable_frame _ _) ((State.passIdle_frame s).mono)
    have htf := State.handOn_frame u
    rw [← ht] at htf
    have hmap : u.map = s.map := huf.map
    have himg : u.img = s.img := huf.img
    refine ⟨?_, State.eq_of_publication hu ht, fun g r hv hr => ?_, fun g hg => ?_, fun i => ?_, fun k r hr hs => ?_⟩
    · rw [exec_powered hp (i := .passCompletion) rfl, State.passCompletion_differs hpass h, ht, hu]
    · have hgate := State.handOn_gate ht huf.signs huf.gtc (by rw [hmap, hv]) (by rw [State.gate?, himg]; exact hr)
      have htold := congrArg Gate.told hgate
      rw [Gate.final_told (Gate.publish_obeys rfl)] at htold
      exact ⟨congrArg Prod.fst htold, congrArg (·.2.1) htold, congrArg (·.2.2) htold, hgate⟩
    · have hg : u.map.valid = false ∨ u.gate? g.val = none := by rwa [hmap, State.gate?, himg]
      rw [ht, State.handOn_gtc, State.publishToGates_unused hg, huf.gtc]
    · have hsign : u.sign? i.val = s.sign? i.val := by rw [State.sign?, State.sign?, State.valid, hmap, himg]
      rw [ht, State.handOn_queue, State.listChanges_iff, hsign, huf.scp, huf.signs, ← ht]
      simp only [State.elements_congr htf.img htf.rsv]
    · rw [ht] at hs ⊢
      refine State.publishToPaths_tested ?_ hs
      rw [State.path?, (State.publishToSigns_frame _).img, (State.publishToGates_frame u).img, himg]
      exact hr
  · rw [PassCopy.work_get, hi]
    rfl
  · have hmove : s.publishToGate g = s.moveGate g (m.1, m.2) := by rw [State.publishToGate_used hv hr, hm]; rfl
    have hstate : m.1.state = s.gtc[g].state := by
      rw [hm]
      exact (Gate.publish_obeys rfl).state
    exact ⟨fun h => by rw [hmove, h, State.moveGate_stored], fun h => by rw [hmove, State.moveGate_nonempty s g h hstate]⟩
  · rw [State.publishToSigns_eq]
    refine congrArg (fun l => s.withQueue (s.scp.queue ++ l)) (List.filter_congr fun i _ => ?_)
    unfold State.listChanges
    cases s.sign? i.val with
    | none => rfl
    | some r => exact (Bool.and_comm _ _).trans (Bool.decide_and _ _).symm
  · intro r signs e gen d x y m hy hm
    rw [hm]
    refine ⟨Gate.publish_same hy, fun hd he hx hs => ⟨fun n hn => Gate.publish_counts hy hd he hx hs hn, fun hw hk => ?_⟩,
      fun hd hc => ⟨fun hs z hz => Gate.publish_prewarns hy hd hc hs hz, fun hs => ?_⟩,
      fun hd ho => ⟨fun hs => ?_, fun hs => ?_, fun hs => ?_⟩⟩
    · rw [Gate.publish_upgrades hy hd he hx hs]
      exact Gate.upgrade_idle (by rw [hy]; exact hw) (by rw [hy]; exact hk)
    · rw [Gate.publish_closed hy hd hc]
      exact Gate.demandClosed_idle (by rw [hy]; exact hs)
    · rw [Gate.publish_opened hy hd ho, Gate.demandOpen_rests (by rw [hy]; exact hs)]
      exact Gate.enterOpen_demanded (by rw [hy, ho])
    · rw [Gate.publish_opened hy hd ho, Gate.demandOpen_opens (by rw [hy]; exact hs)]
    · rw [Gate.publish_opened hy hd ho]
      exact Gate.demandOpen_idle (by rw [hy]; exact hs)

end Sys2Proof.Machine
end

section
/-! ## One second of the device clock (R58, R72, R82, R103, R115 to R121, R149) -/

set_option Elab.async false

namespace Sys2Proof.Machine

theorem tickTo_eq (limit : Nat) (t : Option Nat) :
    tickTo limit t = t.map (fun n => if n < limit then n + 1 else n) := by
  cases t <;> rfl

theorem Anemometer.second_eq (x : Anemometer) :
    x.second = { x with timer := if x.timing then min 65535 (x.timer + 10000) else x.timer } := by
  have hmin : min 65535 (x.timer + 10000) = if 65535 < x.timer + 10000 then 65535 else x.timer + 10000 := by
    split <;> omega
  rw [hmin]
  rfl

theorem Station.second_eq (r : StationRec) (x : Station) :
    x.second r = { x with timer := x.timer.map (fun n => if n < 60 * r.hold then n + 1 else n) } := by
  rw [Station.second, tickTo_eq]

theorem Path.second_eq (r : PathRec) (x : Path) :
    x.second r = { x with timer := x.timer.map (fun n => if n < r.confirm then n + 1 else n) } := by
  rw [Path.second, tickTo_eq]

theorem Gate.second_eq (r : GateRec) (x : Gate) : x.second r = { x with
    remaining := if x.phase = some .countdown then x.remaining - 1 else x.remaining
    signTimer := x.signTimer.map (fun n => if n < r.signWait then n + 1 else n)
    travel := x.travel.map (fun n => if n < r.travel then n + 1 else n)
    retryTimer := x.retryTimer.map (fun n => if n < r.retryDelay then n + 1 else n) } := by
  rw [Gate.second, tickTo_eq, tickTo_eq, tickTo_eq]

theorem step_idle {s : State} (h : s.pending = []) : step s = .next s.idle := by
  simp only [step, h]

theorem idle_unpowered {s : State} (h : s.powered = false) : s.idle = s := by
  simp [State.idle, State.whenPowered, h]

theorem idle_powered {s : State} (h : s.powered = true) : s.idle = s.second := by
  simp only [State.idle, State.whenPowered, h, if_true]

/-- Settles O3: a second is the timers of each bank counted on, unit by unit. -/
theorem emptyQueueIsOneSecond : Obligations.EmptyQueueIsOneSecond := by
  intro s hq
  rw [step_idle hq]
  refine ⟨fun hp => by rw [idle_unpowered hp], fun hp => ⟨s.second, by rw [idle_powered hp], rfl, fun i => ?_,
    fun k => ?_, fun k => ?_, fun g => ?_, fun i => ?_⟩⟩
  · exact (ofFn_get _ i).trans (Anemometer.second_eq _)
  · refine (ofFn_get _ k).trans ?_
    cases s.station? k.val with
    | none => rfl
    | some r => exact Station.second_eq r _
  · refine (ofFn_get _ k).trans ?_
    cases s.path? k.val with
    | none => rfl
    | some r => exact Path.second_eq r _
  · refine (ofFn_get _ g).trans ?_
    rw [State.valid]
    cases s.gate? g.val with
    | none => cases s.map.valid <;> rfl
    | some r =>
      cases s.map.valid with
      | false => rfl
      | true => exact Gate.second_eq r _
  · refine (ofFn_get _ i).trans ?_
    cases s.linedSign? i.val <;> rfl

end Sys2Proof.Machine
end

section
/-! ## A scan begins (R56, R58, R59, R65) -/

set_option Elab.async false

namespace Sys2Proof.Machine

theorem mem_scanList {copy : Vector ChanCfg 16} {c : Fin 16} :
    c ∈ scanList copy ↔ c.val ≤ 1 ∨ (copy[c]).enable = true := by
  rw [scanList, List.mem_filter, Bool.or_eq_true, decide_eq_true_iff]
  exact and_iff_right (List.mem_finRange c)

theorem scanList_ascending (copy : Vector ChanCfg 16) : (scanList copy).Pairwise (fun a b => a.val < b.val) :=
  (List.pairwise_lt_finRange 16).filter _

theorem scanTimerExpiry_busy {s : State} (h : s.mea.scan ≠ none) :
    s.scanTimerExpiry = { s with mea := { s.mea with scanTimer := 0 } } := by
  obtain ⟨n, hn⟩ := Option.ne_none_iff_exists'.mp h
  simp [State.scanTimerExpiry, hn]

theorem scanTimerExpiry_idle {s : State} (h : s.mea.scan = none) :
    s.scanTimerExpiry = { s with mea := { s.mea with scanTimer := 0 }.beginScan } := by
  simp [State.scanTimerExpiry, h]

/-- Settles O37: the scan that begins is the one of `MeaUnit.beginScan`. -/
theorem scanTimerBeginsAScan : Obligations.ScanTimerBeginsAScan := by
  intro s hp
  rw [exec_powered hp (i := .scanTimerExpiry) rfl]
  refine ⟨fun h => by rw [scanTimerExpiry_busy h], fun h => ⟨_, by rw [scanTimerExpiry_idle h]; rfl, rfl, rfl, rfl, rfl,
    rfl, fun c => mem_scanList, scanList_ascending s.mea.table, fun c => ?_⟩⟩
  exact ofFn_get _ c

end Sys2Proof.Machine
end

section
/-! ## A conversion passes its stages (R57, R60, R62, R63, R66 to R71) -/

set_option Elab.async false

namespace Sys2Proof.Machine

/-! ### The stages in closed form -/

theorem clampInt_eq {lo hi : Int} (h : lo ≤ hi) (z : Int) : clampInt lo hi z = max lo (min hi z) := by
  unfold clampInt
  split
  · omega
  · split <;> omega

/-- R70, R74: the ring keeps its last results, up to its depth. -/
theorem intoRing_eq {α : Type} (n : Nat) (ring : List α) (x : α) :
    intoRing n ring x = (ring ++ [x]).drop (ring.length + 1 - n) := by
  unfold intoRing
  split
  · next h => rw [Nat.sub_eq_zero_of_le h, List.drop_zero]
  · rfl

/-- The range of stage 4 is that of a temperature, but on the light channels 14 and 15 (R69). -/
theorem clamp_resultRange {c : Nat} (h : c < 16) (v : Int) : clampInt (resultRange c).1 (resultRange c).2 v =
    if c ≤ 13 then max (-600) (min 800 v) else max 0 (min 4095 v) := by
  unfold resultRange
  by_cases hc : c ≤ 13
  · rw [if_neg (by omega), if_pos hc]
    exact clampInt_eq (by decide) v
  · rw [if_pos (by omega), if_neg hc]
    exact clampInt_eq (by decide) v

theorem stationChannel_above {c : Nat} (h : 2 ≤ c) : stationChannel c = decide (c ≤ 13) := by
  simp [stationChannel, h]

/-- Only the temperature channels of the stations are corrected for the cabinet (R67, R68). -/
theorem beforeClamp_above {c : Nat} (h : 2 ≤ c) (t : Trim) (k : Nat) (n : Int) :
    beforeClamp c t k n = if c ≤ 13 then trimmed t n - roundDiv (driftOf t k) 64 else trimmed t n := by
  simp only [beforeClamp, stationChannel_above h, decide_eq_true_eq, corrected]

section Convert
variable {c depth cref k count : Nat} {cfg : ChanCfg} {uncorrected ovf : Bool} {x : Chan}

/-- The five stages, each by its result. -/
theorem Chan.convert_eq {ratio N V R : Int} (hratio : ratio = ratioOf count cref) (hN : N = max 0 (min 32767 ratio))
    (hV : V = beforeClamp c cfg.trim k N) (hR : R = clampInt (resultRange c).1 (resultRange c).2 V) :
    x.convert c depth cref k cfg uncorrected ovf count = { x with
      lastCount := some count, lastN := some N.toNat, result := some R
      flags := ⟨ovf, decide (N ≠ ratio ∨ R ≠ V), cfg.defaulted, stationChannel c && uncorrected⟩
      ring := (x.ring ++ [R]).drop (x.ring.length + 1 - depth) } := by
  rw [← clampInt_eq (by decide)] at hN
  rw [← intoRing_eq]
  subst hratio hN hV hR
  rfl

end Convert

/-! ### The conversion in flight -/

theorem missQuality_next (ring : List Int) (miss : Nat) :
    missQuality ring (nextMiss miss) = .stale ↔ ring = [] ∨ 2 ≤ miss := by
  have hthree : nextMiss miss = 3 ↔ 2 ≤ miss := by
    unfold nextMiss
    split <;> omega
  simp only [missQuality, hthree, List.isEmpty_iff, ite_eq_left_iff, reduceCtorEq, imp_false, not_not]

namespace Scan
variable {n : Scan} {c : Fin 16} {rest : List (Fin 16)} {m : ImgUnit} {count : Nat} {ovf : Bool}

theorem convert_reference (h : n.todo = 0 :: rest) : n.convert m count ovf = n.reference count rest := by
  simp only [convert, h, if_true]

theorem convert_cabinet (h : n.todo = 1 :: rest) :
    n.convert m count ovf = n.cabinet (m.depth 1) (n.cref.getD 8192) count ovf rest := by
  simp only [convert, h, one_ne_zero, if_false, if_true]

theorem convert_channel (h : n.todo = c :: rest) (hc : 2 ≤ c.val) :
    n.convert m count ovf = n.channel c (m.depth c.val) (n.cref.getD 8192) count ovf rest := by
  have h0 : c ≠ 0 := by rintro rfl; exact absurd hc (by decide)
  have h1 : c ≠ 1 := by rintro rfl; exact absurd hc (by decide)
  simp only [convert, h, h0, h1, if_false]

theorem reference_eq : n.reference count rest = { n with
    work := setAt n.work 0 { n.work[(0 : Fin 16)] with lastCount := some count }
    cref := some count, todo := if 8192 ≤ count ∧ count ≤ 60000 then rest else [] } := by
  simp only [reference, goodReference, decide_eq_true_eq]

/-- A cabinet conversion that overranges (R66, R67). -/
theorem cabinet_overrange (depth cref : Nat) : n.cabinet depth cref count true rest = { n with
    todo := rest, work := setAt n.work 1 { n.work[(1 : Fin 16)] with lastCount := some count }
    k := if (n.work[(1 : Fin 16)]).ring = [] ∨ 2 ≤ (n.work[(1 : Fin 16)]).miss then 130 else n.k
    uncorrected := decide ((n.work[(1 : Fin 16)]).ring = [] ∨ 2 ≤ (n.work[(1 : Fin 16)]).miss) } := by
  simp only [cabinet, if_true, missQuality_next, decide_eq_true_eq]

/-- A cabinet conversion with a result, stage by stage: the cabinet code is that of the smoothed value (R66). -/
theorem cabinet_result {depth cref : Nat} {ratio N T R : Int} {x : Chan} (hratio : ratio = ratioOf count cref)
    (hN : N = max 0 (min 32767 ratio)) (hT : T = trimmed (n.copy[(1 : Fin 16)]).trim N)
    (hR : R = max (-600) (min 800 T)) (hx : x = { n.work[(1 : Fin 16)] with
      lastCount := some count, lastN := some N.toNat, result := some R
      flags := ⟨false, decide (N ≠ ratio ∨ R ≠ T), (n.copy[(1 : Fin 16)]).defaulted, false⟩
      ring := ((n.work[(1 : Fin 16)]).ring ++ [R]).drop ((n.work[(1 : Fin 16)]).ring.length + 1 - depth) }) :
    n.cabinet depth cref count false rest = { n with
      todo := rest, got := n.got ++ [1], work := setAt n.work 1 x, uncorrected := false
      k := (max 0 (min 199 (roundDiv ((meanOf x.ring).getD 0 + 450) 5))).toNat } := by
  rw [← clampInt_eq (by decide)] at hR ⊢
  obtain rfl := hx.trans (Chan.convert_eq (c := 1) (k := n.k) (uncorrected := false) hratio hN hT hR).symm
  rfl

/-- The conversion of a channel 2..15, stage by stage. -/
theorem channel_eq (hc : 2 ≤ c.val) {depth cref : Nat} {ratio N T V R : Int} (hratio : ratio = ratioOf count cref)
    (hN : N = max 0 (min 32767 ratio)) (hT : T = trimmed (n.copy[c]).trim N)
    (hV : V = if c.val ≤ 13 then T - roundDiv (driftOf (n.copy[c]).trim n.k) 64 else T)
    (hR : R = if c.val ≤ 13 then max (-600) (min 800 V) else max 0 (min 4095 V)) :
    n.channel c depth cref count ovf rest = { n with
      todo := rest, got := n.got ++ [c]
      work := setAt n.work c { n.work[c] with
        lastCount := some count, lastN := some N.toNat, result := some R
        flags := ⟨ovf, decide (N ≠ ratio ∨ R ≠ V), (n.copy[c]).defaulted, decide (c.val ≤ 13) && n.uncorrected⟩
        ring := ((n.work[c]).ring ++ [R]).drop ((n.work[c]).ring.length + 1 - depth) } } := by
  rw [hT, ← beforeClamp_above hc] at hV
  rw [← clamp_resultRange c.isLt] at hR
  rw [channel, Chan.convert_eq hratio hN hV hR, stationChannel_above hc]

end Scan

theorem exec_conversion {s : State} (hp : s.powered = true) {i : Instr} {count : Nat} {ovf : Bool}
    (h : conversionOf i = some (count, ovf)) : exec i s = .next (s.conversionEnd count ovf) := by
  cases i with
  | comparatorTrip n =>
    obtain ⟨rfl, rfl⟩ := Prod.mk.inj (Option.some.inj h)
    exact exec_powered hp rfl
  | countOverflow =>
    obtain ⟨rfl, rfl⟩ := Prod.mk.inj (Option.some.inj h)
    exact exec_powered hp rfl
  | _ => cases h

theorem conversionEnd_goes {s : State} {n n' : Scan} {count : Nat} {ovf : Bool} (hn : s.mea.scan = some n)
    (h' : n' = n.convert s.img count ovf) (h : n'.todo ≠ []) :
    s.conversionEnd count ovf = { s with mea := { s.mea with scan := some n' } } := by
  subst h'
  simp [State.conversionEnd, hn, h]

/-- Settles O38: the conversion of each kind of channel, in the closed form of its stages. -/
theorem conversionPassesTheStages : Obligations.ConversionPassesTheStages := by
  intro s n n' c rest i count ovf hp hn htodo hi h'
  refine ⟨fun h => by rw [exec_conversion hp hi, conversionEnd_goes hn h' h], fun hc => ?_, fun hc => ?_,
    fun hc ho => ?_, fun hc ho => ?_⟩
  · subst hc
    rw [h', Scan.convert_reference htodo, Scan.reference_eq]
  · refine ⟨_, _, _, _, _, rfl, rfl, rfl, rfl, rfl, ?_⟩
    rw [h', Scan.convert_channel htodo hc]
    exact Scan.channel_eq hc rfl rfl rfl rfl rfl
  · subst hc ho
    refine ⟨_, _, _, _, _, rfl, rfl, rfl, rfl, rfl, ?_⟩
    rw [h', Scan.convert_cabinet htodo]
    exact Scan.cabinet_result rfl rfl rfl rfl rfl
  · subst hc ho
    rw [h', Scan.convert_cabinet htodo, Scan.cabinet_overrange]

end Sys2Proof.Machine
end

section
/-! ## TRIM_SET and CHANNEL_READ (R64, R75) -/

set_option Elab.async false

namespace Sys2Proof.Machine

section TrimSet
variable {a : Asker} {args : List Byte} {s : State}

theorem trimSet_refused {rc : ReplyCode} (h : trimRefusal args = some rc) : trimSet a args s = s.answer a rc [] := by
  simp only [trimSet, h]

/-- The runtime entry of channel `c` replaced by what a TRIM_SET carries. -/
def State.trimmedBy (c : Fin 16) (args : List Byte) (s : State) : State :=
  { s with mea := { s.mea with table := setAt s.mea.table c ⟨get8 args 9 != 0, trimArg args, false⟩ } }

theorem trimSet_accepted {c : Fin 16} (h : trimRefusal args = none) (hc : get8 args 0 = c.val) :
    trimSet a args s = (s.trimmedBy c args).answer a .ok [] := by
  simp only [trimSet, h, hc, finOf_val]
  rfl

theorem trimRefusal_badRange (h : get8 args 0 = 0 ∨ 15 < get8 args 0) : trimRefusal args = some .badRange :=
  if_pos (by omega)

theorem trimRefusal_inRange {c : Fin 16} (hc : get8 args 0 = c.val) (h : 1 ≤ c.val) : trimRefusal args =
    if (16383 < get16 args 1 ∨ getInt16 args 3 < -4096 ∨ 4095 < getInt16 args 3) ∨ (c.val = 1 ∧ get8 args 9 = 0) then
      some .badValue else none := by
  have hrange : 1 ≤ get8 args 0 ∧ get8 args 0 ≤ 15 := by omega
  rw [trimRefusal, if_neg (not_not.mpr hrange), hc]
  by_cases hv : 16383 < get16 args 1 ∨ getInt16 args 3 < -4096 ∨ 4095 < getInt16 args 3
  · rw [if_pos hv, if_pos (.inl hv)]
  · simp only [hv, false_or, if_false]

end TrimSet

section ChannelRead
variable {a : Asker} {args : List Byte} {s : State}

theorem channelRead_beyond (h : 15 < get8 args 0) : channelRead a args s = s.answer a .badRange [] := by
  rw [channelRead, finOf_above h]

theorem channelRead_reference (h : get8 args 0 = 0) :
    channelRead a args s = s.answer a .ok (s.mea.referenceBytes ++ put16 s.mea.scanNumber) := by
  have hc : finOf 16 (get8 args 0) = some 0 := by rw [h]; rfl
  simp only [channelRead, hc, if_true]

theorem channelRead_channel {c : Fin 16} (h0 : c ≠ 0) (h : get8 args 0 = c.val) :
    channelRead a args s = s.answer a .ok (s.mea.channelBytes (s.img.depth c.val) c ++ put16 s.mea.scanNumber) := by
  simp only [channelRead, h, finOf_val, if_neg h0]

end ChannelRead

/-- Settles O41: the tests of TRIM_SET in their order, and the reply of each channel. -/
theorem trimAndChannelRequests : Obligations.TrimAndChannelRequests := by
  refine ⟨fun p tag args s c h hc h1 => ⟨fun hg hlo hhi hoff => ?_, fun hbad => ?_⟩, fun p tag args s h hr => ?_,
    fun p tag args s h => ⟨fun hr => ?_, fun hr => ?_, fun c h0 hc => ?_⟩⟩
  · have hnone : trimRefusal args = none := by
      rw [trimRefusal_inRange hc h1, if_neg (by omega)]
    refine (exec_taken (r := .trimSet) h tag).trans (congrArg Host.Outcome.next ?_)
    exact (trimSet_accepted hnone hc).trans (State.answer_serving p _ tag .ok [] (s.trimmedBy c args))
  · refine exec_answered (r := .trimSet) h tag (trimSet_refused ?_)
    rw [trimRefusal_inRange hc h1, if_pos (by simpa only [or_assoc] using hbad)]
  · exact exec_answered (r := .trimSet) h tag (trimSet_refused (trimRefusal_badRange hr))
  · exact exec_answered (r := .channelRead) h tag (channelRead_beyond hr)
  · have hreply : exec (.channelRead p tag args) s = .next (s.answer ⟨p, 0x07, tag⟩ .ok
        (s.mea.referenceBytes ++ put16 s.mea.scanNumber)) :=
      exec_answered (r := .channelRead) h tag (channelRead_reference hr)
    rw [hreply, MeaUnit.referenceBytes]
    rcases s.mea.lastGood with _ | _ | _ <;> rfl
  · exact exec_answered (r := .channelRead) h tag (channelRead_channel h0 hc)

end Sys2Proof.Machine
end

section
/-! ## What a hand-over to a station touches (R79, R88 to R91) -/

set_option Elab.async false

namespace Sys2Proof.Machine.State

/-! ### Of RSV, a hand-over touches the dirty flag alone (R17, R44, R84) -/

theorem admitOrder_marks (s : State) (o : Order) : Marks s (s.admitOrder o) := ⟨true, rfl⟩

theorem wxRaise_marks (s : State) (k : Fin 6) (c : Content) : Marks s (wxRaise k c s) := by
  unfold wxRaise
  split
  · split
    · exact .refl s
    · exact ⟨true, rfl⟩
  split
  · exact .refl s
  split
  · exact admitOrder_marks s _
  · exact .refl s

theorem wxRequest_marks (s : State) (k : Fin 6) (kind : Kind) (wanted : Option Content) :
    Marks s (s.wxRequest k kind wanted) := by
  unfold wxRequest wxRetire
  cases wanted with
  | some c =>
    dsimp only
    split
    · exact .refl s
    · exact wxRaise_marks s k c
  | none =>
    dsimp only
    split
    · exact retire_marks s _ _
    · exact .refl s

theorem wxRequests_marks (s : State) (k : Fin 6) (r : StationRec) : Marks s (s.wxRequests k r) := by
  unfold wxRequests
  split
  · exact ((wxRequest_marks s _ _ _).trans (wxRequest_marks _ _ _ _)).trans (wxRequest_marks _ _ _ _)
  · exact .refl s

theorem conclude_marks (s : State) (k : Fin 6) (r : StationRec) : Marks s (s.conclude k r) := by
  rw [conclude_eq]
  exact (Marks.of_eq rfl).trans (wxRequests_marks _ k r)

theorem handStation_marks (s : State) (k : Fin 6) : Marks s (handStation s k) := by
  unfold handStation
  split
  · exact ((((Marks.refl s).step (noteQuality_frame s _ _ _)).step (setStation_frame _ _ _)).trans
      (noteClass_marks _ _ _ _)).trans (conclude_marks _ _ _)
  · exact .refl s

theorem windHandOver_marks (s : State) (k : Fin 6) (r : StationRec) (gust mean : Nat) :
    Marks s (s.windHandOver k r gust mean) := by
  unfold windHandOver
  dsimp only
  refine Marks.trans ?_ (conclude_marks _ k r)
  split
  · exact .of_eq rfl
  · exact .of_eq rfl

theorem sampleStation_marks (s : State) (k : Fin 6) : Marks s (sampleStation s k) := by
  unfold sampleStation
  split
  · split
    · refine Marks.trans ?_ (windHandOver_marks _ _ _ _ _)
      exact .of_eq rfl
    · exact .refl s
  · exact .refl s

/-- What a hand-over of MEA leaves as it was. -/
theorem eq_of_handOver {s t : State} {m : MeaUnit} {signs : Vector Sign 24} {flc : Vector Line 2}
    (h : Frame [.mea, .cnd, .ord, .rsv, .prt, .signs, .flc] s t) (hm : Marks s t) (hmea : t.mea = m)
    (hsigns : t.signs = signs) (hflc : t.flc = flc) :
    t = { s with mea := m, cnd := t.cnd, ord := t.ord, rsv := { s.rsv with dirty := t.rsv.dirty }, prt := t.prt
                 signs := signs, flc := flc } := by
  have hrsv : t.rsv = { s.rsv with dirty := t.rsv.dirty } := by
    obtain ⟨d, hd⟩ := hm
    rw [hd]
  cases t
  exact (State.mk.injEq ..).mpr ⟨h.powered, h.img, h.map, rfl, hrsv, hmea, rfl, h.avp, h.gtc, h.pins, h.scp, hsigns,
    hflc, rfl, h.cuts, h.pending⟩

/-! ### Of the stations, a hand-over touches its own -/

section Conclude
variable {s : State} {k : Fin 6} {r : StationRec}

theorem conclude_cnd : (s.conclude k r).cnd = setAt s.cnd k (s.concluded k r) := by
  rw [conclude_eq, (wxRequests_frame _ k r).cnd, setStation_cnd]

theorem conclude_station : (s.conclude k r).cnd[k] = s.concluded k r := by
  rw [conclude_cnd, setAt_get_same]

/-- The class, the snow flag, the wind state and the qualities stand at the end of a hand-over. -/
theorem conclude_keeps {x y : Station} (hx : s.cnd[k] = x) (hy : (s.conclude k r).cnd[k] = y) :
    y.cls = x.cls ∧ y.snow = x.snow ∧ y.wind = x.wind ∧ y.surface = x.surface ∧ y.air = x.air := by
  subst hx hy
  rw [conclude_station]
  exact ⟨rfl, rfl, rfl, rfl, rfl⟩

theorem conclude_other {j : Fin 6} (h : k ≠ j) : (s.conclude k r).cnd[j] = s.cnd[j] := by
  rw [conclude_cnd, setAt_get_other _ _ h]

end Conclude

end Sys2Proof.Machine.State
end

section
/-! ## Anemometers and wind samples (R72 to R74, R79, R86, R87) -/

set_option Elab.async false

namespace Sys2Proof.Machine

theorem windSampleOf_eq (a : Nat) (p : Option Nat) : windSampleOf a p = (match p with
    | none => ⟨0, false⟩
    | some P => ⟨min 750 (roundDiv a P).toNat, decide (750 < (roundDiv a P).toNat)⟩) := by
  cases p with
  | none => rfl
  | some P =>
    simp only [windSampleOf]
    split
    · next h => rw [Nat.min_eq_left h.le, decide_eq_true h]
    · next h => rw [Nat.min_eq_right (not_lt.mp h), decide_eq_false h]

theorem intoRing_ne_nil {α : Type} {n : Nat} (hn : 0 < n) (ring : List α) (x : α) : intoRing n ring x ≠ [] := by
  refine List.ne_nil_of_length_pos ?_
  rw [intoRing_eq, List.length_drop, List.length_append, List.length_singleton]
  omega

theorem windGust_eq {ring : List WindSample} (h : ring ≠ []) :
    windGust ring = some ((ring.map WindSample.speed).foldl max 0) := by
  rw [windGust, if_neg (by simpa using h), List.foldl_map]

theorem windMean_eq {ring : List WindSample} {mean : Nat}
    (h : meanOf (ring.map (fun w => (w.speed : Int))) = some (mean : Int)) : windMean ring = some mean := by
  rw [windMean, h]
  rfl

namespace State

/-! ### One station -/

section Sample
variable {s : State} {k : Fin 6} {r : StationRec} {i : Fin 3}

/-- The ring of station `k` with its next sample (R73, R74). -/
def sampledRing (k : Fin 6) (r : StationRec) (i : Fin 3) (s : State) : List WindSample :=
  intoRing 10 s.mea.wind[k] (windSampleOf r.a s.mea.anemometers[i].period)

/-- Station `k` takes a sample into its ring. -/
def withSample (k : Fin 6) (r : StationRec) (i : Fin 3) (s : State) : State :=
  { s with mea := { s.mea with wind := setAt s.mea.wind k (s.sampledRing k r i) } }

theorem sampledRing_gust : windGust (s.sampledRing k r i) =
    some (((s.sampledRing k r i).map WindSample.speed).foldl max 0) :=
  windGust_eq (intoRing_ne_nil (by decide) _ _)

theorem sampleStation_without (h : (s.station? k.val).bind windInput = none) : sampleStation s k = s := by
  unfold sampleStation
  cases hr : s.station? k.val with
  | none => rfl
  | some r =>
    rw [hr] at h
    simp only [show windInput r = none from h]

theorem sampleStation_with (hr : s.station? k.val = some r) (hi : windInput r = some i) :
    sampleStation s k = (s.withSample k r i).windHandOver k r ((windGust (s.sampledRing k r i)).getD 0)
      ((windMean (s.sampledRing k r i)).getD 0) := by
  simp only [sampleStation, hr, hi]
  rfl

theorem sampleStation_mea (hr : s.station? k.val = some r) (hi : windInput r = some i) :
    (sampleStation s k).mea = { s.mea with wind := setAt s.mea.wind k (s.sampledRing k r i) } := by
  rw [sampleStation_with hr hi, (windHandOver_frame _ _ _ _ _).mea]
  rfl

theorem windHandOver_other {j : Fin 6} (h : k ≠ j) (gust mean : Nat) :
    (s.windHandOver k r gust mean).cnd[j] = s.cnd[j] := by
  unfold windHandOver
  dsimp only
  rw [conclude_other h]
  split
  · exact setAt_get_other _ _ h
  · exact setAt_get_other _ _ h

theorem windHandOver_wind (gust mean : Nat) :
    ((s.windHandOver k r gust mean).cnd[k]).wind = ((s.cnd[k]).windFrom r gust).wind := by
  unfold windHandOver
  dsimp only
  split
  · exact (conclude_keeps (setAt_get_same s.cnd k _) rfl).2.2.1
  · exact (conclude_keeps (setAt_get_same s.cnd k _) rfl).2.2.1

/-- A wind hand-over, with gust and mean of a ring (R74, R86, R87). -/
theorem sampleStation_concludes {ring : List WindSample} {gust mean : Nat} {y : Station} {u : State}
    (hr : s.station? k.val = some r) (hi : windInput r = some i) (hring : ring = s.sampledRing k r i)
    (hgust : gust = (ring.map WindSample.speed).foldl max 0)
    (hmean : meanOf (ring.map (fun x => (x.speed : Int))) = some (mean : Int)) (hy : y = (s.cnd[k]).windFrom r gust)
    (hu : u = (s.withSample k r i).setStation k y) :
    sampleStation s k = State.conclude k r
      (if y.wind = (s.cnd[k]).wind then u else u.record (.windState k.val y.wind gust mean)) := by
  subst hring
  rw [sampleStation_with hr hi, sampledRing_gust, ← hgust, windMean_eq hmean]
  subst hu hy
  rfl

end Sample

/-! ### All stations -/

/-- What the sampling of a station reads and sets: the anemometers, its ring and its record. -/
def windUnits (s : State) : Vector (Vector Anemometer 3 × List WindSample × Station) 6 :=
  Vector.ofFn fun k => (s.mea.anemometers, s.mea.wind[k], s.cnd[k])

theorem windUnits_get (s : State) (k : Fin 6) : s.windUnits[k] = (s.mea.anemometers, s.mea.wind[k], s.cnd[k]) :=
  ofFn_get _ k

/-- A station samples, or stands, with or without a wind input. -/
theorem sampleStation_cases (s : State) (k : Fin 6) : sampleStation s k = s ∨
    ∃ r i, s.station? k.val = some r ∧ windInput r = some i := by
  cases hb : (s.station? k.val).bind windInput with
  | none => exact .inl (sampleStation_without hb)
  | some i =>
    obtain ⟨r, hr, hi⟩ := Option.bind_eq_some_iff.mp hb
    exact .inr ⟨r, i, hr, hi⟩

theorem sampleStation_other (s : State) (i j : Fin 6) (h : i ≠ j) :
    (sampleStation s i).windUnits[j] = s.windUnits[j] := by
  rcases sampleStation_cases s i with he | ⟨r, a, hr, hi⟩
  · rw [he]
  · have hcnd : (sampleStation s i).cnd[j] = s.cnd[j] := by
      rw [sampleStation_with hr hi, windHandOver_other h]
      rfl
    rw [windUnits_get, windUnits_get, sampleStation_mea hr hi, hcnd, setAt_get_other _ _ h]

theorem sampleStation_keeps (s : State) (k : Fin 6) :
    (sampleStation s k).mea = { s.mea with wind := (sampleStation s k).mea.wind } := by
  rcases sampleStation_cases s k with he | ⟨r, a, hr, hi⟩
  · rw [he]
  · rw [sampleStation_mea hr hi]

theorem windSample_keeps (s : State) : s.windSample.mea = { s.mea with wind := s.windSample.mea.wind } := by
  refine List.foldlRecOn (motive := fun t : State => t.mea = { s.mea with wind := t.mea.wind }) _ _ rfl
    fun t ht k _ => ?_
  rw [sampleStation_keeps, ht]

theorem windSample_eq (s : State) : s.windSample = { s with
    mea := { s.mea with wind := s.windSample.mea.wind }, cnd := s.windSample.cnd, ord := s.windSample.ord
    rsv := { s.rsv with dirty := s.windSample.rsv.dirty }, prt := s.windSample.prt } :=
  eq_of_handOver ((windSample_frame s).mono) (Marks.foldl _ _ sampleStation_marks s) (windSample_keeps s)
    (windSample_frame s).signs (windSample_frame s).flc

section WindSample
variable {s : State} {k : Fin 6}

theorem windSample_unit (s : State) (k : Fin 6) : ∃ u, Frame [.mea, .cnd, .ord, .rsv, .prt] s u ∧
    u.windUnits[k] = s.windUnits[k] ∧ s.windSample.windUnits[k] = (sampleStation u k).windUnits[k] :=
  foldl_unit windUnits sampleStation_frame sampleStation_other s k

theorem station?_congr {u : State} (himg : u.img = s.img) (hmap : u.map = s.map) (k : Nat) :
    u.station? k = s.station? k := by
  rw [station?, station?, valid, himg, hmap]

theorem windSample_without (h : (s.station? k.val).bind windInput = none) :
    s.windSample.mea.wind[k] = s.mea.wind[k] ∧ s.windSample.cnd[k] = s.cnd[k] := by
  obtain ⟨u, hu, hk, he⟩ := windSample_unit s k
  rw [sampleStation_without (by rwa [station?_congr hu.img hu.map]), hk, windUnits_get, windUnits_get] at he
  exact Prod.mk.inj (Prod.mk.inj he).2

theorem windSample_with {r : StationRec} {i : Fin 3} (hr : s.station? k.val = some r) (hi : windInput r = some i) :
    s.windSample.mea.wind[k] = s.sampledRing k r i ∧
      (s.windSample.cnd[k]).wind = ((s.cnd[k]).windFrom r ((windGust (s.sampledRing k r i)).getD 0)).wind := by
  obtain ⟨u, hu, hk, he⟩ := windSample_unit s k
  have hru : u.station? k.val = some r := (station?_congr hu.img hu.map _).trans hr
  rw [windUnits_get, windUnits_get] at he hk
  obtain ⟨hanemometers, hunit⟩ := Prod.mk.inj hk
  obtain ⟨hwind, hcnd⟩ := Prod.mk.inj hunit
  have hring : u.sampledRing k r i = s.sampledRing k r i := by rw [sampledRing, sampledRing, hanemometers, hwind]
  obtain ⟨hw, hc⟩ := Prod.mk.inj (Prod.mk.inj he).2
  rw [hw, hc, sampleStation_mea hru hi, sampleStation_with hru hi, windHandOver_wind, hring]
  exact ⟨setAt_get_same .., by rw [← hcnd]; rfl⟩

end WindSample

/-! ### Anemometers (R72) -/

section Edge
variable {s : State} {i : Fin 3} {count high : Nat}

theorem anemometerEdge_glitch (h : high < 50) : s.anemometerEdge i count high = s := if_pos h

theorem anemometerEdge_accepted (h : 50 ≤ high) : s.anemometerEdge i count high = s.setAnemometer i
    ⟨0, true, if (s.mea.anemometers[i]).timing then some (max 1 count) else none⟩ := by
  have hcount : max 1 count = if count = 0 then 1 else count := by
    split <;> omega
  rw [anemometerEdge, if_neg (not_lt.mpr h), hcount]

end Edge

end State

/-- Settles O40: the edges, the sampling of one station, and that of all in ascending order. -/
theorem windIsSampled : Obligations.WindIsSampled := by
  refine ⟨fun s hp => ⟨fun i count high => ⟨fun h => ?_, fun h => ?_⟩,
    fun i => exec_powered hp (i := .anemometerCalm i) rfl, s.windSample,
    exec_powered hp rfl, s.windSample_eq, rfl, fun k r i w hr hi hw => ?_, fun k h => State.windSample_without h⟩,
    fun k s => ⟨State.sampleStation_without, fun r i w ring gust mean y u hr hi hw hring hgust hmean hy hu => ?_⟩⟩
  · rw [exec_powered hp (i := .anemometerEdge i count high) rfl, State.anemometerEdge_glitch h]
  · rw [exec_powered hp (i := .anemometerEdge i count high) rfl, State.anemometerEdge_accepted h]
    rfl
  · obtain rfl : w = windSampleOf r.a s.mea.anemometers[i].period := hw.trans (windSampleOf_eq _ _).symm
    obtain ⟨hwind, hcnd⟩ := State.windSample_with hr hi
    rw [hwind, hcnd, ← intoRing_eq]
    exact ⟨rfl, rfl⟩
  · obtain rfl : w = windSampleOf r.a s.mea.anemometers[i].period := hw.trans (windSampleOf_eq _ _).symm
    rw [← intoRing_eq] at hring
    exact State.sampleStation_concludes hr hi hring hgust hmean hy (by rw [hu, hring]; rfl)

end Sys2Proof.Machine
end

section
/-! ## A completed scan is handed to the stations (R79, R80, R83 to R85) -/

set_option Elab.async false

namespace Sys2Proof.Machine

/-! ### What a FRESH result leaves as it was -/

namespace Station

/-- The qualities and the snow flag of a station, which the class does not depend on. -/
def graded (surface air : Quality) (snow : Bool) (x : Station) : Station :=
  { x with surface := surface, air := air, snow := snow }

section Graded
variable {r : StationRec} {x : Station} (a b : Quality) (c : Bool)

theorem worsen_graded (raw : RawClass) : (x.graded a b c).worsen r raw = (x.worsen r raw).graded a b c := by
  rw [worsen_eq, worsen_eq, apply_ite (graded a b c)]
  rfl

theorem judge_graded (m : Int) : (x.graded a b c).judge r m = (x.judge r m).graded a b c := by
  rw [judge_eq, judge_eq, apply_ite (graded a b c), apply_ite (graded a b c)]
  rfl

theorem fresh_graded (ts : Int) : (x.graded a b c).fresh r ts = (x.fresh r ts).graded a b c := by
  unfold fresh
  dsimp only
  rw [apply_ite (graded a b c), apply_ite (graded a b c), ← worsen_graded, ← judge_graded]
  rfl

end Graded

theorem fresh_keeps (r : StationRec) (ts : Int) (x : Station) :
    (x.fresh r ts).surface = x.surface ∧ (x.fresh r ts).air = x.air ∧ (x.fresh r ts).snow = x.snow := by
  have h : x.fresh r ts = (x.fresh r ts).graded x.surface x.air x.snow := fresh_graded (x := x) _ _ _ ts
  rw [h]
  exact ⟨rfl, rfl, rfl⟩

end Station

theorem Station.classify_keeps (r : StationRec) (q : Quality) (ts : Option Int) (x : Station) :
    (x.classify r q ts).surface = x.surface ∧ (x.classify r q ts).air = x.air ∧
      (x.classify r q ts).snow = x.snow := by
  unfold classify
  split
  · exact fresh_keeps r _ x
  · exact ⟨rfl, rfl, rfl⟩
  · exact ⟨rfl, rfl, rfl⟩

theorem Station.snowFrom_keeps (r : StationRec) (q : Quality) (ta : Option Int) (x : Station) :
    (x.snowFrom r q ta).surface = x.surface ∧ (x.snowFrom r q ta).air = x.air ∧ (x.snowFrom r q ta).cls = x.cls := by
  unfold snowFrom
  split
  · exact ⟨rfl, rfl, rfl⟩
  · exact ⟨rfl, rfl, rfl⟩
  · exact ⟨rfl, rfl, rfl⟩

/-- What record `y` of a station, `x` before the hand-over, takes from its two channels (R79, R83, R85). -/
structure Station.Takes (r : StationRec) (surface air : Chan) (x y : Station) : Prop where
  surfaceQuality : y.surface = surface.quality
  airQuality : y.air = air.quality
  stale : surface.quality = .stale → y.cls = .unknown
  held : surface.quality = .held → y.cls = x.cls
  fresh : ∀ ts, surface.quality = .fresh → meanOf surface.ring = some ts → y.cls = (x.fresh r ts).cls
  snowFresh : ∀ ta, air.quality = .fresh → meanOf air.ring = some ta → y.snow = decide (ta ≤ r.snow)
  snowHeld : air.quality = .held → y.snow = x.snow
  snowStale : air.quality = .stale → y.snow = false

/-! ### One station -/

namespace State
variable {s : State} {k : Fin 6} {r : StationRec}

/-- The record of station `k` with the qualities of its channels, before it is classified (R79). -/
def qualified (k : Fin 6) (s : State) : Station :=
  { s.cnd[k] with surface := (s.surfaceChan k).quality, air := (s.airChan k).quality }

/-- The record of station `k` with its qualities, its class and its snow flag (R80 to R85). -/
def handed (k : Fin 6) (r : StationRec) (s : State) : Station :=
  ((s.qualified k).classify r (s.surfaceChan k).quality (meanOf (s.surfaceChan k).ring)).snowFrom r
    (s.airChan k).quality (meanOf (s.airChan k).ring)

/-- The station quality, when it changes, is recorded (R79). -/
def qualityNoted (k : Fin 6) (surface air : Quality) (s : State) : State :=
  if (s.cnd[k]).surface = surface ∧ (s.cnd[k]).air = air then s else s.record (.stationQuality k.val surface air)

theorem noteQuality_station (surface air : Quality) :
    (s.noteQuality k surface air).cnd[k] = { s.cnd[k] with surface := surface, air := air } := by
  unfold noteQuality
  dsimp only
  split
  · next h =>
    obtain ⟨rfl, rfl⟩ := h
    rfl
  · exact setAt_get_same s.cnd k _

theorem noteQuality_setStation (surface air : Quality) (x : Station) :
    (s.noteQuality k surface air).setStation k x = (s.qualityNoted k surface air).setStation k x := by
  unfold noteQuality qualityNoted
  dsimp only
  split
  · rfl
  · simp [setStation, record]

/-- A changed class is recorded, and marks RSV dirty (R84). -/
theorem noteClass_setStation {z : Station} {old : SurfaceClass} {u : State} :
    (u.setStation k z).noteClass k old z.margin = if z.cls = old then u.setStation k z
      else ({ u.setStation k z with rsv := { u.rsv with dirty := true } } : State).record
        (.stationClass k.val old z.cls (if z.cls = .unknown then none else z.margin)) := by
  have hz : (u.setStation k z).cnd[k] = z := setAt_get_same u.cnd k z
  rw [noteClass, hz]
  rfl

theorem handStation_unused (h : s.station? k.val = none) : handStation s k = s := by
  simp only [handStation, h]

/-- Station `k` of a hand-over before its requests (R79). -/
def handing (k : Fin 6) (r : StationRec) (s : State) : State :=
  ((s.qualityNoted k (s.surfaceChan k).quality (s.airChan k).quality).setStation k (s.handed k r)).noteClass k
    (s.cnd[k]).cls (s.handed k r).margin

theorem handStation_used (hr : s.station? k.val = some r) : handStation s k = (s.handing k r).conclude k r := by
  simp only [handStation, hr]
  unfold scanHandOver
  dsimp only
  rw [noteQuality_station, noteQuality_setStation, setStation_cnd, setAt_get_same]
  rfl

theorem handing_cnd : (s.handing k r).cnd = setAt s.cnd k (s.handed k r) := by
  have h : (s.qualityNoted k (s.surfaceChan k).quality (s.airChan k).quality).cnd = s.cnd := by
    unfold qualityNoted
    split
    · rfl
    · rfl
  rw [handing, (noteClass_frame _ _ _ _).cnd, setStation_cnd, h]

theorem handStation_other (s : State) (i j : Fin 6) (h : i ≠ j) : (handStation s i).cnd[j] = s.cnd[j] := by
  cases hr : s.station? i.val with
  | none => rw [handStation_unused hr]
  | some r => rw [handStation_used hr, conclude_other h, handing_cnd, setAt_get_other _ _ h]

theorem handed_takes (k : Fin 6) (r : StationRec) (s : State) :
    Station.Takes r (s.surfaceChan k) (s.airChan k) s.cnd[k] (s.handed k r) := by
  unfold handed
  set q := s.qualified k with hq
  set y := q.classify r (s.surfaceChan k).quality (meanOf (s.surfaceChan k).ring) with hy
  obtain ⟨hsurface, hair, hsnow⟩ := Station.classify_keeps r (s.surfaceChan k).quality (meanOf (s.surfaceChan k).ring) q
  obtain ⟨hsurface', hair', hcls⟩ := Station.snowFrom_keeps r (s.airChan k).quality (meanOf (s.airChan k).ring) y
  refine ⟨hsurface'.trans hsurface, hair'.trans hair, fun h => ?_, fun h => ?_, fun ts h hm => ?_, fun ta h hm => ?_,
    fun h => ?_, fun h => ?_⟩
  · rw [hcls, hy, h]
    rfl
  · rw [hcls, hy, h]
    rfl
  · rw [hcls, hy, h, hm]
    have hfresh := congrArg Station.cls (Station.fresh_graded (r := r) (x := s.cnd[k]) (s.surfaceChan k).quality
      (s.airChan k).quality s.cnd[k].snow ts)
    exact hfresh
  · rw [h, hm]
    rfl
  · rw [h]
    exact hsnow
  · rw [h]
    rfl

theorem handStation_takes (hr : s.station? k.val = some r) :
    Station.Takes r (s.surfaceChan k) (s.airChan k) s.cnd[k] (handStation s k).cnd[k] := by
  have hx : (s.handing k r).cnd[k] = s.handed k r := by rw [handing_cnd, setAt_get_same]
  obtain ⟨hcls, hsnow, -, hsurface, hair⟩ := conclude_keeps (r := r) hx rfl
  rw [← handStation_used hr] at hcls hsnow hsurface hair
  have h := handed_takes k r s
  exact ⟨hsurface.trans h.surfaceQuality, hair.trans h.airQuality, fun hq => hcls.trans (h.stale hq),
    fun hq => hcls.trans (h.held hq), fun ts hq hm => hcls.trans (h.fresh ts hq hm),
    fun ta hq hm => hsnow.trans (h.snowFresh ta hq hm),
    fun hq => hsnow.trans (h.snowHeld hq), fun hq => hsnow.trans (h.snowStale hq)⟩

/-! ### All stations -/

theorem handStations_takes (hr : s.station? k.val = some r) : Station.Takes r (s.surfaceChan k) (s.airChan k) s.cnd[k]
    ((List.finRange 6).foldl handStation s).cnd[k] := by
  obtain ⟨u, hu, hk, he⟩ := foldl_unit State.cnd handStation_frame handStation_other s k
  have hru : u.station? k.val = some r := (station?_congr hu.img hu.map _).trans hr
  have h := handStation_takes hru
  rw [surfaceChan, airChan, hu.mea, hk] at h
  rw [he]
  exact h

end State

end Sys2Proof.Machine
end

section
/-! ## A completed scan is handed to the signs (R138, R148) -/

set_option Elab.async false

namespace Sys2Proof.Machine

/-! ### A brightness job on a line -/

/-- The jobs of sign `j` that wait on a line. -/
def Line.jobsOf (x : Line) (j : Fin 24) : List Job := x.queue.filter (fun y => decide (y.sign = j))

/-- A job of sign `i` takes level `n`. -/
def Job.levelled (i : Fin 24) (n : Nat) (y : Job) : Job := if y.sign = i then { y with level := n } else y

/-- A service queue to which level `n` of sign `i` goes: into the sign's waiting job, or as a brightness job at the tail
(R148). -/
def relevelled (i : Fin 24) (n : Nat) (q : List Job) : List Job :=
  if i ∈ q.map Job.sign then q.map (Job.levelled i n) else q ++ [⟨i, .bright, n⟩]

/-- The same of the jobs of that sign alone. -/
def ownRelevelled (i : Fin 24) (n : Nat) (own : List Job) : List Job :=
  if own = [] then [⟨i, .bright, n⟩] else own.map (fun y => { y with level := n })

theorem place_bright (x : Line) (i : Fin 24) (n : Nat) :
    x.place ⟨i, .bright, n⟩ false = { x with queue := relevelled i n x.queue } := by
  have hany : x.queue.any (fun j => j.sign == i) = true ↔ i ∈ x.queue.map Job.sign := by
    simp
  unfold Line.place relevelled
  by_cases h : i ∈ x.queue.map Job.sign
  · rw [if_pos (hany.mpr h), if_pos h]
    rfl
  · rw [if_neg (mt hany.mp h), if_neg h]

section Relevelled
variable {i j : Fin 24} {n : Nat} {q : List Job}

theorem Job.levelled_sign (y : Job) : (y.levelled i n).sign = y.sign := by
  unfold levelled
  split
  · rfl
  · rfl

theorem relevelled_signs : q.map Job.sign <+: (relevelled i n q).map Job.sign := by
  unfold relevelled
  split
  · rw [List.map_map, show Job.sign ∘ Job.levelled i n = Job.sign from funext Job.levelled_sign]
  · rw [List.map_append]
    exact List.prefix_append ..

theorem filter_levelled : (q.map (Job.levelled i n)).filter (fun y => decide (y.sign = j)) =
    (q.filter (fun y => decide (y.sign = j))).map (Job.levelled i n) := by
  have hsign : (fun y => decide (y.sign = j)) ∘ Job.levelled i n = fun y => decide (y.sign = j) :=
    funext fun y => by rw [Function.comp, Job.levelled_sign]
  rw [List.filter_map, hsign]

/-- The jobs of the other signs stand. -/
theorem relevelled_other (h : i ≠ j) :
    (relevelled i n q).filter (fun y => decide (y.sign = j)) = q.filter (fun y => decide (y.sign = j)) := by
  unfold relevelled
  split
  · rw [filter_levelled]
    refine (List.map_congr_left fun y hy => ?_).trans (List.map_id _)
    have hj : y.sign = j := of_decide_eq_true (List.mem_filter.mp hy).2
    exact if_neg fun hi => h (hi.symm.trans hj)
  · rw [List.filter_append, List.filter_cons_of_neg (by simpa using h), List.filter_nil, List.append_nil]

theorem relevelled_same : (relevelled i n q).filter (fun y => decide (y.sign = i)) =
    ownRelevelled i n (q.filter (fun y => decide (y.sign = i))) := by
  have hnone : q.filter (fun y => decide (y.sign = i)) = [] ↔ i ∉ q.map Job.sign := by
    simp [List.filter_eq_nil_iff]
  unfold relevelled ownRelevelled
  by_cases h : i ∈ q.map Job.sign
  · rw [if_pos h, if_neg fun he => hnone.mp he h, filter_levelled]
    exact List.map_congr_left fun y hy => if_pos (of_decide_eq_true (List.mem_filter.mp hy).2)
  · rw [if_neg h, if_pos (hnone.mpr h), List.filter_append, hnone.mpr h, List.nil_append,
      List.filter_cons_of_pos (by simp), List.filter_nil]

end Relevelled

namespace State

/-! ### One sign -/

section Light
variable {s : State} {i : Fin 24} {r : SignRec}

/-- The brightness level that the light value gives a sign (R138). -/
def lightLevel (r : SignRec) (s : State) : Nat := levelOf s.img.thresholds (s.lightOf r.light)

/-- Sign `i` with its light value and level. -/
def lit (i : Fin 24) (r : SignRec) (s : State) : Sign :=
  { s.signs[i] with light := s.lightOf r.light, brightness := s.lightLevel r }

theorem lightToSign_unused (h : s.sign? i.val = none) : lightToSign s i = s := by
  simp only [lightToSign, h]

theorem lightToSign_used (hr : s.sign? i.val = some r) : lightToSign s i =
    if s.lightLevel r = (s.signs[i]).brightness then s.setSign i (s.lit i r)
    else (s.setSign i (s.lit i r)).placeJob r.lineIndex ⟨i, .bright, s.lightLevel r⟩ false := by
  simp only [lightToSign, hr]
  rfl

theorem lit_link : ((s.setSign i (s.lit i r)).signs[i]).link = (s.signs[i]).link := by
  rw [setSign_signs, setAt_get_same]
  rfl

/-- The level is as before, or the sign OFFLINE: no job (R138, R148). -/
theorem lightToSign_stays (hr : s.sign? i.val = some r)
    (h : s.lightLevel r = (s.signs[i]).brightness ∨ (s.signs[i]).link = .offline) :
    lightToSign s i = s.setSign i (s.lit i r) := by
  rw [lightToSign_used hr]
  by_cases hn : s.lightLevel r = (s.signs[i]).brightness
  · exact if_pos hn
  · exact (if_neg hn).trans (if_pos (lit_link.trans (h.resolve_left hn)))

theorem lightToSign_relights (hr : s.sign? i.val = some r)
    (h : ¬(s.lightLevel r = (s.signs[i]).brightness ∨ (s.signs[i]).link = .offline)) :
    lightToSign s i = (s.setSign i (s.lit i r)).setLine r.lineIndex
      { s.flc[r.lineIndex] with queue := relevelled i (s.lightLevel r) (s.flc[r.lineIndex]).queue } := by
  obtain ⟨hn, hl⟩ := not_or.mp h
  rw [lightToSign_used hr, if_neg hn, ← place_bright]
  exact if_neg (fun ho => hl (lit_link.symm.trans ho))

theorem lightToSign_signs (hr : s.sign? i.val = some r) : (lightToSign s i).signs = setAt s.signs i (s.lit i r) := by
  by_cases h : s.lightLevel r = (s.signs[i]).brightness ∨ (s.signs[i]).link = .offline
  · rw [lightToSign_stays hr h, setSign_signs]
  · rw [lightToSign_relights hr h, setLine_signs, setSign_signs]

/-- The lines, where the level of a sign in use reaches its own. -/
theorem lightToSign_flc (hr : s.sign? i.val = some r) : (lightToSign s i).flc =
    if s.lightLevel r = (s.signs[i]).brightness ∨ (s.signs[i]).link = .offline then s.flc
    else setAt s.flc r.lineIndex
      { s.flc[r.lineIndex] with queue := relevelled i (s.lightLevel r) (s.flc[r.lineIndex]).queue } := by
  split
  · next h => rw [lightToSign_stays hr h, setSign_flc]
  · next h => rw [lightToSign_relights hr h, setLine_flc, setSign_flc]

end Light

/-! ### All signs -/

/-- What a light value changes of a sign: its record, and its jobs on the lines. -/
def lightUnits (s : State) : Vector (Sign × (Fin 2 → List Job)) 24 :=
  Vector.ofFn fun j => (s.signs[j], fun l => (s.flc[l]).jobsOf j)

theorem lightUnits_get (s : State) (j : Fin 24) : s.lightUnits[j] = (s.signs[j], fun l => (s.flc[l]).jobsOf j) :=
  ofFn_get _ j

/-- The jobs of sign `j` after the light value has reached sign `i`. -/
theorem lightToSign_jobs {s : State} {i : Fin 24} {r : SignRec} (hr : s.sign? i.val = some r) (l : Fin 2) (j : Fin 24) :
    ((lightToSign s i).flc[l]).jobsOf j =
      if (s.lightLevel r = (s.signs[i]).brightness ∨ (s.signs[i]).link = .offline) ∨ l ≠ r.lineIndex ∨ i ≠ j then
        (s.flc[l]).jobsOf j
      else ownRelevelled i (s.lightLevel r) ((s.flc[l]).jobsOf j) := by
  rw [lightToSign_flc hr]
  by_cases h : s.lightLevel r = (s.signs[i]).brightness ∨ (s.signs[i]).link = .offline
  · rw [if_pos h, if_pos (.inl h)]
  rw [if_neg h]
  by_cases hl : l = r.lineIndex
  · subst hl
    rw [setAt_get_same]
    by_cases hj : i = j
    · subst hj
      rw [if_neg fun hc => hc.elim h fun ho => ho.elim (· rfl) (· rfl)]
      exact relevelled_same
    · rw [if_pos (.inr (.inr hj))]
      exact relevelled_other hj
  · rw [setAt_get_other _ _ (Ne.symm hl), if_pos (.inr (.inl hl))]

theorem lightToSign_other (s : State) (i j : Fin 24) (h : i ≠ j) :
    (lightToSign s i).lightUnits[j] = s.lightUnits[j] := by
  cases hr : s.sign? i.val with
  | none => rw [lightToSign_unused hr]
  | some r =>
    rw [lightUnits_get, lightUnits_get, lightToSign_signs hr, setAt_get_other _ _ h]
    refine congrArg (Prod.mk s.signs[j]) (funext fun l => ?_)
    rw [lightToSign_jobs hr, if_pos (.inr (.inr h))]

section All
variable {s : State} {j : Fin 24} {r : SignRec}

theorem lightToSigns_unit (s : State) (j : Fin 24) : ∃ u, Frame [.signs, .flc] s u ∧
    u.lightUnits[j] = s.lightUnits[j] ∧ s.lightToSigns.lightUnits[j] = (lightToSign u j).lightUnits[j] :=
  foldl_unit lightUnits lightToSign_frame lightToSign_other s j

theorem sign?_congr {u : State} (himg : u.img = s.img) (hmap : u.map = s.map) (i : Nat) : u.sign? i = s.sign? i := by
  rw [sign?, sign?, valid, himg, hmap]

theorem lightOf_congr {u : State} (h : u.mea = s.mea) (c : Nat) : u.lightOf c = s.lightOf c := by
  rw [lightOf, lightOf, h]

theorem lightLevel_congr {u : State} (himg : u.img = s.img) (hmea : u.mea = s.mea) :
    u.lightLevel r = s.lightLevel r := by
  rw [lightLevel, lightLevel, lightOf_congr hmea, himg]

theorem lightToSigns_unused (h : s.sign? j.val = none) :
    s.lightToSigns.signs[j] = s.signs[j] ∧ ∀ l : Fin 2, (s.lightToSigns.flc[l]).jobsOf j = (s.flc[l]).jobsOf j := by
  obtain ⟨u, hu, hj, he⟩ := lightToSigns_unit s j
  rw [lightToSign_unused ((sign?_congr hu.img hu.map _).trans h), hj, lightUnits_get, lightUnits_get] at he
  obtain ⟨hsign, hjobs⟩ := Prod.mk.inj he
  exact ⟨hsign, congrFun hjobs⟩

theorem lightToSigns_used (hr : s.sign? j.val = some r) : s.lightToSigns.signs[j] = s.lit j r ∧
    (∀ l : Fin 2, l ≠ r.lineIndex → (s.lightToSigns.flc[l]).jobsOf j = (s.flc[l]).jobsOf j) ∧
    (s.lightToSigns.flc[r.lineIndex]).jobsOf j =
      if s.lightLevel r = (s.signs[j]).brightness ∨ (s.signs[j]).link = .offline then (s.flc[r.lineIndex]).jobsOf j
      else ownRelevelled j (s.lightLevel r) ((s.flc[r.lineIndex]).jobsOf j) := by
  obtain ⟨u, hu, hj, he⟩ := lightToSigns_unit s j
  have hru : u.sign? j.val = some r := (sign?_congr hu.img hu.map _).trans hr
  rw [lightUnits_get, lightUnits_get] at he hj
  obtain ⟨hsign, hjobs⟩ := Prod.mk.inj hj
  obtain ⟨hsign', hjobs'⟩ := Prod.mk.inj he
  have hlevel : u.lightLevel r = s.lightLevel r := lightLevel_congr hu.img hu.mea
  have hall (l : Fin 2) : (s.lightToSigns.flc[l]).jobsOf j =
      if (s.lightLevel r = (s.signs[j]).brightness ∨ (s.signs[j]).link = .offline) ∨ l ≠ r.lineIndex ∨ j ≠ j then
        (s.flc[l]).jobsOf j
      else ownRelevelled j (s.lightLevel r) ((s.flc[l]).jobsOf j) := by
    have hl := congrFun hjobs' l
    have hown := congrFun hjobs l
    rw [hl, lightToSign_jobs hru, hlevel, hsign, hown]
  refine ⟨?_, fun l hl => (hall l).trans (if_pos (.inr (.inl hl))), ?_⟩
  · rw [hsign', lightToSign_signs hru, setAt_get_same, lit, lit, hlevel, lightOf_congr hu.mea, hsign]
  · simpa only [ne_eq, not_true_eq_false, or_false] using hall r.lineIndex

end All

/-- Of each line only the queue changes, and the signs that wait keep their places. -/
def QueuesGrow (s t : State) : Prop := ∀ l : Fin 2, t.flc[l] = { s.flc[l] with queue := (t.flc[l]).queue } ∧
  (s.flc[l]).queue.map Job.sign <+: (t.flc[l]).queue.map Job.sign

namespace QueuesGrow

theorem of_eq {s t : State} (h : t.flc = s.flc) : QueuesGrow s t := fun l => by
  rw [h]
  exact ⟨rfl, List.prefix_rfl⟩

theorem trans {s t u : State} (h : QueuesGrow s t) (k : QueuesGrow t u) : QueuesGrow s u := fun l => by
  obtain ⟨hline, hqueue⟩ := h l
  obtain ⟨kline, kqueue⟩ := k l
  refine ⟨?_, hqueue.trans kqueue⟩
  rw [kline, hline]

end QueuesGrow

theorem lightToSign_grows (s : State) (i : Fin 24) : QueuesGrow s (lightToSign s i) := by
  cases hr : s.sign? i.val with
  | none => exact .of_eq (by rw [lightToSign_unused hr])
  | some r =>
    have hflc := lightToSign_flc hr
    split at hflc
    · exact .of_eq hflc
    intro l
    rw [hflc, setAt_get]
    split
    · next hl =>
      subst hl
      exact ⟨rfl, relevelled_signs⟩
    · exact ⟨rfl, List.prefix_rfl⟩

theorem lightToSigns_grows (s : State) : QueuesGrow s s.lightToSigns :=
  List.foldlRecOn (motive := QueuesGrow s) _ _ (.of_eq rfl) fun t ht i _ => ht.trans (lightToSign_grows t i)

end State

end Sys2Proof.Machine
end

section
/-! ## A completed scan is published (R59, R61, R65, R79, R138) -/

set_option Elab.async false

namespace Sys2Proof.Machine

/-! ### The channels (R59, R61) -/

theorem nextMiss_eq (n : Nat) : nextMiss n = min 3 (n + 1) := by
  unfold nextMiss
  split <;> omega

theorem missQuality_eq (ring : List Int) (m : Nat) :
    missQuality ring m = if ring = [] ∨ m = 3 then .stale else .held := by
  simp only [missQuality, List.isEmpty_iff]

section Publish
variable {n : Scan} {c : Fin 16}

theorem publish_reference : n.publish[(0 : Fin 16)] = n.work[(0 : Fin 16)] := ofFn_get _ (0 : Fin 16)

theorem publish_channel (h0 : c ≠ 0) :
    n.publish[c] = (n.work[c]).judge (decide (c.val ≤ 1) || (n.copy[c]).enable) (n.got.contains c) :=
  (ofFn_get _ c).trans (if_neg h0)

theorem publish_got (h0 : c ≠ 0) (h : c ∈ n.got) : n.publish[c] = { n.work[c] with quality := .fresh, miss := 0 } := by
  rw [publish_channel h0, List.contains_iff_mem.mpr h]
  rfl

/-- A channel of the scan without a result (R61). -/
theorem publish_missed (h0 : c ≠ 0) (h : c ∉ n.got) (he : c.val = 1 ∨ (n.copy[c]).enable = true) {m : Nat}
    (hm : m = min 3 ((n.work[c]).miss + 1)) : n.publish[c] = { n.work[c] with
      quality := if (n.work[c]).ring = [] ∨ m = 3 then .stale else .held, miss := m } := by
  have hon : (decide (c.val ≤ 1) || (n.copy[c]).enable) = true := by
    rw [Bool.or_eq_true, decide_eq_true_iff]
    exact he.imp_left (·.le)
  rw [publish_channel h0, hon, List.contains_eq_mem, decide_eq_false h, ← missQuality_eq, hm, ← nextMiss_eq]
  rfl

theorem publish_disabled (h0 : c ≠ 0) (h : c ∉ n.got) (h1 : c.val ≠ 1) (he : (n.copy[c]).enable = false) :
    n.publish[c] = { n.work[c] with quality := .stale, miss := 3 } := by
  have hoff : (decide (c.val ≤ 1) || (n.copy[c]).enable) = false := by
    have hv : c.val ≠ 0 := fun e => h0 (Fin.ext e)
    rw [he, Bool.or_false, decide_eq_false (by omega)]
  rw [publish_channel h0, hoff, List.contains_eq_mem, decide_eq_false h]
  rfl

end Publish

/-! ### The light values (R138) -/

namespace State

section Light
variable {s : State} {r : SignRec} {v : Option Int} {n : Nat}

theorem lightOf_eq {light : Nat} (h : ∀ c : Fin 16, c.val = light → v = meanOf (s.mea.chans[c]).ring)
    (hnone : 16 ≤ light → v = none) : s.lightOf light = v := by
  by_cases hl : light < 16
  · rw [h ⟨light, hl⟩ rfl, lightOf, finOf, dif_pos hl]
    rfl
  · rw [hnone (Nat.le_of_not_lt hl), lightOf, finOf, dif_neg hl]
    rfl

theorem lightLevel_eq (hn : n = (match v with
    | none => 16
    | some m => 1 + (s.img.thresholds.filter (fun x => decide ((x : Int) ≤ m))).length))
    (hv : s.lightOf r.light = v) : s.lightLevel r = n := by
  rw [hn, lightLevel, hv]
  cases v <;> rfl

theorem lit_eq {i : Fin 24} (hv : s.lightOf r.light = v) (hn : s.lightLevel r = n) :
    s.lit i r = { s.signs[i] with light := v, brightness := n } := by
  rw [lit, hv, hn]

end Light

/-! ### The publication and its hand-over -/

/-- MEA publishes scan `n` (R59, R60). -/
def published (n : Scan) (s : State) : State := { s with mea := s.mea.complete n }

/-- The device after the hand-over to the stations and before that to the signs. -/
def stationsHanded (s : State) : State := (List.finRange 6).foldl handStation s

section Completion
variable {s : State} {n n' : Scan}

theorem conversionEnd_completes {count : Nat} {ovf : Bool} (hn : s.mea.scan = some n)
    (h' : n' = n.convert s.img count ovf) (h : n'.todo = []) :
    s.conversionEnd count ovf = (s.published n').handOver := by
  subst h'
  simp only [conversionEnd, hn, h, List.isEmpty_nil, if_true]
  rfl

theorem handOver_mea (s : State) : s.handOver.mea = s.mea := (handOver_frame s).mea

theorem handOver_takes {k : Fin 6} {r : StationRec} (hr : s.station? k.val = some r) :
    Station.Takes r (s.handOver.surfaceChan k) (s.handOver.airChan k) s.cnd[k] s.handOver.cnd[k] := by
  rw [surfaceChan, airChan, handOver_mea, handOver, (lightToSigns_frame _).cnd]
  exact handStations_takes hr

theorem handOver_marks (s : State) : Marks s s.handOver :=
  (Marks.foldl _ _ handStation_marks s).step (lightToSigns_frame _)

theorem stationsHanded_frame (s : State) (n : Scan) :
    Frame [.mea, .cnd, .ord, .rsv, .prt] s (s.published n).stationsHanded :=
  Frame.step (Frame.foldl _ _ handStation_frame _) (Frame.with_mea (Frame.refl _ s))

/-- A sign that is not in use, and its jobs, stand. -/
theorem publication_unused {j : Fin 24} (hj : s.sign? j.val = none) :
    (s.published n).handOver.signs[j] = s.signs[j] ∧
      ∀ l : Fin 2, ((s.published n).handOver.flc[l]).jobsOf j = (s.flc[l]).jobsOf j := by
  have hw := stationsHanded_frame s n
  have h := lightToSigns_unused ((sign?_congr hw.img hw.map _).trans hj)
  rwa [hw.signs, hw.flc] at h

/-- A sign in use takes its light value and its level, and its line the level in a job (R138, R148). -/
theorem publication_used {j : Fin 24} {r : SignRec} {v : Option Int} {m : Nat} (hr : s.sign? j.val = some r)
    (hv : (s.published n).handOver.lightOf r.light = v) (hm : (s.published n).handOver.lightLevel r = m) :
    (s.published n).handOver.signs[j] = { s.signs[j] with light := v, brightness := m } ∧
      (∀ l : Fin 2, l ≠ r.lineIndex → ((s.published n).handOver.flc[l]).jobsOf j = (s.flc[l]).jobsOf j) ∧
      ((s.published n).handOver.flc[r.lineIndex]).jobsOf j =
        if m = (s.signs[j]).brightness ∨ (s.signs[j]).link = .offline then (s.flc[r.lineIndex]).jobsOf j
        else ownRelevelled j m ((s.flc[r.lineIndex]).jobsOf j) := by
  have hw := stationsHanded_frame s n
  have hlit := lightToSigns_frame (s.published n).stationsHanded
  have hlight := (lightOf_congr hlit.mea _).symm.trans hv
  have hlevel := (lightLevel_congr hlit.img hlit.mea).symm.trans hm
  have h := lightToSigns_used ((sign?_congr hw.img hw.map _).trans hr)
  rwa [lit_eq hlight hlevel, hlevel, hw.signs, hw.flc] at h

theorem publication_grows : QueuesGrow s (s.published n).handOver :=
  (QueuesGrow.of_eq (stationsHanded_frame s n).flc).trans (lightToSigns_grows _)

theorem eq_of_scan_publication (s : State) (n : Scan) {t : State} (ht : t = (s.published n).handOver) :
    t = { s with mea := t.mea, cnd := t.cnd, ord := t.ord, rsv := { s.rsv with dirty := t.rsv.dirty }, prt := t.prt
                 signs := t.signs, flc := t.flc } := by
  have hp : Frame [.mea] s (s.published n) := Frame.with_mea (Frame.refl _ s)
  have hm : Marks s t := by
    rw [ht]
    exact ((Marks.refl s).step hp).trans (handOver_marks _)
  refine eq_of_handOver ?_ hm rfl rfl rfl
  rw [ht]
  exact Frame.step (handOver_frame _) hp.mono

end Completion

end State

/-- Settles O39: the publication, and its hand-over station by station and then sign by sign. -/
theorem scanCompletionIsPublished : Obligations.ScanCompletionIsPublished := by
  refine ⟨fun s n n' i count ovf hp hn hi h' hdone => ?_, fun s => rfl,
    fun j s => ⟨State.lightToSign_unused, fun r v n u hr hv hnone hn hu => ?_⟩,
    fun k s => ⟨State.handStation_unused, fun r surface air x y z u v hr hs ha hx hy hz hu hv => ?_⟩⟩
  · refine ⟨(s.published n').handOver, ?_, State.eq_of_scan_publication s n' rfl, ?_, ?_, ?_, fun c h0 => ⟨fun hg => ?_,
      fun hg he m hm => ?_, fun hg h1 he => ?_⟩, fun jobs hjobs j => ⟨fun hj => ?_, fun r v n hr hv hnone hn => ?_⟩,
      fun l => ?_, fun k r hr => ?_⟩
    · rw [exec_conversion hp hi, State.conversionEnd_completes hn h' hdone]
    · rw [State.handOver_mea]
      rfl
    · rw [State.handOver_mea]
      rfl
    · rw [State.handOver_mea]
      exact publish_reference
    · rw [State.handOver_mea]
      exact publish_got h0 hg
    · rw [State.handOver_mea]
      exact publish_missed h0 hg he hm
    · rw [State.handOver_mea]
      exact publish_disabled h0 hg h1 he
    · obtain rfl : jobs = Line.jobsOf := funext fun x => funext (hjobs x)
      exact State.publication_unused hj
    · obtain rfl : jobs = Line.jobsOf := funext fun x => funext (hjobs x)
      have himg : (s.published n').handOver.img = s.img := (State.handOver_frame _).img
      have hlight := State.lightOf_eq hv hnone
      rw [← himg] at hn
      exact State.publication_used hr hlight (State.lightLevel_eq hn hlight)
    · exact State.publication_grows l
    · obtain ⟨hsurface, hair, hstale, hheld, hfresh, hsnow, hsnowHeld, hsnowStale⟩ :=
        State.handOver_takes (s := s.published n') hr
      exact ⟨hsurface, hair, hstale, hheld, hfresh, hsnow, hsnowHeld, hsnowStale⟩
  · have hlight := State.lightOf_eq hv hnone
    have hlevel := State.lightLevel_eq hn hlight
    obtain rfl : u = s.setSign j (s.lit j r) := by rw [hu, State.lit_eq hlight hlevel]
    subst hlevel
    refine ⟨State.lightToSign_stays hr, fun hb hl => ?_⟩
    exact State.lightToSign_relights hr (not_or.mpr ⟨hb, hl⟩)
  · subst hs ha
    obtain rfl : x = s.qualified k := hx
    have hy : y = (s.qualified k).classify r (s.surfaceChan k).quality (meanOf (s.surfaceChan k).ring) := hy
    obtain rfl : z = s.handed k r := by
      refine hz.trans ?_
      rw [hy]
      rfl
    rw [State.handStation_used hr, State.handing, State.noteClass_setStation, hv, hu]
    rfl

end Sys2Proof.Machine
end

section
/-! ## The expiry of an improvement timer (R79, R82, R84, R92) -/

set_option Elab.async false

namespace Sys2Proof.Machine

/-! ### The requests of a hand-over leave RSV dirty (R17, R44) -/

/-- `t` is dirty where `s` is. -/
def KeepsDirty (s t : State) : Prop := s.rsv.dirty = true → t.rsv.dirty = true

namespace KeepsDirty

theorem refl (s : State) : KeepsDirty s s := id

theorem trans {s t u : State} (h : KeepsDirty s t) (k : KeepsDirty t u) : KeepsDirty s u := k ∘ h

/-- An operation that marks RSV dirty. -/
theorem of_markDirty (s t : State) : KeepsDirty s t.markDirty := fun _ => rfl

end KeepsDirty

namespace State

theorem wxRaise_keepsDirty (s : State) (k : Fin 6) (c : Content) : KeepsDirty s (wxRaise k c s) := by
  unfold wxRaise
  split
  · split
    · exact .refl s
    · exact .of_markDirty s _
  split
  · exact .refl s
  split
  · exact .of_markDirty s _
  · exact .refl s

theorem wxRetire_keepsDirty (s : State) (k : Fin 6) (kind : Kind) : KeepsDirty s (wxRetire k kind s) := by
  unfold wxRetire retire
  split
  · split
    · exact .refl s
    · exact .of_markDirty s _
  · exact .refl s

theorem wxRequest_keepsDirty (s : State) (k : Fin 6) (kind : Kind) (wanted : Option Content) :
    KeepsDirty s (s.wxRequest k kind wanted) := by
  unfold wxRequest
  split
  · split
    · exact .refl s
    · exact wxRaise_keepsDirty s k _
  · exact wxRetire_keepsDirty s k kind

theorem conclude_keepsDirty (s : State) (k : Fin 6) (r : StationRec) : KeepsDirty s (s.conclude k r) := by
  rw [conclude_eq, wxRequests]
  split
  · exact ((wxRequest_keepsDirty (s.setStation k _) k _ _).trans (wxRequest_keepsDirty _ k _ _)).trans
      (wxRequest_keepsDirty _ k _ _)
  · exact .refl s

end State

/-! ### The improvement (R82, R84) -/

/-- An improvement that changes the class leads to a known one, so its event carries a margin (R82, R84). -/
theorem Station.improve_known {x : Station} (h : x.improve.cls ≠ x.cls) : x.improve.cls ≠ .unknown := by
  unfold improve improved at h ⊢
  cases hc : x.cls with
  | clear => simp
  | near => simp
  | freeze => cases x.clearThrough <;> simp
  | unknown => simp [hc] at h

namespace State

section Expiry
variable {s : State} {k : Fin 6} {r : StationRec}

/-- Station `k` with the class that its improvement reaches, before its requests (R82, R84). -/
def improving (k : Fin 6) (s : State) : State :=
  (s.setStation k s.cnd[k].improve).noteClass k s.cnd[k].cls s.cnd[k].margin

theorem improvementExpiry_idle (h : s.station? k.val = none ∨ (s.cnd[k]).timer = none) :
    s.improvementExpiry k = s := by
  unfold improvementExpiry
  split
  · rfl
  · next r hr =>
    have ht : (s.cnd[k]).timer = none := h.resolve_left (by rw [hr]; exact Option.some_ne_none r)
    simp only [ht, Option.isSome_none, Bool.false_eq_true, if_false]

theorem improvementExpiry_concludes {n : Nat} (hr : s.station? k.val = some r) (ht : (s.cnd[k]).timer = some n) :
    s.improvementExpiry k = (s.improving k).conclude k r := by
  simp only [improvementExpiry, hr, ht, Option.isSome_some, if_true]
  rfl

/-- A changed class is recorded with the margin of the last FRESH result, and marks RSV dirty (R84). -/
theorem improving_eq : s.improving k = if (s.cnd[k]).improve.cls = (s.cnd[k]).cls then s.setStation k (s.cnd[k]).improve
    else ({ s.setStation k (s.cnd[k]).improve with rsv := { s.rsv with dirty := true } } : State).record
      (.stationClass k.val (s.cnd[k]).cls (s.cnd[k]).improve.cls (s.cnd[k]).margin) := by
  have hnote := noteClass_setStation (k := k) (z := (s.cnd[k]).improve) (old := (s.cnd[k]).cls) (u := s)
  refine hnote.trans ?_
  by_cases h : (s.cnd[k]).improve.cls = (s.cnd[k]).cls
  · rw [if_pos h, if_pos h]
  · rw [if_neg h, if_neg h, if_neg (Station.improve_known h)]
    rfl

theorem improving_cnd : (s.improving k).cnd = setAt s.cnd k (s.cnd[k]).improve := by
  rw [improving, (noteClass_frame _ _ _ _).cnd, setStation_cnd]

theorem improving_dirty (h : (s.cnd[k]).improve.cls ≠ (s.cnd[k]).cls) : (s.improving k).rsv.dirty = true := by
  rw [improving_eq, if_neg h]
  rfl

/-- At the expiry the timer stops, and the class is the better one (R82). -/
theorem improvementExpiry_station {n : Nat} (hr : s.station? k.val = some r) (ht : (s.cnd[k]).timer = some n) :
    ((s.improvementExpiry k).cnd[k]).timer = none ∧
      ((s.improvementExpiry k).cnd[k]).cls = (s.cnd[k]).improve.cls := by
  have hk : (s.improving k).cnd[k] = (s.cnd[k]).improve := by rw [improving_cnd, setAt_get_same]
  rw [improvementExpiry_concludes hr ht, conclude_station, concluded, hk]
  exact ⟨rfl, rfl⟩

theorem improvementExpiry_dirty {n : Nat} (hr : s.station? k.val = some r) (ht : (s.cnd[k]).timer = some n)
    (h : (s.cnd[k]).improve.cls ≠ (s.cnd[k]).cls) : (s.improvementExpiry k).rsv.dirty = true := by
  rw [improvementExpiry_concludes hr ht]
  exact conclude_keepsDirty _ k r (improving_dirty h)

/-- An expiry improves its station and makes its requests, or does nothing. -/
theorem improvementExpiry_cases (s : State) (k : Fin 6) : s.improvementExpiry k = s ∨
    ∃ r, s.improvementExpiry k = (s.improving k).conclude k r := by
  cases hr : s.station? k.val with
  | none => exact .inl (improvementExpiry_idle (.inl hr))
  | some r =>
    cases ht : (s.cnd[k]).timer with
    | none => exact .inl (improvementExpiry_idle (.inr ht))
    | some n => exact .inr ⟨r, improvementExpiry_concludes hr ht⟩

theorem improvementExpiry_other {j : Fin 6} (h : k ≠ j) : (s.improvementExpiry k).cnd[j] = s.cnd[j] := by
  rcases improvementExpiry_cases s k with he | ⟨r, he⟩
  · rw [he]
  · rw [he, conclude_other h, improving_cnd, setAt_get_other _ _ h]

theorem improvementExpiry_marks (s : State) (k : Fin 6) : Marks s (s.improvementExpiry k) := by
  rcases improvementExpiry_cases s k with he | ⟨r, he⟩
  · exact .of_eq (congrArg State.rsv he)
  · rw [he]
    exact (((Marks.refl s).step (setStation_frame _ _ _)).trans (noteClass_marks _ _ _ _)).trans (conclude_marks _ _ _)

theorem improvementExpiry_eq (s : State) (k : Fin 6) : s.improvementExpiry k = { s with
    cnd := (s.improvementExpiry k).cnd, ord := (s.improvementExpiry k).ord
    rsv := { s.rsv with dirty := (s.improvementExpiry k).rsv.dirty }, prt := (s.improvementExpiry k).prt } :=
  have h := improvementExpiry_frame s k
  eq_of_handOver h.mono (improvementExpiry_marks s k) h.mea h.signs h.flc

end Expiry

end State

/-- Settles O43: the improvement is `State.improving`, and the requests are those of every hand-over. -/
theorem improvementTakesTheBetterClass : Obligations.ImprovementTakesTheBetterClass := by
  intro k s hp
  have hexec : exec (.improvementTimerExpiry k) s = .next (s.improvementExpiry k) := exec_powered hp rfl
  refine ⟨fun h => by rw [hexec, State.improvementExpiry_idle h], fun r n y u hr ht hy hu => ?_⟩
  have himprove : (s.cnd[k]).improve = y := by
    rw [hy, Station.improve, Station.improved]
    cases (s.cnd[k]).cls <;> rfl
  obtain ⟨htimer, hcls⟩ := State.improvementExpiry_station hr ht
  refine ⟨s.improvementExpiry k, hexec, ?_, s.improvementExpiry_eq k, htimer, ?_, fun h => ?_,
    fun j hj => State.improvementExpiry_other hj.symm⟩
  · rw [State.improvementExpiry_concludes hr ht, State.improving_eq, himprove, hu]
  · rw [hcls, himprove]
    exact congrArg Station.cls hy
  · rw [hcls] at h
    exact State.improvementExpiry_dirty hr ht h

end Sys2Proof.Machine
end

section
/-! ## The drive of a gate fits the state that a transition ends in (R116 to R121, R124)

A transition may pass through states that the drive does not fit yet; its last entry is the one that counts. -/

set_option Elab.async false

namespace Sys2Proof.Machine

namespace Gate

open State (driveFits drives rests)

/-- A drive that is OFF has no waiting request (R124). -/
def Calm (x : Gate) : Prop := x.drive = .off → x.waitingLine = none

section Drive
variable {x : Gate}

theorem calm_of_rests (h : rests x) : x.Calm := fun _ => h.2

theorem calm_of_drives {l : DriveLine} (h : drives l x) : x.Calm := by
  intro hoff
  rcases h with h | ⟨h, -⟩
  · rw [hoff] at h
    cases l <;> cases h
  · rw [hoff] at h
    cases h

/-- In the dead time a line can only wait (R124). -/
theorem waits_of_dead {l : DriveLine} (hd : x.drive = .dead) (h : drives l x) : x.waitingLine = some l := by
  rcases h with h | ⟨-, h⟩
  · rw [hd] at h
    cases l <;> cases h
  · exact h

theorem calm_of_fits (h : driveFits x) : x.Calm := by
  unfold driveFits at h
  split at h
  · exact calm_of_drives h
  · exact calm_of_drives h
  · split at h
    · exact calm_of_rests h
    · exact calm_of_drives h
  all_goals exact calm_of_rests h

/-- A gate that keeps its state, and its waiting phase in BLOCKED, and does with its drive what the gate before did. -/
theorem fits_of_fits {y : Gate} (h : driveFits x) (hs : y.state = x.state)
    (ht : y.retryTimer.isSome = x.retryTimer.isSome) (hd : ∀ l, drives l x → drives l y) (hr : rests x → rests y) : driveFits y := by
  unfold driveFits at h ⊢
  rw [hs, ht]
  cases hx : x.state with
  | closing => exact hd _ (by rwa [hx] at h)
  | opening => exact hd _ (by rwa [hx] at h)
  | blocked =>
    rw [hx] at h
    dsimp only at h ⊢
    split at h
    · next hw => exact (if_pos hw).mpr (hr h)
    · next hw => exact (if_neg hw).mpr (hd _ h)
  | opened | prewarn | closed | fault => exact hr (by rwa [hx] at h)

/-- A stop leaves no line that runs or waits (R124). -/
theorem halted_rests (h : x.Calm) (st : GatePos) (c : Option FaultCause) : rests (x.halted st c) := by
  unfold rests halted
  by_cases hoff : x.drive = .off
  · simp [hoff, h hoff]
  · simp [hoff]

theorem stop_rests (h : x.Calm) : rests x.stop := by
  rw [stop_eq x.state x.cause]
  exact halted_rests h x.state x.cause

/-- A requested line runs or waits, whatever the drive did before (R124). -/
theorem driven_drives (r : GateRec) (l : DriveLine) (st : GatePos) (x : Gate) : drives l (x.driven r l st) := by
  by_cases hrun : x.drive = .off ∨ x.drive = l.running
  · cases l <;> exact .inl (if_pos hrun)
  · obtain ⟨hoff, hline⟩ := not_or.mp hrun
    exact .inr ⟨if_neg hrun, (if_neg hoff).trans (if_neg hline)⟩

end Drive

/-! ### Chains of entries -/

/-- The last of the entries, of which there is one, has a drive that fits its state. -/
def EndsFit (l : List Gate) : Prop := ∃ z, l.getLast? = some z ∧ driveFits z

namespace EndsFit
variable {y z : Gate} {l : List Gate}

theorem single (h : driveFits z) : EndsFit [z] := ⟨z, rfl, h⟩

theorem cons (h : EndsFit l) : EndsFit (y :: l) := by
  obtain ⟨z, hz, hfit⟩ := h
  exact ⟨z, by rw [List.getLast?_cons, hz, Option.getD_some], hfit⟩

/-- An entry that can be the last one, or is followed by others. -/
theorem cons_ite {c : Prop} [Decidable c] (hz : driveFits z) (h : EndsFit l) : EndsFit (z :: if c then l else []) := by
  split
  · exact h.cons
  · exact single hz

theorem final (h : EndsFit l) (y : Gate) : driveFits (Gate.final (y, l)) := by
  obtain ⟨z, hz, hfit⟩ := h
  rw [Gate.final, hz]
  exact hfit

end EndsFit

section Entries
variable {r : GateRec} {signs : Bool} {x : Gate} (h : x.Calm)
include h

theorem enterFault_ends (c : FaultCause) : EndsFit (x.enterFault c) := by
  rw [enterFault_eq]
  exact .single (halted_rests h _ _)

theorem opens_ends : EndsFit (x.opens r) := by
  unfold opens
  split
  · exact .cons (.single (halted_rests h .opened none))
  · exact .single (driven_drives r .raise .opening x)

theorem enterOpening_ends : EndsFit (x.enterOpening r) := by
  rw [enterOpening_eq]
  exact opens_ends h

theorem shut_rests : rests x.shut := halted_rests h .closed none

theorem closes_ends : EndsFit (x.closes r) := by
  unfold closes
  split
  · exact .cons (.cons_ite (shut_rests h) (opens_ends (calm_of_rests (shut_rests h))))
  · exact .single (driven_drives r .lower .closing x)

theorem enterClosed_ends : EndsFit (x.enterClosed r) := by
  rw [enterClosed_eq rfl]
  exact .cons_ite (shut_rests h) (opens_ends (calm_of_rests (shut_rests h)))

theorem prewarned_rests : rests (x.prewarned r signs) := by
  have hrest := halted_rests h .prewarn none
  unfold prewarned
  split
  · split <;> exact hrest
  · split <;> exact hrest

theorem prewarned_fits : driveFits (x.prewarned r signs) := by
  have hs : (x.prewarned r signs).state = .prewarn := by
    unfold prewarned
    split
    · split <;> rfl
    · split <;> rfl
  unfold driveFits
  rw [hs]
  exact prewarned_rests h

theorem enterPrewarn_ends : EndsFit (x.enterPrewarn r signs) := by
  rw [enterPrewarn_eq r signs x _ rfl]
  split
  · exact .cons (closes_ends (calm_of_rests (prewarned_rests h)))
  · exact .single (prewarned_fits h)

theorem enterOpen_ends : EndsFit (x.enterOpen r signs) := by
  have hrest := halted_rests h .opened none
  rw [enterOpen_eq rfl]
  exact .cons_ite hrest (enterPrewarn_ends (calm_of_rests hrest))

omit h in
/-- The waiting phase of BLOCKED rests (R119). -/
theorem blockedWait_fits (hs : x.state = .blocked) (h : x.Calm) : driveFits x.blockedWait := by
  have hst : x.stop.state = .blocked := by rw [stop_eq x.state x.cause, hs]
  unfold driveFits blockedWait
  rw [hst]
  exact stop_rests h

omit h in
/-- BLOCKED raises but for its waiting phase (R118, R119). -/
theorem enterBlocked_ends : EndsFit (x.enterBlocked r) := by
  obtain ⟨y, hy⟩ : ∃ y : Gate, y = { x.driven r .raise .blocked with retries := x.retries + 1 } := ⟨_, rfl⟩
  have hraise : drives .raise y := hy ▸ driven_drives r .raise .blocked x
  have hs : y.state = .blocked := by rw [hy]; rfl
  rw [enterBlocked_eq r x y hy]
  split
  · split
    · exact .cons (.single (halted_rests (calm_of_drives hraise) .fault _))
    · exact .single (blockedWait_fits hs (calm_of_drives hraise))
  · exact .single (hy ▸ driven_drives r .raise .blocked x)

end Entries

/-! ### The transitions of the gate machine -/

section Moves
variable {r : GateRec} {signs : Bool} {x : Gate} (h : driveFits x)
include h

theorem demandOpen_fits : driveFits (final (x.demandOpen r signs)) := by
  have hopen : driveFits (final (x, x.enterOpen r signs)) := (enterOpen_ends (calm_of_fits h)).final x
  have hopening : driveFits (final (x, x.enterOpening r)) := (enterOpening_ends (calm_of_fits h)).final x
  unfold demandOpen
  split
  · split
    · exact hopen
    · exact hopening
  · exact hopening
  · split
    · exact hopen
    · exact hopening
  · split
    · exact h
    · exact hopening
  all_goals exact h

theorem demandClosed_fits : driveFits (final (x.demandClosed r signs)) := by
  have hwarn : driveFits (final (x, x.enterPrewarn r signs)) := (enterPrewarn_ends (calm_of_fits h)).final x
  unfold demandClosed
  split
  · split
    · exact h
    · exact hwarn
  · exact hwarn
  all_goals exact h

theorem countdownOver_fits : driveFits (final (x.countdownOver r)) := by
  rw [countdownOver_eq]
  split
  · exact h
  · exact (closes_ends (calm_of_fits h)).final x

theorem upgrade_fits : driveFits (final (x.upgrade r)) := by
  have hcount : ∀ n, driveFits (x.countdown .emergency n) := fun _ => h
  unfold upgrade
  split
  · dsimp only
    split
    · exact countdownOver_fits (hcount _)
    · exact hcount _
  · dsimp only
    split
    · exact countdownOver_fits (hcount _)
    · exact hcount _
  · exact h

theorem publish_fits {d : Demand} {e : Bool} {gen : Nat} : driveFits (final (x.publish r signs d e gen)) := by
  have hy : driveFits { x with demand := some d, emergency := e, demandGen := some gen } := h
  unfold publish
  dsimp only
  split
  · cases d with
    | opened => exact demandOpen_fits hy
    | closed => exact demandClosed_fits hy
  · split
    · exact upgrade_fits hy
    · exact hy

theorem openLimitTo_fits {v : Bool} : driveFits (final (x.openLimitTo r signs v)) := by
  have hy : driveFits { x with openLimit := v } := h
  have hfault : ∀ c, EndsFit (({ x with openLimit := v } : Gate).enterFault c) := enterFault_ends (calm_of_fits hy)
  unfold openLimitTo
  dsimp only
  split
  · exact (hfault _).final _
  split
  · exact (enterOpen_ends (calm_of_fits hy)).final _
  · next hs _ =>
    split
    · exact hy
    split
    · exact (hfault _).final _
    · exact blockedWait_fits hs (calm_of_fits hy)
  · exact (hfault _).final _
  · exact (hfault _).final _
  · split
    · exact (hfault _).final _
    · exact hy
  · exact hy

theorem closedLimitTo_fits {v : Bool} : driveFits (final (x.closedLimitTo r v)) := by
  have hy : driveFits { x with closedLimit := v } := h
  have hfault : ∀ c, EndsFit (({ x with closedLimit := v } : Gate).enterFault c) := enterFault_ends (calm_of_fits hy)
  unfold closedLimitTo
  dsimp only
  split
  · exact (hfault _).final _
  split
  · exact (enterClosed_ends (calm_of_fits hy)).final _
  · exact (hfault _).final _
  · exact hy

theorem obstructionTo_fits {v : Bool} : driveFits (final (x.obstructionTo r v)) := by
  have hy : driveFits { x with obstruction := v } := h
  unfold obstructionTo
  dsimp only
  split
  · exact enterBlocked_ends.final _
  · rw [enterClosing_eq]
    exact (closes_ends (calm_of_fits hy)).final _
  · exact hy

theorem countdownEnd_fits : driveFits (final (x.countdownEnd r)) := by
  have hy : driveFits { x with remaining := 0 } := h
  unfold countdownEnd
  split
  · exact countdownOver_fits hy
  · exact h

theorem travelEnd_fits : driveFits (final x.travelEnd) := by
  unfold travelEnd
  split
  · exact (enterFault_ends (calm_of_fits h) _).final x
  · exact h

/-- The retry delay ends in a PREWARN that is served (R119). -/
theorem retryEnd_fits : driveFits (final (x.retryEnd r)) := by
  have hrest := halted_rests (calm_of_fits h) .prewarn none
  by_cases hw : x.state = .blocked ∧ x.retryTimer.isSome = true
  · cases ho : x.obstruction with
    | true =>
      rw [retryEnd_obstructed hw.1 hw.2 ho]
      exact hrest
    | false =>
      rw [retryEnd_closes hw.1 hw.2 ho rfl]
      exact (closes_ends (calm_of_rests hrest)).cons.final x
  · rw [retryEnd, if_neg hw]
    exact h

/-- The dead time ends in OFF, or with the start of the line that waits (R124). -/
theorem deadEnd_fits : driveFits (x.deadEnd r) := by
  unfold deadEnd
  split
  · next l hd hl =>
    refine fits_of_fits h rfl rfl (fun k hk => .inl ?_) (fun hrest => nomatch hl.symm.trans hrest.2)
    cases hl.symm.trans (waits_of_dead hd hk)
    rfl
  · next hd hl =>
    exact fits_of_fits h rfl rfl (fun k hk => nomatch hl.symm.trans (waits_of_dead hd hk))
      (fun hrest => ⟨.inl rfl, hrest.2⟩)
  · exact h

theorem periodEnd_fits : driveFits (x.periodEnd r) := by
  unfold periodEnd
  split <;> exact h

theorem resetChain_fits : driveFits (final (x, x.resetChain r signs)) := by
  unfold resetChain
  split
  · exact (enterOpen_ends (calm_of_fits h)).final x
  · exact (enterClosed_ends (calm_of_fits h)).final x

/-- A released gate rests where it is, or acts on its demand (R123). -/
theorem releaseChain_fits (y : Gate) : driveFits (final (y, x :: x.releaseChain r signs)) := by
  unfold releaseChain
  split
  · exact (enterPrewarn_ends (calm_of_fits h)).cons.final y
  · exact (enterOpening_ends (calm_of_fits h)).cons.final y
  · exact (EndsFit.single h).final y

theorem second_fits : driveFits (x.second r) := by
  refine fits_of_fits h rfl ?_ (fun _ hl => hl) (fun hrest => hrest)
  rw [second_eq, Option.isSome_map]

end Moves

/-- A gate set from its limits is in none of the states with a line, and its drive waits out its dead time (R129). -/
theorem fromLimits_fits {x : Gate} (hw : x.waitingLine = none) (p : Lantern) :
    driveFits { x.fromLimits with drive := .dead, lantern := p } := by
  have hrest : rests { x with drive := .dead } := ⟨.inr rfl, hw⟩
  unfold fromLimits
  split <;> exact hrest

end Gate

end Sys2Proof.Machine
end

section
/-! ## What an accepted zone and a sample do to their path (R93 to R98, R104, R106) -/

set_option Elab.async false

namespace Sys2Proof.Machine

/-- The loop items of a path (R94). -/
def Path.loopItems (x : Path) : Option Zone × Option Zone × Nat := (x.zone, x.candidate, x.debounce)

/-- In TRIPPED, and where the zone does not act as a trip, the path stays as it is or goes from TRIPPED to LATCHED (R97,
R98, R111). -/
theorem stateAfterZone_cases {r : PathRec} {p : Path} {z : Zone} (h : p.state = .tripped ∨ actsAsTrip r z = false) :
    stateAfterZone r p z = p.state ∨ (p.state = .tripped ∧ stateAfterZone r p z = .latched) := by
  by_cases ht : p.state = .tripped
  · unfold stateAfterZone
    rw [ht]
    dsimp only
    split
    · exact .inr ⟨rfl, rfl⟩
    split
    · exact .inr ⟨rfl, rfl⟩
    · exact .inl rfl
  · exact .inl (stateAfterZone_plain (h.resolve_left ht) ht)

namespace State

/-! ### The links of each state -/

section Fits
variable {x : Path}

theorem pathFits_quiet (hs : x.state = .quiet) :
    pathFits x ↔ x.tripOrder = none ∧ x.holdOrder = none ∧ x.timer = none := by
  rw [pathFits, hs]

theorem pathFits_tripped (hs : x.state = .tripped ∨ x.state = .latched) :
    pathFits x ↔ x.tripOrder.isSome = true ∧ x.holdOrder = none ∧ x.timer = none := by
  rcases hs with hs | hs <;> rw [pathFits, hs]

theorem pathFits_held (hs : x.state = .hold ∨ x.state = .holdPending) (h : pathFits x) :
    x.tripOrder = none ∧ x.holdOrder.isSome = true := by
  rcases hs with hs | hs
  · rw [pathFits, hs] at h
    exact ⟨h.1, h.2.1⟩
  · rw [pathFits, hs] at h
    exact ⟨h.1, h.2.1⟩

end Fits

/-! ### Zones -/

section Zone
variable {k : Fin 12} {r : PathRec} {z : Zone}

/-- Beyond the record of the zone, its effect replaces the one path: the loop items stay, and a path whose links fit its
state is left with links that fit. -/
theorem zoneEffect_path {u : State} {old : Path} (hk : u.avp[k] = old.accepted z) : ∃ x,
    (u.zoneEffect k r old z).avp = setAt u.avp k x ∧ x.loopItems = (some z, none, 0) ∧ (pathFits old → pathFits x) := by
  have htrip : ∀ x, ((tripCreate k.val r u).2.setPath k x).avp = setAt u.avp k x := fun x => by
    rw [setPath_avp, (tripCreate_frame u k.val r).avp]
  by_cases hh : old.state = .hold
  · rw [zoneEffect_hold hh, hk]
    split
    · exact ⟨_, rfl, rfl, id⟩
    · exact ⟨old.accepted z, by rw [← hk]; exact (setAt_self ..).symm, rfl, id⟩
  by_cases ha : old.state = .tripped ∨ actsAsTrip r z = false
  · rw [zoneEffect_state hh ha, hk]
    refine ⟨_, rfl, rfl, fun h => ?_⟩
    rcases stateAfterZone_cases ha with he | ⟨ht, he⟩
    · rw [he]
      exact h
    · rw [he]
      exact (pathFits_tripped (.inl ht)).mp h
  obtain ⟨hnt, ha⟩ := not_or.mp ha
  rw [Bool.not_eq_false] at ha
  cases hs : old.state with
  | quiet =>
    rw [zoneEffect_quiet hs ha, hk]
    refine ⟨_, htrip _, rfl, fun h => ?_⟩
    obtain ⟨-, hhold, htimer⟩ := (pathFits_quiet hs).mp h
    exact ⟨rfl, hhold, htimer⟩
  | latched =>
    rw [zoneEffect_latched hs ha, hk]
    exact ⟨_, rfl, rfl, fun h => (pathFits_tripped (.inr hs)).mp h⟩
  | holdPending =>
    rw [zoneEffect_pending hs ha, hk]
    exact ⟨_, htrip _, rfl, fun _ => ⟨rfl, rfl, rfl⟩⟩
  | tripped => exact absurd hs hnt
  | hold => exact absurd hs hh

theorem acceptZone_path (s : State) (k : Fin 12) (r : PathRec) (l : Fin 12) (z : Zone) : ∃ x,
    (s.acceptZone k r l z).avp = setAt s.avp k x ∧ x.loopItems = (some z, none, 0) ∧
      (pathFits s.avp[k] → pathFits x) := by
  have hrec : ∀ st, (s.zoneRecorded k l z st).avp = setAt s.avp k (s.avp[k].accepted z) := fun st => by
    unfold zoneRecorded
    dsimp only
    split <;> rfl
  cases hv : s.map.valid with
  | false =>
    rw [acceptZone_invalid hv]
    exact ⟨_, hrec _, rfl, id⟩
  | true =>
    rw [acceptZone_valid hv]
    obtain ⟨x, hx, hitems, hfit⟩ := zoneEffect_path (r := r) (zoneRecorded_path k l z (stateAfterZone r s.avp[k] z) s)
    exact ⟨x, by rw [hx, hrec, setAt_setAt], hitems, hfit⟩

theorem sample_fits {p : Path} (h : pathFits p) (z : Zone) : pathFits (p.sample z) := by
  unfold Path.sample
  split
  · exact h
  split
  · exact h
  · exact h

theorem sampleLoop_path (s : State) (k : Fin 12) (r : PathRec) (l : Fin 12) (z : Zone) : ∃ x,
    (s.sampleLoop k r l z).avp = setAt s.avp k x ∧
      (s.avp[k].completes r.debounce z = true → x.loopItems = (some z, none, 0)) ∧
      (s.avp[k].completes r.debounce z = false → x = s.avp[k].sample z) ∧ (pathFits s.avp[k] → pathFits x) := by
  unfold sampleLoop
  split
  · next hc =>
    obtain ⟨x, hx, hitems, hfit⟩ := acceptZone_path s k r l z
    exact ⟨x, hx, fun _ => hitems, fun h => absurd (hc.symm.trans h) (by decide), hfit⟩
  · next hc => exact ⟨_, rfl, fun h => absurd h hc, fun _ => rfl, fun h => sample_fits h z⟩

/-- A sample replaces its path, or does nothing. -/
theorem samplePath_path (v : Vector Nat 12) (s : State) (k : Fin 12) : ∃ x,
    (samplePath v s k).avp = setAt s.avp k x ∧ (pathFits s.avp[k] → pathFits x) := by
  unfold samplePath
  split
  · next r l _ _ =>
    obtain ⟨x, hx, -, -, hfit⟩ := sampleLoop_path s k r l (zoneOf v[l])
    exact ⟨x, hx, hfit⟩
  · exact ⟨s.avp[k], (setAt_self ..).symm, id⟩

theorem samplePath_other (v : Vector Nat 12) (s : State) (k j : Fin 12) (h : k ≠ j) :
    (samplePath v s k).avp[j] = s.avp[j] := by
  obtain ⟨x, hx, -⟩ := samplePath_path v s k
  rw [hx, setAt_get_other _ _ h]

/-! ### Of RSV a zone touches the dirty flag alone -/

theorem tripCreate_marks (s : State) (k : Nat) (r : PathRec) : Marks s (tripCreate k r s).2 := by
  unfold tripCreate
  split
  · exact .refl s
  · exact admitOrder_marks s _

theorem zoneEffect_marks (s : State) (k : Fin 12) (r : PathRec) (old : Path) (z : Zone) :
    Marks s (s.zoneEffect k r old z) := by
  unfold zoneEffect
  split
  · exact ((tripCreate_marks s k.val r).step (setPath_frame _ _ _)).step (record_frame _ _)
  · exact .of_eq rfl
  · exact (((tripCreate_marks s k.val r).step (setPath_frame _ _ _)).step (record_frame _ _)).step (record_frame _ _)
  · split
    · exact .of_eq rfl
    · exact .refl s
  · exact .of_eq rfl

theorem acceptZone_marks (s : State) (k : Fin 12) (r : PathRec) (l : Fin 12) (z : Zone) :
    Marks s (s.acceptZone k r l z) := by
  cases hv : s.map.valid with
  | false =>
    rw [acceptZone_invalid hv]
    exact (Marks.refl s).step (zoneRecorded_frame k l z _ s)
  | true =>
    rw [acceptZone_valid hv]
    exact ((Marks.refl s).step (zoneRecorded_frame k l z _ s)).trans (zoneEffect_marks _ k r _ z)

theorem samplePath_marks (v : Vector Nat 12) (s : State) (k : Fin 12) : Marks s (samplePath v s k) := by
  unfold samplePath sampleLoop
  split
  · split
    · exact acceptZone_marks ..
    · exact .of_eq rfl
  · exact .refl s

end Zone

/-! ### A sample of all loops -/

theorem loopSample_eq (v : Vector Nat 12) (s : State) : s.loopSample v = { s with
    avp := (s.loopSample v).avp, ord := (s.loopSample v).ord
    rsv := { s.rsv with dirty := (s.loopSample v).rsv.dirty }, prt := (s.loopSample v).prt } := by
  have h := loopSample_frame s v
  obtain ⟨d, hd⟩ : Marks s (s.loopSample v) := Marks.foldl _ _ (samplePath_marks v) s
  generalize s.loopSample v = t at h hd
  have hrsv : t.rsv = { s.rsv with dirty := t.rsv.dirty } := by rw [hd]
  cases t
  exact (State.mk.injEq ..).mpr ⟨h.powered, h.img, h.map, rfl, hrsv, h.mea, h.cnd, rfl, h.gtc, h.pins, h.scp, h.signs,
    h.flc, rfl, h.cuts, h.pending⟩

section Sample
variable {v : Vector Nat 12} {s : State} {k l : Fin 12} {r : PathRec}

theorem samplePath_supervised (hr : s.path? k.val = some r) (hl : s.supervised k.val = some l.val) :
    samplePath v s k = s.sampleLoop k r l (zoneOf v[l]) := by
  simp only [samplePath, hr, hl, Option.bind_some, finOf_val]

theorem samplePath_unsupervised (h : s.supervised k.val = none) : samplePath v s k = s := by
  unfold samplePath
  rw [h]
  split
  · next h => cases h
  · rfl

/-- The step that a sample makes at path `k` decides its path. -/
theorem loopSample_unit (v : Vector Nat 12) (s : State) (k : Fin 12) : ∃ u, Frame [.avp, .ord, .rsv, .prt] s u ∧
    u.avp[k] = s.avp[k] ∧ (s.loopSample v).avp[k] = (samplePath v u k).avp[k] :=
  foldl_unit State.avp (samplePath_frame v) (samplePath_other v) s k

theorem supervised_congr {u : State} (himg : u.img = s.img) (hmap : u.map = s.map) (k : Nat) :
    u.supervised k = s.supervised k := by
  simp only [supervised, valid, himg, hmap]

theorem loopSample_unsupervised (h : s.supervised k.val = none) : (s.loopSample v).avp[k] = s.avp[k] := by
  obtain ⟨u, hu, hk, he⟩ := loopSample_unit v s k
  rw [he, samplePath_unsupervised ((supervised_congr hu.img hu.map k.val).trans h), hk]

/-- What a sample makes of a supervised path: a zone that completes its run is accepted, any other is counted (R94). -/
theorem loopSample_supervised (hr : s.path? k.val = some r) (hl : s.supervised k.val = some l.val) :
    (s.avp[k].completes r.debounce (zoneOf v[l]) = true →
      ((s.loopSample v).avp[k]).loopItems = (some (zoneOf v[l]), none, 0)) ∧
    (s.avp[k].completes r.debounce (zoneOf v[l]) = false →
      (s.loopSample v).avp[k] = s.avp[k].sample (zoneOf v[l])) := by
  obtain ⟨u, hu, hk, he⟩ := loopSample_unit v s k
  have hru : u.path? k.val = some r := by rw [path?, hu.img]; exact hr
  have hlu : u.supervised k.val = some l.val := by rw [supervised_congr hu.img hu.map, hl]
  obtain ⟨x, hx, hdone, hcount, -⟩ := sampleLoop_path u k r l (zoneOf v[l])
  rw [he, samplePath_supervised hru hlu, hx, setAt_get_same, ← hk]
  exact ⟨hdone, hcount⟩

/-- ACCEPTED_ZONE of a completed run is the sample that completes it (notes/assumptions/8.md). -/
theorem acceptedZone_eq_sample (hr : s.path? k.val = some r) (hl : s.pathOfLoop l = some k)
    (hc : s.avp[k].completes r.debounce (zoneOf v[l]) = true) : s.acceptedZone l (zoneOf v[l]) = samplePath v s k := by
  have hsup : s.supervised k.val = some l.val := by simpa using List.find?_some hl
  simp only [samplePath_supervised hr hsup, sampleLoop, acceptedZone, hl, hr, hc, if_true]

end Sample

end State

section Sample
variable {p : Path} {n : Nat} {z : Zone}

/-- A sample of the accepted zone clears candidate and count (R94). -/
theorem sample_zone (h : p.zone = some z) : p.sample z = { p with candidate := none, debounce := 0 } := if_pos h

theorem sample_accepted (h : p.zone = some z) : p.completes n z = false := by
  rw [← Bool.not_eq_true, completes_iff]
  exact fun hc => hc.1 h

theorem completes_candidate (hz : p.zone ≠ some z) (hc : p.candidate = some z) :
    p.completes n z = true ↔ n ≤ p.debounce + 1 := by
  rw [completes_iff, if_pos hc]
  exact and_iff_right hz

theorem completes_new (hz : p.zone ≠ some z) (hc : p.candidate ≠ some z) : p.completes n z = true ↔ n ≤ 1 := by
  rw [completes_iff, if_neg hc]
  exact and_iff_right hz

theorem sample_candidate (hz : p.zone ≠ some z) (hc : p.candidate = some z) :
    p.sample z = { p with debounce := p.debounce + 1 } := by rw [Path.sample, if_neg hz, if_pos hc]

theorem sample_new (hz : p.zone ≠ some z) (hc : p.candidate ≠ some z) :
    p.sample z = { p with candidate := some z, debounce := 1 } := by rw [Path.sample, if_neg hz, if_neg hc]

end Sample

theorem loopItems_eq {x : Path} {z c : Option Zone} {n : Nat} (h : x.loopItems = (z, c, n)) :
    x.zone = z ∧ x.candidate = c ∧ x.debounce = n :=
  ⟨congrArg (·.1) h, congrArg (·.2.1) h, congrArg (·.2.2) h⟩

/-- Settles O45: the samples of the loops are one fold over the paths, each of which is touched by its own sample alone;
that accepts the zone whose run is complete and counts any other. -/
theorem loopSampleCountsTheCandidate : Obligations.LoopSampleCountsTheCandidate := by
  refine ⟨fun v s hp => ⟨s.loopSample v, exec_powered hp rfl, rfl, s.loopSample_eq v, fun k l r z hr hl hz => ?_,
    fun k => State.loopSample_unsupervised⟩, fun v k l r z s hp hr hl hz hn hd => ?_⟩
  · obtain ⟨hdone, hcount⟩ := State.loopSample_supervised (v := v) hr hl
    have hz : zoneOf v[l] = z := hz.symm
    rw [hz] at hdone hcount
    refine ⟨fun h => ?_, fun hn hc => ⟨fun hlt => ?_, fun hle => ?_⟩, fun hn hc => ⟨fun hlt => ?_, fun hle => ?_⟩⟩
    · rw [hcount (sample_accepted h), sample_zone h]
    · rw [hcount, sample_candidate hn hc]
      rw [← Bool.not_eq_true, completes_candidate hn hc]
      exact Nat.not_le_of_lt hlt
    · exact loopItems_eq (hdone ((completes_candidate hn hc).mpr hle))
    · rw [hcount, sample_new hn hc]
      rw [← Bool.not_eq_true, completes_new hn hc]
      exact Nat.not_le_of_lt hlt
    · exact loopItems_eq (hdone ((completes_new hn hc).mpr hle))
  · have hexec : exec (.acceptedZone l z) s = .next (s.acceptedZone l z) := exec_powered hp rfl
    have hz : zoneOf v[l] = z := hz.symm
    have hc : s.avp[k].completes r.debounce (zoneOf v[l]) = true := by
      rw [hz]
      exact (completes_iff _ _ _).mpr ⟨hn, hd⟩
    rw [hexec, ← hz, State.acceptedZone_eq_sample hr hl hc]

end Sys2Proof.Machine
end

section
/-! ## PATH_CLEAR and PATH_END_HOLD (R99, R107) -/

set_option Elab.async false

namespace Sys2Proof.Machine

section Clear
variable {a : Asker} {args : List Byte} {s : State} {k : Fin 12} {r : PathRec}

theorem pathClear_mapInvalid (hv : s.map.valid = false) : pathClear a args s = s.answer a .mapInvalid [] := by
  simp [pathClear, hv]

theorem pathEndHold_mapInvalid (hv : s.map.valid = false) : pathEndHold a args s = s.answer a .mapInvalid [] := by
  simp [pathEndHold, hv]

variable (hv : s.map.valid = true) (hp : s.pathIs args k r)
include hv hp

theorem pathClear_notPermitted (hm : s.img.mayLift a.port .trip = false) :
    pathClear a args s = s.answer a .notPermitted [] := by
  simp [pathClear, hv, pathArg_some hp, hm]

theorem pathEndHold_notPermitted (hm : s.img.mayLift a.port .avs = false) :
    pathEndHold a args s = s.answer a .notPermitted [] := by
  simp [pathEndHold, hv, pathArg_some hp, hm]

/-- The tests of R99 on the path. -/
theorem pathClear_permitted (hm : s.img.mayLift a.port .trip = true) : pathClear a args s =
    match s.avp[k].state with
    | .latched => (s.clearPath k (s.avp[k].tripOrder.getD 0)).answer a .ok (putOrderNumber s.avp[k].tripOrder)
    | .tripped => s.answer a .pathActive []
    | .quiet | .holdPending | .hold => s.answer a .pathState [] := by
  simp only [pathClear, State.valid, hv, pathArg_some hp, hm, Bool.not_true, Bool.false_eq_true, if_false]
  cases s.avp[k].state <;> rfl

/-- The tests of R107 on the path. -/
theorem pathEndHold_refused {rc : ReplyCode} (hm : s.img.mayLift a.port .avs = true)
    (hr : s.avp[k].endRefusal = some rc) : pathEndHold a args s = s.answer a rc [] := by
  simp only [pathEndHold, State.valid, hv, pathArg_some hp, hm, hr, Bool.not_true, Bool.false_eq_true, if_false]

theorem pathEndHold_ended {n : Nat} (hm : s.img.mayLift a.port .avs = true) (hr : s.avp[k].endRefusal = none)
    (hn : s.avp[k].holdOrder = some n) : pathEndHold a args s = (s.endHold k n).answer a .ok (put16 n) := by
  simp only [pathEndHold, State.valid, hv, pathArg_some hp, hm, hr, hn, Bool.not_true, Bool.false_eq_true, if_false]
  rfl

theorem pathClear_tripped (hm : s.img.mayLift a.port .trip = true) (hs : s.avp[k].state = .tripped) :
    pathClear a args s = s.answer a .pathActive [] := by rw [pathClear_permitted hv hp hm, hs]

theorem pathClear_pathState (hm : s.img.mayLift a.port .trip = true) (ht : s.avp[k].state ≠ .tripped)
    (hl : s.avp[k].state ≠ .latched) : pathClear a args s = s.answer a .pathState [] := by
  rw [pathClear_permitted hv hp hm]
  cases hs : s.avp[k].state with
  | tripped => exact absurd hs ht
  | latched => exact absurd hs hl
  | quiet | holdPending | hold => rfl

theorem pathClear_latched {n : Nat} (hm : s.img.mayLift a.port .trip = true) (hs : s.avp[k].state = .latched)
    (hn : s.avp[k].tripOrder = some n) : pathClear a args s = (s.clearPath k n).answer a .ok (put16 n) := by
  rw [pathClear_permitted hv hp hm, hs, hn]
  rfl

end Clear

theorem Path.endRefusal_free {x : Path} (h : x.state ≠ .hold) (hp : x.state ≠ .holdPending) :
    x.endRefusal = some .pathState := if_pos ⟨h, hp⟩

/-- Settles O48: the tests of R99 and of R107 in their order, each under the earlier ones passing. -/
theorem pathClearAndEndHold : Obligations.PathClearAndEndHold := by
  refine fun p tag args s => ⟨fun h => ⟨fun hv => ?_, fun k r hv hp => ⟨fun hm => ?_, fun hm =>
    ⟨fun hs => ?_, fun ht hl => ?_, fun n hs hn => ?_⟩⟩⟩, fun h => ⟨fun hv => ?_, fun k r hv hp => ⟨fun hm => ?_,
      fun hm => ⟨fun hh hw => ?_, fun hs => ⟨fun hrel hz => ?_, fun n hrel hn => ?_⟩⟩⟩⟩⟩
  · exact exec_answered h tag (pathClear_mapInvalid (s := s.serving p) hv)
  · exact exec_answered h tag (pathClear_notPermitted (s := s.serving p) hv hp hm)
  · exact exec_answered h tag (pathClear_tripped (s := s.serving p) hv hp hm hs)
  · exact exec_answered h tag (pathClear_pathState (s := s.serving p) hv hp hm ht hl)
  · have hserve : exec (.pathClear p tag args) s = .next (pathClear ⟨p, 0x0C, tag⟩ args (s.serving p)) :=
      exec_taken h tag
    rw [hserve, pathClear_latched (a := ⟨p, 0x0C, tag⟩) (s := s.serving p) hv hp hm hs hn, State.serving_clearPath,
      State.answer_serving]
    rfl
  · exact exec_answered h tag (pathEndHold_mapInvalid (s := s.serving p) hv)
  · exact exec_answered h tag (pathEndHold_notPermitted (s := s.serving p) hv hp hm)
  · exact exec_answered h tag (pathEndHold_refused (s := s.serving p) hv hp hm (Path.endRefusal_free hh hw))
  · exact exec_answered h tag (pathEndHold_refused (s := s.serving p) hv hp hm
      ((Path.endRefusal_held hs).trans (if_pos ⟨hrel, hz⟩)))
  · have hserve : exec (.pathEndHold p tag args) s = .next (pathEndHold ⟨p, 0x0B, tag⟩ args (s.serving p)) :=
      exec_taken h tag
    have hfree : s.avp[k].endRefusal = none := (Path.endRefusal_held hs).trans (if_neg hrel)
    rw [hserve, pathEndHold_ended (a := ⟨p, 0x0B, tag⟩) (s := s.serving p) hv hp hm hfree hn, State.serving_endHold,
      State.answer_serving]
    rfl

end Sys2Proof.Machine
end

section
/-! ## What a port can set going (R161)

A request, a byte or a placed reply comes down to updates of its port, answers, the owners of requests, and starts. -/

set_option Elab.async false

namespace Sys2Proof.Machine

namespace State

/-- One operation of a port. -/
inductive PortOp : State → State → Prop where
  | port (s : State) (p : Port) (q : PortUnit) : PortOp s (s.setPort p q)
  | answer (s : State) (a : Asker) (rc : ReplyCode) (d : List Byte) : PortOp s (s.answer a rc d)
  | owner (s : State) (r : Request) (a : Asker) (args : List Byte) : PortOp s (serveOwner r a args s)
  | start (s : State) (c : StartCause) : PortOp s (s.start c)

/-- Operations of a port, one after the other. -/
abbrev PortRun : State → State → Prop := Relation.ReflTransGen PortOp

namespace PortRun

theorem serve (s : State) (p : Port) (body : List Byte) : PortRun s (s.serve p body) := by
  unfold State.serve
  dsimp only
  split
  · exact .single (.answer ..)
  split
  · exact .single (.answer ..)
  split
  · exact .single (.answer ..)
  · exact .single (.owner ..)

theorem serveNext (s : State) (p : Port) : PortRun s (s.serveNext p) := by
  unfold State.serveNext
  split
  · exact .head (.port ..) (serve _ p _)
  · exact .refl

theorem receiveRequest (s : State) (r : Request) (p : Port) (tag : Byte) (args : List Byte) :
    PortRun s (s.receiveRequest r p tag args) := by
  unfold State.receiveRequest
  split
  · exact .head (.port ..) (serveNext _ p)
  · exact .refl

theorem receiveByte (s : State) (p : Port) (b : Byte) : PortRun s (s.receiveByte p b) :=
  .head (.port ..) (serveNext _ p)

theorem frameDiscard (s : State) (p : Port) (c : DiscardCause) : PortRun s (s.frameDiscard p c) := by
  unfold State.frameDiscard
  split
  · exact .refl
  cases c with
  | gap b => exact .head (.port ..) (receiveByte _ p b)
  | overrun => exact .head (.port ..) (.single (.port ..))
  | check | length | character => exact .single (.port ..)

theorem replyPlace (s : State) (p : Port) : PortRun s (s.replyPlace p) := by
  unfold State.replyPlace
  split
  · refine .head (.port s p (s.port p).placeReply) ?_
    unfold replyPlaced
    split
    · exact .single (.start ..)
    · exact serveNext _ p
  · exact .refl

end PortRun

/-! ### The owners that only answer -/

/-- The requests that read, and the owners that answer them from the state as it is. -/
theorem serveOwner_read_frame (s : State) (r : Request) (a : Asker) (args : List Byte)
    (hr : r ∈ [.orderRead, .orderList, .aspectRead, .stationRead, .channelRead, .pathRead, .gateRead, .signRead,
      .timeRead, .portStatus]) : Frame [.prt] s (serveOwner r a args s) := by
  have answered : ∀ rc d, Frame [.prt] s (s.answer a rc d) := answer_frame s a
  cases r with
  | orderList | timeRead | portStatus => exact answered _ _
  | orderRead =>
    change Frame [.prt] s (orderRead a args s)
    unfold orderRead
    split <;> exact answered _ _
  | aspectRead =>
    change Frame [.prt] s (aspectRead a args s)
    unfold aspectRead
    split <;> exact answered _ _
  | channelRead =>
    change Frame [.prt] s (channelRead a args s)
    unfold channelRead
    split <;> exact answered _ _
  | stationRead =>
    change Frame [.prt] s (stationRead a args s)
    unfold stationRead
    dsimp only
    (repeat' split) <;> exact answered _ _
  | pathRead =>
    change Frame [.prt] s (pathRead a args s)
    unfold pathRead
    dsimp only
    (repeat' split) <;> exact answered _ _
  | gateRead =>
    change Frame [.prt] s (gateRead a args s)
    unfold gateRead
    dsimp only
    (repeat' split) <;> exact answered _ _
  | signRead =>
    change Frame [.prt] s (signRead a args s)
    unfold signRead
    dsimp only
    (repeat' split) <;> exact answered _ _
  | _ => simp at hr

theorem trimSet_frame (s : State) (a : Asker) (args : List Byte) : Frame [.mea, .prt] s (trimSet a args s) := by
  unfold trimSet
  split
  · exact Frame.step (answer_frame _ _ _ _) (Frame.with_mea (l := [.mea]) (Frame.refl _ s)).mono
  · exact (answer_frame s _ _ _).mono
  · exact (answer_frame s _ _ _).mono

theorem timeSet_frame (s : State) (a : Asker) (args : List Byte) :
    Frame [.img, .ord, .rsv, .prt] s (timeSet a args s) :=
  Frame.step (answer_frame _ _ _ _) (Frame.step (clearTimeUnset_frame _) (jumpTo_frame s _))

end State

end Sys2Proof.Machine
end

section
/-! ## Gates whose drive fits, and paths whose links fit, under the shared operations -/

set_option Elab.async false

namespace Sys2Proof.Machine

namespace State

/-- `State.pathsOk` as a structure: where it is said of the end of a long operation, Lean is not to unfold it into the
paths. -/
structure PathsFit (s : State) : Prop where
  path : s.pathsOk

namespace PathsFit
variable {s t : State}

theorem of_avp (hs : s.PathsFit) (h : t.avp = s.avp) : t.PathsFit := by
  obtain ⟨hs⟩ := hs
  unfold pathsOk at hs
  exact ⟨fun k => h ▸ hs k⟩

/-- One path is replaced by one whose links fit its state. -/
theorem of_setAt {k : Fin 12} {x : Path} (hs : s.PathsFit) (h : t.avp = setAt s.avp k x) (hx : pathFits x) :
    t.PathsFit := by
  refine ⟨fun j => ?_⟩
  rw [h, setAt_get]
  split
  · exact hx
  · exact hs.path j

end PathsFit

/-- The operation that leads from `s` to `t` keeps each drive fitting its gate and each path's links fitting its
state. -/
structure KeepsFit (s t : State) : Prop where
  drives : s.drivesOk → t.drivesOk
  paths : s.PathsFit → t.PathsFit

namespace KeepsFit
variable {s t u : State} {l : List Field}

theorem refl (s : State) : KeepsFit s s := ⟨id, id⟩

theorem trans (h : KeepsFit s t) (k : KeepsFit t u) : KeepsFit s u := ⟨k.drives ∘ h.drives, k.paths ∘ h.paths⟩

theorem foldl {α : Type} {f : State → α → State} (h : ∀ s a, KeepsFit s (f s a)) (as : List α) (s : State) :
    KeepsFit s (as.foldl f s) := by
  induction as generalizing s with
  | nil => exact refl s
  | cons a as ih => exact (h s a).trans (ih (f s a))

/-- An operation on paths that leaves the gates, the map and the supply. -/
theorem of_paths (h : Frame l s t) (hk : s.PathsFit → t.PathsFit) (hp : l.contains .powered = false := by rfl)
    (hm : l.contains .map = false := by rfl) (hg : l.contains .gtc = false := by rfl) : KeepsFit s t := by
  refine ⟨fun hs => ?_, hk⟩
  unfold drivesOk at hs ⊢
  rwa [h.powered hp, h.map hm, h.gtc hg]

/-- An operation that leaves gates, paths, the map and the supply. -/
theorem of_frame (h : Frame l s t) (hp : l.contains .powered = false := by rfl)
    (hm : l.contains .map = false := by rfl) (hg : l.contains .gtc = false := by rfl)
    (ha : l.contains .avp = false := by rfl) : KeepsFit s t := of_paths h (·.of_avp (h.avp ha)) hp hm hg

/-- One more such operation. -/
theorem step (h : KeepsFit s t) (k : Frame l t u) (hp : l.contains .powered = false := by rfl)
    (hm : l.contains .map = false := by rfl) (hg : l.contains .gtc = false := by rfl)
    (ha : l.contains .avp = false := by rfl) : KeepsFit s u := h.trans (of_frame k hp hm hg ha)

end KeepsFit

/-! ### Paths -/

/-- Of the paths an operation replaces one, by one whose links fit its state when they did. -/
theorem KeepsFit.of_path {l : List Field} {s t : State} {k : Fin 12} {x : Path} (h : Frame l s t)
    (ht : t.avp = setAt s.avp k x) (hx : pathFits s.avp[k] → pathFits x) (hp : l.contains .powered = false := by rfl)
    (hm : l.contains .map = false := by rfl) (hg : l.contains .gtc = false := by rfl) : KeepsFit s t :=
  .of_paths h (fun hs => hs.of_setAt ht (hx (hs.path k))) hp hm hg

theorem tested_fits {x : Path} (h : pathFits x) (item field : Option Unmet) : pathFits (tested item field x) := by
  unfold tested
  cases hs : x.state with
  | holdPending =>
    obtain ⟨htrip, hhold⟩ := pathFits_held (.inr hs) h
    cases item with
    | none => exact ⟨htrip, hhold, rfl⟩
    | some _ => exact h
  | hold =>
    obtain ⟨htrip, hhold⟩ := pathFits_held (.inl hs) h
    cases field with
    | none => exact h
    | some _ => exact ⟨htrip, hhold, rfl⟩
  | quiet | tripped | latched => exact h

theorem keepsFit_testPath (s : State) (k : Fin 12) (r : PathRec) : KeepsFit s (s.testPath k r) :=
  .of_path (testPath_frame s k r) (testPath_avp k r s) fun h => tested_fits h _ _

theorem keepsFit_testPaths (s : State) (named : PathRec → Bool) (states : List PathState) :
    KeepsFit s (s.testPaths named states) := by
  rw [testPaths_eq]
  refine .foldl (fun s k => ?_) _ s
  unfold testStep
  split
  · split
    · exact keepsFit_testPath s k _
    · exact .refl s
  · exact .refl s

theorem keepsFit_acceptedZone (s : State) (l : Fin 12) (z : Zone) : KeepsFit s (s.acceptedZone l z) := by
  unfold acceptedZone
  split
  · exact .refl s
  next k _ =>
  split
  · exact .refl s
  next r _ =>
  split
  · obtain ⟨x, hx, -, hfit⟩ := acceptZone_path s k r l z
    exact .of_path (acceptZone_frame s k r l z) hx hfit
  · exact .refl s

theorem keepsFit_loopSample (s : State) (v : Vector Nat 12) : KeepsFit s (s.loopSample v) := by
  refine .foldl (fun s k => ?_) _ s
  obtain ⟨x, hx, hfit⟩ := samplePath_path v s k
  exact .of_path (samplePath_frame v s k) hx hfit

theorem keepsFit_setPath {s : State} {k : Fin 12} {x : Path} (h : pathFits s.avp[k] → pathFits x) :
    KeepsFit s (s.setPath k x) := .of_path (setPath_frame s k x) rfl h

/-- The confirm timer ends in HOLD, or in QUIET without a hold order (R103). -/
theorem keepsFit_confirmExpiry (s : State) (k : Fin 12) : KeepsFit s (s.confirmExpiry k) := by
  unfold confirmExpiry
  split
  · exact .refl s
  split
  · next hw =>
    have held : pathFits s.avp[k] → _ := pathFits_held (.inr hw.1)
    split
    · refine KeepsFit.step ?_ (record_frame _ _)
      exact keepsFit_setPath fun h => ⟨(held h).1, (held h).2, rfl⟩
    · refine KeepsFit.step ?_ (record_frame _ _)
      exact keepsFit_setPath fun h => ⟨(held h).1, rfl, rfl⟩
  · exact .refl s

/-- A path in LATCHED that is cleared is QUIET without links (R99). -/
theorem keepsFit_clearPath {s : State} {k : Fin 12} (hl : s.avp[k].state = .latched) (n : Nat) :
    KeepsFit s (s.clearPath k n) := by
  have havp : (s.clearPath k n).avp = setAt s.avp k
      { s.avp[k] with state := .quiet, tripOrder := none, released := false } := by
    rw [clearPath, setPath_avp, (retire_frame s n _).avp]
  refine .of_path (clearPath_frame s k n) havp fun h => ?_
  obtain ⟨-, hhold, htimer⟩ := (pathFits_tripped (.inr hl)).mp h
  exact ⟨rfl, hhold, htimer⟩

theorem endRefusal_none {x : Path} (h : x.endRefusal = none) : x.state = .hold ∨ x.state = .holdPending := by
  unfold Path.endRefusal at h
  split at h
  · cases h
  · next hs =>
    exact (not_and_or.mp hs).imp not_not.mp not_not.mp

/-- A hold that ends leaves its path QUIET without links (R107). -/
theorem keepsFit_endHold {s : State} {k : Fin 12} (he : s.avp[k].endRefusal = none) (n : Nat) :
    KeepsFit s (s.endHold k n) := by
  have havp : (s.endHold k n).avp = setAt s.avp k
      { s.avp[k] with state := .quiet, holdOrder := none, timer := none, released := false } := by
    rw [endHold, setPath_avp, (retire_frame s n _).avp]
  exact .of_path (endHold_frame s k n) havp fun h => ⟨(pathFits_held (endRefusal_none he) h).1, rfl, rfl⟩

/-! ### Gates -/

theorem pathsFit_enterGate {s : State} (hs : s.PathsFit) (g : Fin 8) (x : Gate) : (enterGate g s x).PathsFit := by
  have hrec := hs.of_avp (t := (s.setGate g x).recordGate g x (decide (s.gtc[g].state ≠ .fault)))
    (recordGate_frame _ g x _).avp
  unfold enterGate reportGate
  split
  · exact (keepsFit_testPaths _ _ _).paths hrec
  · exact hrec

theorem pathsFit_moveGate {s : State} (hs : s.PathsFit) (g : Fin 8) (m : Gate × List Gate) :
    (s.moveGate g m).PathsFit :=
  List.foldlRecOn (motive := PathsFit) m.2 _ (hs.of_avp rfl) fun _ ht x _ => pathsFit_enterGate ht g x

/-- A transition keeps the drives when the gate that it ends in has a drive that fits. -/
theorem keepsFit_moveGate {s : State} {g : Fin 8} {m : Gate × List Gate}
    (h : driveFits s.gtc[g] → driveFits (Gate.final m)) : KeepsFit s (s.moveGate g m) := by
  have hf := moveGate_frame s g m
  refine ⟨fun hs hp hv j => ?_, fun hs => pathsFit_moveGate hs g m⟩
  have hfit := hs (hf.powered ▸ hp) (hf.map ▸ hv)
  rw [moveGate_gtc, setAt_get]
  split
  · exact h (hfit g)
  · exact hfit j

theorem keepsFit_setGate {s : State} {g : Fin 8} {x : Gate} (h : driveFits s.gtc[g] → driveFits x) :
    KeepsFit s (s.setGate g x) := keepsFit_moveGate (m := (x, [])) h

theorem keepsFit_onGate {f : GateRec → Gate → Gate × List Gate}
    (h : ∀ r x, driveFits x → driveFits (Gate.final (f r x))) (s : State) (g : Fin 8) : KeepsFit s (s.onGate g f) := by
  unfold onGate
  split
  · exact keepsFit_moveGate (h _ _)
  · exact .refl s

theorem keepsFit_publishToGates (s : State) : KeepsFit s s.publishToGates :=
  .foldl (fun s g => keepsFit_onGate (fun _ _ h => Gate.publish_fits h) s g) _ s

theorem keepsFit_reportSignToGates (s : State) (i : Fin 24) : KeepsFit s (s.reportSignToGates i) := by
  refine .foldl (fun s g => keepsFit_onGate (fun r x h => ?_) s g) _ s
  split
  · exact h
  · exact h

/-- Without a valid map no drive has to fit. -/
theorem drivesOk_of_invalid {s : State} (h : s.map.valid = false) : s.drivesOk := fun _ hv =>
  absurd (h.symm.trans hv) (by decide)

theorem drivesOk_of_unpowered {s : State} (h : s.powered = false) : s.drivesOk := fun hp =>
  absurd (h.symm.trans hp) (by decide)

theorem pinChange_unpowered {s : State} {g : Fin 8} {pins : GatePins} {act : GateRec → Gate → Gate × List Gate}
    {store : Gate → Gate} {same : Gate → Bool} (hp : s.powered = false) :
    s.pinChange g pins act store same = { s with pins := setAt s.pins g pins } := by
  unfold pinChange
  exact if_pos (by rw [hp]; rfl)

/-- A new level is a transition under a valid map; without one the paths are left. -/
theorem keepsFit_pinChange {s : State} {g : Fin 8} {pins : GatePins} {act : GateRec → Gate → Gate × List Gate}
    {store : Gate → Gate} {same : Gate → Bool} (h : ∀ r x, driveFits x → driveFits (Gate.final (act r x))) :
    KeepsFit s (s.pinChange g pins act store same) := by
  have hpins : KeepsFit s { s with pins := setAt s.pins g pins } :=
    .of_frame (Frame.with_pins (l := [.pins]) (Frame.refl _ s))
  cases hp : s.powered with
  | false =>
    rw [pinChange_unpowered hp]
    exact hpins
  | true =>
  cases hr : s.gate? g.val with
  | none =>
    rw [pinChange_noRecord hr]
    exact hpins
  | some r =>
  cases hn : same s.gtc[g] with
  | true =>
    rw [pinChange_same hn]
    exact hpins
  | false =>
  cases hv : s.map.valid with
  | true =>
    rw [pinChange_valid hp hv hr hn]
    exact hpins.trans (keepsFit_moveGate (h r _))
  | false =>
    have hf := pinChange_frame s g pins act store same
    refine ⟨fun _ => drivesOk_of_invalid (hf.map.symm ▸ hv), fun hs => ?_⟩
    rw [pinChange_invalid hp hv hr hn]
    split
    · exact hs.of_avp rfl
    · exact hs.of_avp (recordGate_frame _ _ _ _).avp

theorem keepsFit_signWaitExpiry (s : State) (g : Fin 8) : KeepsFit s (s.signWaitExpiry g) := by
  unfold signWaitExpiry
  split
  · split
    · exact (KeepsFit.of_frame (record_frame s _)).trans (keepsFit_setGate id)
    · exact .refl s
  · exact .refl s

theorem keepsFit_lanternBoundary (s : State) : KeepsFit s s.lanternBoundary := by
  have hf := lanternBoundary_frame s
  refine ⟨fun hs hp hv g => ?_, fun hs => hs.of_avp hf.avp⟩
  have hfit := hs (hf.powered ▸ hp) (hf.map ▸ hv) g
  rw [lanternBoundary, ofFn_get]
  split
  · exact hfit
  · exact hfit

/-! ### Signs and field lines -/

/-- A change of closure-confirmed is reported to the gates and to the paths (R144). -/
theorem keepsFit_reviewConfirmed (s : State) (i : Fin 24) : KeepsFit s (s.reviewConfirmed i) := by
  unfold reviewConfirmed
  dsimp only
  split
  · exact .refl s
  · exact ((KeepsFit.of_frame (setSign_frame s i _)).trans (keepsFit_reportSignToGates _ i)).trans
      (keepsFit_testPaths _ _ _)

theorem keepsFit_reportLink (s : State) (i : Fin 24) (k : Link) : KeepsFit s (s.reportLink i k) :=
  (KeepsFit.of_frame (setSign_frame s i _)).trans (keepsFit_reviewConfirmed _ i)

theorem keepsFit_beginTransfer (s : State) (i : Fin 24) : KeepsFit s (s.beginTransfer i) :=
  (KeepsFit.of_frame (setSign_frame s i _)).trans (keepsFit_reportLink _ i _)

theorem keepsFit_pageTransfer (s : State) (l : Fin 2) : KeepsFit s (s.pageTransfer l) := by
  unfold pageTransfer
  split
  · split
    · exact (KeepsFit.of_frame (takeJob_frame s l _ _ _)).trans (keepsFit_beginTransfer _ _)
    · exact .refl s
  · exact .refl s

theorem keepsFit_lampTransfer (s : State) (l : Fin 2) : KeepsFit s (s.lampTransfer l) := by
  unfold lampTransfer
  split
  · split
    · exact ((KeepsFit.of_frame (takeJob_frame s l _ _ _)).trans (keepsFit_beginTransfer _ _)).step (lineAsks_frame _ l)
    · exact .refl s
  · exact .refl s

theorem keepsFit_endTransaction (s : State) (l : Fin 2) (t : Trans) : KeepsFit s (s.endTransaction l t) :=
  .of_frame (endTransaction_frame s l t)

theorem keepsFit_misplacedReply (s : State) (l : Fin 2) : KeepsFit s (s.misplacedReply l) :=
  .of_frame (misplacedReply_frame s l)

theorem keepsFit_takeConfirm (s : State) (l : Fin 2) (t : Trans) (q : SignReply) :
    KeepsFit s (s.takeConfirm l t q) := by
  have hreport := (keepsFit_endTransaction s l t).step (takeReport_frame _ l t.sign q)
  unfold takeConfirm
  dsimp only
  split
  · exact ((hreport.step (setSign_frame _ _ _)).step (setSign_frame _ _ _)).trans (keepsFit_reviewConfirmed _ _)
  · exact ((hreport.step (setSign_frame _ _ _)).trans (keepsFit_reportLink _ _ _)).step (putBackJob_frame _ _ _)

theorem keepsFit_confirm (s : State) (l : Fin 2) (q : SignReply) : KeepsFit s (s.confirm l q) := by
  unfold confirm
  split
  · split
    · exact keepsFit_takeConfirm s l _ q
    · exact keepsFit_takeConfirm s l _ q
    all_goals exact keepsFit_misplacedReply s l
  · exact keepsFit_misplacedReply s l

theorem keepsFit_takeStatusLink (s : State) (i : Fin 24) (c : Check) : KeepsFit s (s.takeStatusLink i c) := by
  unfold takeStatusLink
  split
  · split
    · exact .refl s
    · exact (keepsFit_reportLink s i _).step (requestComposition_frame _ i)
  · exact (keepsFit_reportLink s i _).step (requestComposition_frame _ i)
  all_goals exact .refl s

theorem keepsFit_status (s : State) (l : Fin 2) (q : SignReply) : KeepsFit s (s.status l q) := by
  have taken : ∀ t, KeepsFit s (s.takeStatus l t q) := fun t =>
    ((keepsFit_endTransaction s l t).step (takeReport_frame _ l t.sign q)).trans (keepsFit_takeStatusLink _ _ _)
  unfold status
  split
  · split
    · exact taken _
    · exact taken _
    all_goals exact keepsFit_misplacedReply s l
  · exact keepsFit_misplacedReply s l

theorem keepsFit_goOffline (s : State) (l : Fin 2) (i : Fin 24) : KeepsFit s (s.goOffline l i) :=
  (KeepsFit.of_frame (setLine_frame s l _)).trans (keepsFit_reportLink _ i _)

theorem keepsFit_takeNoReply (s : State) (l : Fin 2) (t : Trans) : KeepsFit s (s.takeNoReply l t) := by
  unfold takeNoReply
  extract_lets i s0 n x s1
  have h1 : KeepsFit s s1 :=
    ((keepsFit_endTransaction s l t).step (setLine_frame _ l _)).step (setSign_frame _ i _)
  have hlink : KeepsFit s (if n = 3 then s1.goOffline l i else (s1.reportLink i .pending).putBackJob l t) := by
    split
    · exact h1.trans (keepsFit_goOffline s1 l i)
    · exact (h1.trans (keepsFit_reportLink s1 i _)).step (putBackJob_frame _ l t)
  have hquiet : KeepsFit s (if n = 3 then (if s1.signs[i].link = .offline then s1 else s1.goOffline l i)
      else s1.putBackJob l t) := by
    split
    · split
      · exact h1
      · exact h1.trans (keepsFit_goOffline s1 l i)
    · exact h1.step (putBackJob_frame s1 l t)
  split
  · exact hlink
  · exact hlink
  · exact hquiet
  · exact hquiet

theorem keepsFit_replyLimitExpiry (s : State) (l : Fin 2) : KeepsFit s (s.replyLimitExpiry l) := by
  unfold replyLimitExpiry
  split
  · exact keepsFit_takeNoReply s l _
  · exact .refl s

/-! ### A completed pass, the second and the supply -/

/-- A publication reaches the gates, the signs and the paths (R53). -/
theorem keepsFit_passCompletion (s : State) : KeepsFit s s.passCompletion := by
  unfold passCompletion
  split
  · exact .refl s
  dsimp only
  split
  · exact .of_frame (passIdle_frame s)
  · exact ((((KeepsFit.of_frame (passIdle_frame s)).step (publishTable_frame _ _)).trans
      (keepsFit_publishToGates _)).step (publishToSigns_frame _)).trans (keepsFit_testPaths _ _ _)

/-- A timer that runs goes on running, so the second is seen by no link (R103). -/
theorem path_second_fits {r : PathRec} {x : Path} (h : pathFits x) : pathFits (x.second r) := by
  rw [Path.second_eq]
  unfold pathFits at h ⊢
  cases hs : x.state with
  | quiet | tripped | latched | hold =>
    rw [hs] at h
    obtain ⟨htrip, hhold, htimer⟩ := h
    exact ⟨htrip, hhold, by rw [htimer]; rfl⟩
  | holdPending =>
    rw [hs] at h
    obtain ⟨htrip, hhold, htimer⟩ := h
    exact ⟨htrip, hhold, Option.isSome_map.trans htimer⟩

theorem keepsFit_second (s : State) : KeepsFit s s.second := by
  have hf := second_frame s
  refine ⟨fun hs hp hv g => ?_, fun hs => ⟨fun k => ?_⟩⟩
  · have hfit := hs (hf.powered ▸ hp) (hf.map ▸ hv) g
    rw [second, ofFn_get]
    split
    · split
      · exact Gate.second_fits hfit
      · exact hfit
    · exact hfit
  · rw [second, ofFn_get]
    split
    · exact path_second_fits (hs.path k)
    · exact hs.path k

theorem keepsFit_mainPowerLoss (s : State) : KeepsFit s s.mainPowerLoss := by
  refine ⟨fun hs => ?_, fun hs => hs.of_avp (mainPowerLoss_frame s).avp⟩
  unfold mainPowerLoss
  split
  · exact drivesOk_of_unpowered rfl
  · exact hs

/-! ### Starts (R111, R129) -/

theorem pathAtStart_fits (s : State) (k : Fin 12) : pathFits (pathAtStart s k) := by
  unfold pathAtStart
  split
  · refine (pathFits_tripped ?_).mpr ⟨rfl, rfl, rfl⟩
    dsimp only
    split
    · exact .inl rfl
    · exact .inr rfl
  · exact ⟨rfl, rfl, rfl⟩

theorem gateAtStart_fits {s : State} (hv : s.map.valid = true) (g : Fin 8) : driveFits (gateAtStart s g) := by
  unfold gateAtStart
  split
  · exact ⟨.inl rfl, rfl⟩
  · dsimp only
    rw [if_pos hv]
    exact Gate.fromLimits_fits rfl _

/-- Whatever went before, after a start every drive and every path fits. -/
theorem keepsFit_start (s u : State) (c : StartCause) : KeepsFit s (u.start c) := by
  rw [start_eq]
  refine ⟨fun _ _ hv g => ?_, fun _ => ⟨fun k => ?_⟩⟩
  · rw [startBlocks_gtc]
    exact gateAtStart_fits ((startBlocks_frame (u.started c)).map ▸ hv) g
  · rw [startBlocks_avp]
    generalize (u.started c).startBlocks = t
    exact pathAtStart_fits t k

end State

end Sys2Proof.Machine
end

section
/-! ## Gates whose drive fits, and paths whose links fit, under requests, starts and the step -/

set_option Elab.async false

namespace Sys2Proof.Machine

namespace State

/-! ### The owners of requests -/

theorem keepsFit_answer (s : State) (a : Asker) (rc : ReplyCode) (d : List Byte) : KeepsFit s (s.answer a rc d) :=
  .of_frame (answer_frame s a rc d)

theorem keepsFit_retire (s : State) (n : Nat) (r : EndReason) : KeepsFit s (s.retire n r) :=
  .of_frame (retire_frame s n r)

/-- A lift ends a hold or clears a path in LATCHED alone (R33). -/
theorem keepsFit_liftLinked (s : State) (a : Asker) (o : Order) (k : Fin 12) : KeepsFit s (liftLinked a o k s) := by
  unfold liftLinked
  dsimp only
  split
  · split
    · next hs => exact (keepsFit_clearPath hs _).step (answer_frame _ _ _ _)
    · exact keepsFit_answer s a _ _
  split
  · split
    · next he => exact (keepsFit_endHold he _).step (answer_frame _ _ _ _)
    · exact keepsFit_answer s a _ _
  · exact (keepsFit_retire s _ _).step (answer_frame _ _ _ _)

theorem keepsFit_orderLift (s : State) (a : Asker) (args : List Byte) : KeepsFit s (orderLift a args s) := by
  unfold orderLift
  split
  · exact keepsFit_answer s a _ _
  split
  · exact keepsFit_answer s a _ _
  split
  · exact ((keepsFit_retire s _ _).step (suppressFor_frame _ _)).step (answer_frame _ _ _ _)
  split
  · exact keepsFit_answer s a _ _
  split
  · exact keepsFit_liftLinked s a _ _
  · exact (keepsFit_retire s _ _).step (answer_frame _ _ _ _)

theorem keepsFit_pathClear (s : State) (a : Asker) (args : List Byte) : KeepsFit s (pathClear a args s) := by
  unfold pathClear
  split
  · exact keepsFit_answer s a _ _
  split
  · exact keepsFit_answer s a _ _
  split
  · exact keepsFit_answer s a _ _
  split
  · next hs => exact (keepsFit_clearPath hs _).step (answer_frame _ _ _ _)
  · exact keepsFit_answer s a _ _
  · exact keepsFit_answer s a _ _

theorem keepsFit_pathEndHold (s : State) (a : Asker) (args : List Byte) : KeepsFit s (pathEndHold a args s) := by
  unfold pathEndHold
  split
  · exact keepsFit_answer s a _ _
  split
  · exact keepsFit_answer s a _ _
  split
  · exact keepsFit_answer s a _ _
  split
  · exact keepsFit_answer s a _ _
  · next he => exact (keepsFit_endHold he _).step (answer_frame _ _ _ _)

/-- A path in QUIET has no TRIP order, and the hold gives it its order and its timer (R101). -/
theorem heldBy_fits {x : Path} (hs : x.state = .quiet) (h : pathFits x) (n : Nat) : pathFits (x.heldBy n) :=
  ⟨((pathFits_quiet hs).mp h).1, rfl, rfl⟩

theorem keepsFit_pathHold (s : State) (a : Asker) (args : List Byte) : KeepsFit s (pathHold a args s) := by
  unfold pathHold
  split
  · exact keepsFit_answer s a _ _
  split
  · exact keepsFit_answer s a _ _
  next k r _ =>
  split
  · exact keepsFit_answer s a _ _
  next hs =>
  split
  · exact keepsFit_answer s a _ _
  · have hadmit := admitOrder_frame s (pathDraft .avs false k.val r)
    have hset : KeepsFit s ((s.admitOrder (pathDraft .avs false k.val r)).setPath k
        (s.avp[k].heldBy (s.newEntry (pathDraft .avs false k.val r)).number)) :=
      (KeepsFit.of_frame hadmit).trans (keepsFit_setPath fun h => by
        rw [hadmit.avp] at h
        exact heldBy_fits (not_not.mp hs) h _)
    exact (hset.step (answer_frame _ _ _ _)).trans (keepsFit_testPath _ k r)

theorem keepsFit_gateReset (s : State) (a : Asker) (args : List Byte) : KeepsFit s (gateReset a args s) := by
  unfold gateReset
  split
  · exact keepsFit_answer s a _ _
  split
  · exact keepsFit_answer s a _ _
  dsimp only
  split
  · exact keepsFit_answer s a _ _
  · exact (keepsFit_moveGate Gate.resetChain_fits).step (answer_frame _ _ _ _)

theorem keepsFit_gateInhibit (s : State) (a : Asker) (args : List Byte) : KeepsFit s (gateInhibit a args s) := by
  unfold gateInhibit
  split
  · exact keepsFit_answer s a _ _
  split
  · exact keepsFit_answer s a _ _
  next g r _ =>
  dsimp only
  split
  · split
    · refine KeepsFit.step (keepsFit_moveGate fun h => ?_) (answer_frame _ _ _ _)
      exact Gate.releaseChain_fits (x := { s.gtc[g] with inhibit := false }) h _
    · exact keepsFit_answer s a _ _
  · split
    · exact keepsFit_answer s a _ _
    split
    · exact keepsFit_answer s a _ _
    · exact (keepsFit_moveGate id).step (answer_frame _ _ _ _)
  · exact keepsFit_answer s a _ _

theorem keepsFit_with_img (s : State) (m : ImgUnit) : KeepsFit s { s with img := m } :=
  .of_frame (Frame.with_img (l := [.img]) (Frame.refl _ s))

theorem keepsFit_restartRequest (s : State) : KeepsFit s s.restartRequest := by
  unfold restartRequest
  split
  · exact keepsFit_with_img s _
  · exact keepsFit_start s s _

theorem keepsFit_serveOwner (s : State) (r : Request) (a : Asker) (args : List Byte) :
    KeepsFit s (serveOwner r a args s) := by
  cases r with
  | orderPost => exact .of_frame (orderPost_frame s a args)
  | orderLift => exact keepsFit_orderLift s a args
  | trimSet => exact .of_frame (trimSet_frame s a args)
  | pathHold => exact keepsFit_pathHold s a args
  | pathEndHold => exact keepsFit_pathEndHold s a args
  | pathClear => exact keepsFit_pathClear s a args
  | gateInhibit => exact keepsFit_gateInhibit s a args
  | gateReset => exact keepsFit_gateReset s a args
  | signPageRead => exact .of_frame (signPageRead_frame s a args)
  | timeSet => exact .of_frame (timeSet_frame s a args)
  | imageRead | imageWrite => exact .of_frame (imgTake_frame s _)
  | restart => exact keepsFit_restartRequest s
  | orderRead | orderList | aspectRead | stationRead | channelRead | pathRead | gateRead | signRead | timeRead
  | portStatus => exact .of_frame (serveOwner_read_frame s _ a args (by decide))

/-- Whatever a port sets going. -/
theorem KeepsFit.of_run {s t : State} (h : PortRun s t) : KeepsFit s t := by
  induction h with
  | refl => exact .refl s
  | tail _ hop ih =>
    refine ih.trans ?_
    cases hop with
    | port p q => exact .of_frame (setPort_frame _ p q)
    | answer a rc d => exact keepsFit_answer _ a rc d
    | owner r a args => exact keepsFit_serveOwner _ r a args
    | start c => exact keepsFit_start _ _ c

/-! ### Breaks, rows and starts -/

theorem keepsFit_portBreak (s : State) (p : Port) : KeepsFit s (s.portBreak p) := by
  unfold portBreak
  split
  · exact .refl s
  · refine (KeepsFit.of_frame (resetPort_frame s p)).trans ?_
    unfold restartFor
    split
    · exact keepsFit_start _ _ _
    · exact .refl _

theorem keepsFit_restartAfterWrite (s : State) (q : ImgReq) : KeepsFit s (s.restartAfterWrite q) := by
  unfold restartAfterWrite
  split
  · exact keepsFit_with_img s _
  · exact keepsFit_start s s _

theorem keepsFit_rowWriteComplete (s : State) : KeepsFit s s.rowWriteComplete := by
  unfold rowWriteComplete
  split
  · next q _ =>
    dsimp only
    have hstored : KeepsFit s (s.storeRow q.row (q.data.getD [])) := .of_frame (storeRow_frame s _ _)
    split
    · exact (hstored.step (imgAnswer_frame _ q _ _)).trans (keepsFit_restartAfterWrite _ q)
    · exact (hstored.step (imgAnswer_frame _ q _ _)).step (takeWaiting_frame _ _)
  · exact .refl s

theorem keepsFit_resetPin (s : State) : KeepsFit s s.resetPin := by
  unfold resetPin
  split
  · exact keepsFit_start s s _
  · exact .refl s

/-! ### The step -/

/-- A command that acts on a powered device alone. -/
theorem keepsFit_whenPowered {s : State} {f : State → State} (h : KeepsFit s (f s)) : KeepsFit s (s.whenPowered f) := by
  unfold whenPowered
  split
  · exact h
  · exact .refl s

/-- Such a command of a port. -/
theorem keepsFit_run {s : State} {f : State → State} (h : PortRun s (f s)) : KeepsFit s (s.whenPowered f) :=
  keepsFit_whenPowered (.of_run h)

/-- Such a command that leaves gates, paths, the map and the supply. -/
theorem keepsFit_powered {l : List Field} {s : State} {f : State → State} (h : Frame l s (f s))
    (hp : l.contains .powered = false := by rfl) (hm : l.contains .map = false := by rfl)
    (hg : l.contains .gtc = false := by rfl) (ha : l.contains .avp = false := by rfl) : KeepsFit s (s.whenPowered f) :=
  keepsFit_whenPowered (.of_frame h hp hm hg ha)

/-- Such a command of the gate machine. -/
theorem keepsFit_gate {s : State} {g : Fin 8} {f : GateRec → Gate → Gate × List Gate}
    (h : ∀ r x, driveFits x → driveFits (Gate.final (f r x))) : KeepsFit s (s.whenPowered (onGate g f)) :=
  keepsFit_whenPowered (keepsFit_onGate h s g)

/-- Every command answers a next state and keeps drives and paths fitting. -/
theorem exec_keepsFit (s : State) (c : Instr) : ∃ t, exec c s = .next t ∧ KeepsFit s t := by
  cases c with
  | orderPost p tag args | orderLift p tag args | orderRead p tag args | orderList p tag args | aspectRead p tag args
  | stationRead p tag args | channelRead p tag args | trimSet p tag args | pathRead p tag args | pathHold p tag args
  | pathEndHold p tag args | pathClear p tag args | gateRead p tag args | gateInhibit p tag args
  | gateReset p tag args | signRead p tag args | signPageRead p tag args | timeSet p tag args | timeRead p tag args
  | imageRead p tag args | imageWrite p tag args | restart p tag args | portStatus p tag args =>
    exact ⟨_, rfl, .of_run (.receiveRequest s _ p tag args)⟩
  | frameDiscard p c => exact ⟨_, rfl, keepsFit_run (.frameDiscard s p c)⟩
  | strayByte p b => exact ⟨_, rfl, keepsFit_run (.receiveByte s p b)⟩
  | xoff p | xon p => exact ⟨_, rfl, keepsFit_run (.receiveByte s p _)⟩
  | portBreak p => exact ⟨_, rfl, keepsFit_whenPowered (keepsFit_portBreak s p)⟩
  | replyPlace p => exact ⟨_, rfl, keepsFit_run (.replyPlace s p)⟩
  | noticeSend p => exact ⟨_, rfl, keepsFit_powered (noticeSend_frame s p)⟩
  | portFrameSent p => exact ⟨_, rfl, keepsFit_powered (portFrameSent_frame s p)⟩
  | rxFifoOverrun p => exact ⟨_, rfl, keepsFit_powered (rxFifoOverrun_frame s p)⟩
  | breakEnd p => exact ⟨_, rfl, keepsFit_powered (breakEnd_frame s p)⟩
  | clockTick => exact ⟨_, rfl, .of_frame (clockTick_frame s)⟩
  | passBegin => exact ⟨_, rfl, keepsFit_powered (passBegin_frame s)⟩
  | passCompletion => exact ⟨_, rfl, keepsFit_whenPowered (keepsFit_passCompletion s)⟩
  | scanTimerExpiry => exact ⟨_, rfl, keepsFit_powered (scanTimerExpiry_frame s)⟩
  | comparatorTrip n => exact ⟨_, rfl, keepsFit_powered (conversionEnd_frame s _ _)⟩
  | countOverflow => exact ⟨_, rfl, keepsFit_powered (conversionEnd_frame s _ _)⟩
  | improvementTimerExpiry k => exact ⟨_, rfl, keepsFit_powered (improvementExpiry_frame s k)⟩
  | anemometerEdge i n h => exact ⟨_, rfl, keepsFit_powered (anemometerEdge_frame s i n.val h)⟩
  | anemometerCalm i => exact ⟨_, rfl, keepsFit_powered (anemometerCalm_frame s i)⟩
  | windSample => exact ⟨_, rfl, keepsFit_powered (windSample_frame s)⟩
  | acceptedZone l z => exact ⟨_, rfl, keepsFit_whenPowered (keepsFit_acceptedZone s l z)⟩
  | confirmTimerExpiry k => exact ⟨_, rfl, keepsFit_whenPowered (keepsFit_confirmExpiry s k)⟩
  | loopSample v => exact ⟨_, rfl, keepsFit_whenPowered (keepsFit_loopSample s v)⟩
  | openLimitAccepted g v => exact ⟨_, rfl, keepsFit_pinChange fun _ _ h => Gate.openLimitTo_fits h⟩
  | closedLimitAccepted g v => exact ⟨_, rfl, keepsFit_pinChange fun _ _ h => Gate.closedLimitTo_fits h⟩
  | obstructionAccepted g v => exact ⟨_, rfl, keepsFit_pinChange fun _ _ h => Gate.obstructionTo_fits h⟩
  | signWaitExpiry g => exact ⟨_, rfl, keepsFit_whenPowered (keepsFit_signWaitExpiry s g)⟩
  | countdownEnd g => exact ⟨_, rfl, keepsFit_gate fun _ _ h => Gate.countdownEnd_fits h⟩
  | travelTimerExpiry g => exact ⟨_, rfl, keepsFit_gate fun _ _ h => Gate.travelEnd_fits h⟩
  | retryDelayExpiry g => exact ⟨_, rfl, keepsFit_gate fun _ _ h => Gate.retryEnd_fits h⟩
  | deadTimeEnd g => exact ⟨_, rfl, keepsFit_gate fun _ _ h => Gate.deadEnd_fits h⟩
  | dutyPeriodEnd g => exact ⟨_, rfl, keepsFit_gate fun _ _ h => Gate.periodEnd_fits h⟩
  | lanternFrameBoundary => exact ⟨_, rfl, keepsFit_whenPowered (keepsFit_lanternBoundary s)⟩
  | composerTake => exact ⟨_, rfl, keepsFit_powered (composerTake_frame s)⟩
  | compositionEnd => exact ⟨_, rfl, keepsFit_powered (compositionEnd_frame s)⟩
  | pageMemoryAccessEnd => exact ⟨_, rfl, keepsFit_powered (pageMemoryAccessEnd_frame s)⟩
  | pollTimerExpiry i => exact ⟨_, rfl, keepsFit_powered (pollTimerExpiry_frame s i)⟩
  | pageTransfer l => exact ⟨_, rfl, keepsFit_whenPowered (keepsFit_pageTransfer s l)⟩
  | lampTransfer l => exact ⟨_, rfl, keepsFit_whenPowered (keepsFit_lampTransfer s l)⟩
  | brightnessJob l => exact ⟨_, rfl, keepsFit_powered (brightnessJob_frame s l)⟩
  | poll l => exact ⟨_, rfl, keepsFit_powered (poll_frame s l)⟩
  | pageBlock l => exact ⟨_, rfl, keepsFit_powered (pageBlock_frame s l)⟩
  | fieldFrameSent l => exact ⟨_, rfl, keepsFit_powered (fieldFrameSent_frame s l)⟩
  | confirm l q => exact ⟨_, rfl, keepsFit_whenPowered (keepsFit_confirm s l q)⟩
  | status l q => exact ⟨_, rfl, keepsFit_whenPowered (keepsFit_status s l q)⟩
  | replyLimitExpiry l => exact ⟨_, rfl, keepsFit_whenPowered (keepsFit_replyLimitExpiry s l)⟩
  | invalidReply l c => exact ⟨_, rfl, keepsFit_powered (invalidReply_frame s l c)⟩
  | strayCharacter l c => exact ⟨_, rfl, keepsFit_powered (strayCharacter_frame s l c)⟩
  | rowWriteComplete => exact ⟨_, rfl, keepsFit_whenPowered (keepsFit_rowWriteComplete s)⟩
  | powerUp kept => exact ⟨_, rfl, keepsFit_start s _ _⟩
  | resetPin => exact ⟨_, rfl, keepsFit_resetPin s⟩
  | mainPowerLoss => exact ⟨_, rfl, keepsFit_mainPowerLoss s⟩

theorem step_keepsFit {s t : State} (h : step s = .next t) : KeepsFit s t := by
  unfold step at h
  split at h
  · next c rest _ =>
    have hq : KeepsFit s { s with pending := rest } :=
      .of_frame (Frame.with_pending (l := [.pending]) (Frame.refl _ s))
    obtain ⟨u, hu, hk⟩ := exec_keepsFit { s with pending := rest } c
    rw [hu] at h
    cases h
    exact hq.trans hk
  · cases h
    exact keepsFit_whenPowered (keepsFit_second s)

end State

/-- Settles O10: a transition of a gate ends in a state that its drive fits, an operation on a path gives it the links of
its state, and a start sets both anew. -/
theorem drivesAndPathsKept : Obligations.DrivesAndPathsKept := by
  intro s t ht
  have h := State.step_keepsFit ht
  exact ⟨h.drives, fun hs => (h.paths ⟨hs⟩).path⟩

end Sys2Proof.Machine
end

section
/-! ## A device without main power (R114, R173, R174) -/

set_option Elab.async false

namespace Sys2Proof.Machine

section Unpowered
variable {s : State} (hp : s.powered = false)
include hp

theorem exec_unpowered {i : Instr} {f : State → State} (h : exec i s = .next (s.whenPowered f)) :
    exec i s = .next s := by
  rw [h, State.whenPowered, if_neg (ne_true_of_eq_false hp)]

/-- No frame arrives on a port without main power. -/
theorem exec_unreceived {i : Instr} {r : Request} {p : Port} {tag : Byte} {args : List Byte}
    (h : exec i s = .next (s.receiveRequest r p tag args)) : exec i s = .next s := by
  rw [h, State.receiveRequest, if_neg (ne_true_of_eq_false hp)]

theorem execMainPowerLoss_unpowered : exec .mainPowerLoss s = .next s := by
  change Host.Outcome.next s.mainPowerLoss = _
  rw [State.mainPowerLoss, if_neg (ne_true_of_eq_false hp)]

/-- The corridor clock runs on the backup supply, and no entry is carried to it (R173). -/
theorem execClockTick_unpowered (h : s.img.clock < 4294967295) :
    exec .clockTick s = .next (s.setClock (s.img.clock + 1)) := by
  simp [exec, execClockTick, State.clockTick, h, hp]

end Unpowered

/-- Settles O4: a request does not arrive, an event acts on a powered device alone, and what is left are the pins, the
clock and the start. -/
theorem unpoweredDeviceStands : Obligations.UnpoweredDeviceStands := by
  refine fun s hp => ⟨fun c => ?_, fun g v => ⟨?_, ?_, ?_⟩, fun h => execClockTick_unpowered hp h⟩
  · cases c with
    | powerUp | clockTick | openLimitAccepted | closedLimitAccepted | obstructionAccepted => trivial
    | orderPost | orderLift | orderRead | orderList | aspectRead | stationRead | channelRead | trimSet | pathRead
    | pathHold | pathEndHold | pathClear | gateRead | gateInhibit | gateReset | signRead | signPageRead | timeSet
    | timeRead | imageRead | imageWrite | restart | portStatus => exact exec_unreceived hp rfl
    | resetPin => exact execResetPin_unpowered hp
    | mainPowerLoss => exact execMainPowerLoss_unpowered hp
    | _ => exact exec_unpowered hp rfl
  · exact congrArg _ (State.pinChange_unpowered hp)
  · exact congrArg _ (State.pinChange_unpowered hp)
  · exact congrArg _ (State.pinChange_unpowered hp)

end Sys2Proof.Machine
end

section
/-! ## The drive and the lantern of a gate (R124 to R126) -/

set_option Elab.async false

namespace Sys2Proof.Machine

/-! ### The drive -/

/-- The duty of a period, with the two ways to reach 100 together (R125). -/
theorem dutyAfter_eq (r : GateRec) (n : Nat) : dutyAfter r n =
    if r.ramp = 0 ∨ 25 * r.ramp ≤ n then 100 else r.startDuty + (100 - r.startDuty) * n / (25 * r.ramp) := by
  unfold dutyAfter
  by_cases h0 : r.ramp = 0
  · rw [if_pos h0, if_pos (.inl h0)]
  · by_cases hn : 25 * r.ramp ≤ n
    · rw [if_neg h0, if_pos hn, if_pos (.inr hn)]
    · rw [if_neg h0, if_neg hn, if_neg (not_or.mpr ⟨h0, hn⟩)]

/-- The first period has the start duty, unless there is no ramp (R125). -/
theorem dutyAfter_zero (r : GateRec) : dutyAfter r 0 = if r.ramp = 0 then 100 else r.startDuty := by
  rw [dutyAfter_eq]
  by_cases h0 : r.ramp = 0
  · rw [if_pos (.inl h0), if_pos h0]
  · rw [if_neg (by omega), if_neg h0, Nat.mul_zero, Nat.zero_div, Nat.add_zero]

namespace Gate

section Drive
variable {r : GateRec} {x : Gate}

theorem deadEnd_off (hd : x.drive = .dead) (hw : x.waitingLine = none) : x.deadEnd r = { x with drive := .off } := by
  simp only [deadEnd, hd, hw]

theorem deadEnd_starts {l : DriveLine} (hd : x.drive = .dead) (hw : x.waitingLine = some l) :
    x.deadEnd r = { x with
      drive := l.running, waitingLine := none, periods := 0, duty := if r.ramp = 0 then 100 else r.startDuty
      travel := some 0 } := by
  simp only [deadEnd, hd, hw, startLine, dutyAfter_zero]
  cases l <;> rfl

theorem periodEnd_runs (h : x.drive = .lower ∨ x.drive = .raise) :
    x.periodEnd r = { x with periods := x.periods + 1, duty := dutyAfter r (x.periods + 1) } := by
  rcases h with h | h <;> simp only [periodEnd, h]

theorem periodEnd_idle (h : x.drive = .off ∨ x.drive = .dead) : x.periodEnd r = x := by
  rcases h with h | h <;> simp only [periodEnd, h]

end Drive

end Gate

/-! ### The commands -/

section Commands
variable {s : State} {g : Fin 8} {r : GateRec} (hp : s.powered = true) (hv : s.map.valid = true)
  (hr : s.gate? g.val = some r)
include hp hv hr

theorem execDeadTimeEnd_used : exec (.deadTimeEnd g) s = .next (s.setGate g ((s.gtc[g]).deadEnd r)) := by
  rw [exec_powered hp (i := .deadTimeEnd g) rfl, State.deadTimeEnd, State.onGate_used hv hr, State.moveGate_stored]

theorem execDutyPeriodEnd_used : exec (.dutyPeriodEnd g) s = .next (s.setGate g ((s.gtc[g]).periodEnd r)) := by
  rw [exec_powered hp (i := .dutyPeriodEnd g) rfl, State.dutyPeriodEnd, State.onGate_used hv hr, State.moveGate_stored]

omit hp in
theorem State.lanternBoundary_used : s.lanternBoundary.gtc[g] = { s.gtc[g] with lantern := (s.gtc[g]).pattern } := by
  rw [lanternBoundary, ofFn_get, if_pos ⟨hv, by rw [hr]; rfl⟩]

end Commands

/-- Settles O51: each event stores what the drive or the lantern of the gate makes of it. -/
theorem driveAndLanternFollow : Obligations.DriveAndLanternFollow := by
  refine fun g r s hp hv hr => ⟨fun hd hw => ?_, fun hd hw => ?_, fun hd hw => ?_, fun hrun n hn => ?_, fun hidle => ?_,
    ⟨s.lanternBoundary, exec_powered hp rfl, rfl, State.lanternBoundary_used hv hr⟩⟩
  · rw [execDeadTimeEnd_used hp hv hr, Gate.deadEnd_off hd hw]
  · rw [execDeadTimeEnd_used hp hv hr, Gate.deadEnd_starts hd hw]
    rfl
  · rw [execDeadTimeEnd_used hp hv hr, Gate.deadEnd_starts hd hw]
    rfl
  · rw [execDutyPeriodEnd_used hp hv hr, Gate.periodEnd_runs hrun, dutyAfter_eq, hn]
  · rw [execDutyPeriodEnd_used hp hv hr, Gate.periodEnd_idle hidle, ← State.moveGate_stored, State.moveGate_idle]

end Sys2Proof.Machine
end

section
/-! ## GATE_RESET and GATE_INHIBIT (R122, R123) -/

set_option Elab.async false

namespace Sys2Proof.Machine

/-! ### The gate that a request names -/

theorem gateArg_none {s : State} {n : Nat} (h : s.gate? n = none) : s.gateArg n = none := by
  unfold State.gateArg
  rw [h]
  split
  · next heq => cases heq
  · rfl

theorem gateArg_some {s : State} {args : List Byte} {g : Fin 8} {r : GateRec} (h : s.gateIs args g r) :
    s.gateArg (get8 args 0) = some (g, r) := by
  obtain ⟨hg, hr⟩ := h
  simp only [State.gateArg, hg, finOf_val, hr]

namespace Gate

/-! ### A stored demand that acts (R115, R120, R122, R123) -/

section Demand
variable {r : GateRec} {signs : Bool} {x y z : Gate}

/-- The gate stays in PREWARN, unless an emergency prewarn time of 0 meets no obstruction (R117). -/
theorem enterPrewarn_waits (hz : z = x.prewarned r signs)
    (h : x.emergency = false ∨ 0 < r.emergency ∨ x.obstruction = true) : x.enterPrewarn r signs = [z] := by
  rw [enterPrewarn_eq r signs x z hz, if_neg]
  rintro ⟨he, h0, hb⟩
  rcases h with h | h | h
  · exact Bool.false_ne_true (h.symm.trans he)
  · omega
  · exact Bool.false_ne_true (hb.symm.trans h)

theorem enterPrewarn_closes (hz : z = x.prewarned r signs) (he : x.emergency = true) (h0 : r.emergency = 0)
    (hb : x.obstruction = false) (hc : x.closedLimit = false) :
    x.enterPrewarn r signs = [z, z.driven r .lower .closing] := by
  have hzc : z.closedLimit = false := by rw [hz, prewarned_closedLimit, hc]
  rw [enterPrewarn_eq r signs x z hz, if_pos ⟨he, h0, hb⟩, closes_away hzc]

theorem resetChain_opened (h : x.openLimit = true) : x.resetChain r signs = x.enterOpen r signs := if_pos h

theorem resetChain_closed (h : x.openLimit = false) : x.resetChain r signs = x.enterClosed r :=
  if_neg (ne_true_of_eq_false h)

/-- A released gate whose demand does not stand against its state rests (R123). -/
theorem releaseChain_rests (ho : y.state ≠ .opened ∨ y.demand ≠ some .closed)
    (hc : y.state ≠ .closed ∨ y.demand ≠ some .opened) : y.releaseChain r signs = [] := by
  unfold releaseChain
  split
  · next hs hd => exact (ho.elim (· hs) (· hd)).elim
  · next hs hd => exact (hc.elim (· hs) (· hd)).elim
  · rfl

theorem releaseChain_opened (hs : y.state = .opened) (hd : y.demand = some .closed) :
    y.releaseChain r signs = y.enterPrewarn r signs := by
  simp only [releaseChain, hs, hd]

theorem releaseChain_closed (hs : y.state = .closed) (hd : y.demand = some .opened) (ho : y.openLimit = false) :
    y.releaseChain r signs = [y.driven r .raise .opening] := by
  simp only [releaseChain, hs, hd, enterOpening_eq, opens_away ho]

/-- A gate at rest is in none of the states that refuse an inhibit (R123). -/
theorem not_under_way (h : x.state = .opened ∨ x.state = .closed ∨ x.state = .fault) :
    ¬(x.state ≠ .opened ∧ x.state ≠ .closed ∧ x.state ≠ .fault) :=
  fun ⟨ho, hc, hf⟩ => h.elim ho (Or.elim · hc hf)

end Demand

end Gate

/-! ### The owners -/

section Owners
variable {a : Asker} {args : List Byte} {s : State} {g : Fin 8} {r : GateRec} {x : Gate}

theorem gateReset_mapInvalid (hv : s.map.valid = false) : gateReset a args s = s.answer a .mapInvalid [] := by
  simp [gateReset, hv]

theorem gateInhibit_mapInvalid (hv : s.map.valid = false) : gateInhibit a args s = s.answer a .mapInvalid [] := by
  simp [gateInhibit, hv]

theorem gateReset_badRange (hv : s.map.valid = true) (hg : s.gate? (get8 args 0) = none) :
    gateReset a args s = s.answer a .badRange [] := by
  simp [gateReset, hv, gateArg_none hg]

theorem gateInhibit_badRange (hv : s.map.valid = true) (hg : s.gate? (get8 args 0) = none) :
    gateInhibit a args s = s.answer a .badRange [] := by
  simp [gateInhibit, hv, gateArg_none hg]

variable (hv : s.map.valid = true) (hg : s.gateIs args g r) (hx : x = s.gtc[g])
include hv hg hx

/-- The test of R122 on the gate. -/
theorem gateReset_used : gateReset a args s =
    if x.state ≠ .fault ∨ x.openLimit = x.closedLimit then s.answer a .gateStateBad x.badData
    else (s.moveGate g (x, x.resetChain r (s.signsReady r))).answer a .ok (put8 (if x.openLimit then 0 else 3)) := by
  rw [hx]
  simp only [gateReset, State.valid, hv, gateArg_some hg, Bool.not_true, Bool.false_eq_true, if_false]
  rfl

/-- The tests of R123 on the gate for the setting ON. -/
theorem gateInhibit_on (hb : get8 args 1 = 1) : gateInhibit a args s =
    if x.state ≠ .opened ∧ x.state ≠ .closed ∧ x.state ≠ .fault then s.answer a .gateStateBad x.badData
    else if x.inhibit then s.answer a .ok (put8 x.state.num)
    else (s.moveGate g (x, [{ x with inhibit := true }])).answer a .ok (put8 x.state.num) := by
  rw [hx]
  simp only [gateInhibit, State.valid, hv, gateArg_some hg, hb, Bool.not_true, Bool.false_eq_true, if_false]

/-- For the setting OFF the gate is released, and then acts on its stored demand (R123). -/
theorem gateInhibit_off {y : Gate} (hb : get8 args 1 = 0) (hy : y = { x with inhibit := false }) :
    gateInhibit a args s = if x.inhibit then
      (s.moveGate g (x, y :: y.releaseChain r (s.signsReady r))).answer a .ok (put8 x.state.num)
    else s.answer a .ok (put8 x.state.num) := by
  rw [hy, hx]
  simp only [gateInhibit, State.valid, hv, gateArg_some hg, hb, Bool.not_true, Bool.false_eq_true, if_false]

omit hx in
theorem gateInhibit_badValue (hb : 1 < get8 args 1) : gateInhibit a args s = s.answer a .badValue [] := by
  simp only [gateInhibit, State.valid, hv, gateArg_some hg, Bool.not_true, Bool.false_eq_true, if_false]
  split
  · omega
  · omega
  · rfl

end Owners

/-! ### The commands -/

/-- A taken request whose owner moves a gate and then answers is carried out on the state before. -/
theorem exec_moved {s : State} {r : Request} {p : Port} {args : List Byte} (h : s.takes p r args) (tag : Byte)
    {g : Fin 8} {m : Gate × List Gate} {rc : ReplyCode} {d : List Byte}
    (hm : serveOwner r ⟨p, r.code, tag⟩ args (s.serving p) =
      ((s.serving p).moveGate g m).answer ⟨p, r.code, tag⟩ rc d) :
    exec (r.command p tag args) s = .next ((s.moveGate g m).answer ⟨p, r.code, tag⟩ rc d) := by
  rw [exec_taken h, hm, State.serving_moveGate, State.answer_serving]

section Commands
variable {p : Port} {tag : Byte} {args : List Byte} {g : Fin 8} {r : GateRec} {s : State} {x y : Gate}
  (hv : s.map.valid = true) (hg : s.gateIs args g r) (hx : x = s.gtc[g])
include hv hg hx

/-- GATE_RESET at the open limit is the entry into OPEN (R120, R122). -/
theorem execGateReset_opened (h : s.takes p .gateReset args) (hs : x.state = .fault)
    (hl : x.openLimit ≠ x.closedLimit) (ho : x.openLimit = true) : exec (.gateReset p tag args) s =
      .next ((s.moveGate g (x, x.enterOpen r (s.signsReady r))).answer ⟨p, 0x0F, tag⟩ .ok (put8 0)) := by
  have hm := gateReset_used (a := ⟨p, 0x0F, tag⟩) (s := s.serving p) hv hg hx
  rw [if_neg (not_or.mpr ⟨not_not.mpr hs, hl⟩), Gate.resetChain_opened ho, if_pos ho] at hm
  exact exec_moved h tag hm

/-- GATE_RESET at the closed limit is the entry into CLOSED (R120, R122). -/
theorem execGateReset_closed (h : s.takes p .gateReset args) (hs : x.state = .fault)
    (hl : x.openLimit ≠ x.closedLimit) (ho : x.openLimit = false) : exec (.gateReset p tag args) s =
      .next ((s.moveGate g (x, x.enterClosed r)).answer ⟨p, 0x0F, tag⟩ .ok (put8 3)) := by
  have hm := gateReset_used (a := ⟨p, 0x0F, tag⟩) (s := s.serving p) hv hg hx
  rw [if_neg (not_or.mpr ⟨not_not.mpr hs, hl⟩), Gate.resetChain_closed ho, if_neg (ne_true_of_eq_false ho)] at hm
  exact exec_moved h tag hm

/-- GATE_INHIBIT OFF enters the released gate, and then what its stored demand makes of it (R123). -/
theorem execGateInhibit_released (h : s.takes p .gateInhibit args) (hb : get8 args 1 = 0) (hi : x.inhibit = true)
    (hy : y = { x with inhibit := false }) : exec (.gateInhibit p tag args) s =
      .next (((y.releaseChain r (s.signsReady r)).foldl (State.enterGate g) (State.enterGate g s y)).answer
        ⟨p, 0x0E, tag⟩ .ok (put8 x.state.num)) := by
  have hm := exec_moved h tag ((gateInhibit_off (s := s.serving p) hv hg hx hb hy).trans (if_pos hi))
  rw [State.moveGate_entries _ _ _ _ _ (by rw [hx])] at hm
  exact hm

end Commands

/-- Settles O52: GATE_RESET is the entry into the state of the one limit, GATE_INHIBIT OFF an entry of the released gate
before its stored demand acts, and every other answer leaves the device or enters the flag alone. -/
theorem gateResetAndInhibit : Obligations.GateResetAndInhibit := by
  refine ⟨fun p tag args s => ⟨fun h => ⟨fun hv => ?_, fun hv hg => ?_⟩, fun h => ⟨fun hv => ?_, fun hv hg => ?_⟩⟩,
    fun p tag args g r s x hv hg hx => ⟨fun h => ⟨fun hbad => ?_, fun hs hl y v hy hv' => ?_⟩, fun h =>
      ⟨fun hb hs => ⟨fun hi => ?_, fun hi => ?_⟩, fun hb ho hc hf => ?_, fun hb hi => ?_, fun hb hi y v hy hv' => ?_,
        fun hb => ?_⟩⟩⟩
  · exact exec_answered h tag (gateReset_mapInvalid (s := s.serving p) hv)
  · exact exec_answered h tag (gateReset_badRange (s := s.serving p) hv hg)
  · exact exec_answered h tag (gateInhibit_mapInvalid (s := s.serving p) hv)
  · exact exec_answered h tag (gateInhibit_badRange (s := s.serving p) hv hg)
  · exact exec_answered h tag ((gateReset_used (s := s.serving p) hv hg hx).trans (if_pos hbad))
  · have hst : x.state = s.gtc[g].state := congrArg Gate.state hx
    subst hv'
    cases ho : x.openLimit with
    | true =>
      have hc : x.closedLimit = false := by simpa [ho] using hl.symm
      rw [ho] at hy
      rw [execGateReset_opened hv hg hx h hs hl ho]
      refine ⟨fun hrest => ?_, fun _ hd hi z (hz : z = y.prewarned r (s.signsReady r)) =>
        ⟨fun hw => ?_, fun he h0 hb => ?_⟩, fun hf => absurd hf (by decide)⟩
      · rw [State.enterOpen_rests hst hy hrest.symm]
        rfl
      · rw [State.enterOpen_prewarns hst hy hd hi hz hw]
      · rw [State.enterOpen_closes hst hy hd hi hz he h0 hb hc]
    | false =>
      rw [ho] at hy
      rw [execGateReset_closed hv hg hx h hs hl ho]
      refine ⟨fun hrest => ?_, fun hf => absurd hf (by decide), fun _ hd hi => ?_⟩
      · rw [State.enterClosed_rests hst hy hrest.symm]
        rfl
      · rw [State.enterClosed_opens hst hy hd hi ho]
  · rw [← State.moveGate_entry s g x { x with inhibit := true } (by rw [hx])]
    exact exec_moved h tag ((gateInhibit_on (s := s.serving p) hv hg hx hb).trans
      ((if_neg (Gate.not_under_way hs)).trans (if_neg (ne_true_of_eq_false hi))))
  · exact exec_answered h tag ((gateInhibit_on (s := s.serving p) hv hg hx hb).trans
      ((if_neg (Gate.not_under_way hs)).trans (if_pos hi)))
  · exact exec_answered h tag ((gateInhibit_on (s := s.serving p) hv hg hx hb).trans (if_pos ⟨ho, hc, hf⟩))
  · exact exec_answered h tag ((gateInhibit_off (s := s.serving p) hv hg hx hb rfl).trans
      (if_neg (ne_true_of_eq_false hi)))
  · rw [execGateInhibit_released hv hg hx h hb hi hy, ← hv']
    have hsame : y.state = x.state ∧ y.demand = x.demand ∧ y.emergency = x.emergency ∧ y.obstruction = x.obstruction ∧
        y.closedLimit = x.closedLimit ∧ y.openLimit = x.openLimit := by
      rw [hy]
      exact ⟨rfl, rfl, rfl, rfl, rfl, rfl⟩
    obtain ⟨hys, hyd, hye, hyb, hyc, hyo⟩ := hsame
    refine ⟨fun ho hc => ?_, fun hs hd z (hz : z = y.prewarned r (s.signsReady r)) =>
      ⟨fun hw => ?_, fun he h0 hob hc => ?_⟩, fun hs hd ho => ?_⟩
    · rw [Gate.releaseChain_rests (by rwa [hys, hyd]) (by rwa [hys, hyd])]
      rfl
    · rw [Gate.releaseChain_opened (hys.trans hs) (hyd.trans hd), Gate.enterPrewarn_waits hz (by rwa [hye, hyb]), hs]
      rfl
    · rw [Gate.releaseChain_opened (hys.trans hs) (hyd.trans hd), Gate.enterPrewarn_closes hz (hye.trans he) h0
        (hyb.trans hob) (hyc.trans hc), hs]
      rfl
    · rw [Gate.releaseChain_closed (hys.trans hs) (hyd.trans hd) (hyo.trans ho), hs]
      rfl
  · exact exec_answered h tag (gateInhibit_badValue (s := s.serving p) hv hg hb)

end Sys2Proof.Machine
end

section
/-! ## Page memory, the rows and the queues under the shared operations -/

set_option Elab.async false

namespace Sys2Proof.Machine

namespace State

/-- The signs that wait for the composer, and those that wait on line `l`, each once (R141, R148). -/
def composeOnce (s : State) : Prop := s.scp.queue.Nodup

def jobsOnce (s : State) : Prop := ∀ l : Fin 2, ((s.flc[l]).queue.map Job.sign).Nodup

/-- The stored image and the rows loaded at the last start are in canonical form. -/
def imagesWf (s : State) : Prop := s.img.rows.wf = true ∧ s.img.loaded.wf = true

theorem canonical_iff (s : State) : s.canonical ↔ memWf s.scp.memory = true ∧ s.imagesWf := Iff.rfl

theorem queuesOk_iff (s : State) : s.queuesOk ↔ s.composeOnce ∧ s.jobsOnce := Iff.rfl

/-- The operation that leads from `s` to `t` keeps page memory and the rows canonical and each sign once in its queues. -/
structure KeepsForms (s t : State) : Prop where
  memory : memWf s.scp.memory = true → memWf t.scp.memory = true
  images : s.imagesWf → t.imagesWf
  compose : s.composeOnce → t.composeOnce
  jobs : s.jobsOnce → t.jobsOnce

/-- Two states with the same page memory, rows and queues. -/
structure SameForms (s t : State) : Prop where
  memory : t.scp.memory = s.scp.memory
  rows : t.img.rows = s.img.rows
  loaded : t.img.loaded = s.img.loaded
  compose : t.scp.queue = s.scp.queue
  jobs : ∀ l : Fin 2, (t.flc[l]).queue = (s.flc[l]).queue

namespace SameForms
variable {s t u : State} {l : List Field}

theorem refl (s : State) : SameForms s s := ⟨rfl, rfl, rfl, rfl, fun _ => rfl⟩

theorem trans (h : SameForms s t) (k : SameForms t u) : SameForms s u :=
  ⟨k.memory.trans h.memory, k.rows.trans h.rows, k.loaded.trans h.loaded, k.compose.trans h.compose,
    fun l => (k.jobs l).trans (h.jobs l)⟩

/-- An operation that leaves IMG, SCP and FLC. -/
theorem of_frame (h : Frame l s t) (hi : l.contains .img = false := by rfl) (hs : l.contains .scp = false := by rfl)
    (hf : l.contains .flc = false := by rfl) : SameForms s t :=
  ⟨by rw [h.scp hs], by rw [h.img hi], by rw [h.img hi], by rw [h.scp hs], fun _ => by rw [h.flc hf]⟩

/-- One more such operation. -/
theorem step (h : SameForms s t) (k : Frame l t u) (hi : l.contains .img = false := by rfl)
    (hs : l.contains .scp = false := by rfl) (hf : l.contains .flc = false := by rfl) : SameForms s u :=
  h.trans (of_frame k hi hs hf)

/-- Of IMG alone something is changed, and no row. -/
theorem with_img {m : ImgUnit} (hr : m.rows = s.img.rows := by rfl) (hl : m.loaded = s.img.loaded := by rfl) :
    SameForms s { s with img := m } := ⟨rfl, hr, hl, rfl, fun _ => rfl⟩

theorem setArbiter (s : State) (a : Arbiter) : SameForms s (s.setArbiter a) := ⟨rfl, rfl, rfl, rfl, fun _ => rfl⟩

/-- A line is replaced by one with the same queue. -/
theorem setLine {m : Fin 2} {x : Line} (h : x.queue = (s.flc[m]).queue) : SameForms s (s.setLine m x) := by
  refine ⟨rfl, rfl, rfl, rfl, fun j => ?_⟩
  rw [setLine_flc, setAt_get]
  split
  · next e => rw [h, e]
  · rfl

theorem keeps (h : SameForms s t) : KeepsForms s t := by
  refine ⟨fun hs => h.memory ▸ hs, fun hs => ?_, fun hs => ?_, fun hs l => ?_⟩
  · rwa [imagesWf, h.rows, h.loaded]
  · rwa [composeOnce, h.compose]
  · rw [h.jobs]
    exact hs l

end SameForms

namespace KeepsForms
variable {s t u : State} {l : List Field}

theorem refl (s : State) : KeepsForms s s := (SameForms.refl s).keeps

theorem trans (h : KeepsForms s t) (k : KeepsForms t u) : KeepsForms s u :=
  ⟨k.memory ∘ h.memory, k.images ∘ h.images, k.compose ∘ h.compose, k.jobs ∘ h.jobs⟩

theorem foldl {α : Type} {f : State → α → State} (h : ∀ s a, KeepsForms s (f s a)) (as : List α) (s : State) :
    KeepsForms s (as.foldl f s) := by
  induction as generalizing s with
  | nil => exact refl s
  | cons a as ih => exact (h s a).trans (ih (f s a))

theorem of_frame (h : Frame l s t) (hi : l.contains .img = false := by rfl) (hs : l.contains .scp = false := by rfl)
    (hf : l.contains .flc = false := by rfl) : KeepsForms s t := (SameForms.of_frame h hi hs hf).keeps

theorem step (h : KeepsForms s t) (k : Frame l t u) (hi : l.contains .img = false := by rfl)
    (hs : l.contains .scp = false := by rfl) (hf : l.contains .flc = false := by rfl) : KeepsForms s u :=
  h.trans (of_frame k hi hs hf)

/-- An operation on SCP that leaves IMG and FLC. -/
theorem of_scp (h : Frame l s t) (hm : memWf s.scp.memory = true → memWf t.scp.memory = true)
    (hq : s.composeOnce → t.composeOnce) (hi : l.contains .img = false := by rfl)
    (hf : l.contains .flc = false := by rfl) : KeepsForms s t :=
  ⟨hm, fun hs => by rwa [imagesWf, h.img hi], hq, fun hs => by rwa [jobsOnce, h.flc hf]⟩

/-- The stored image is replaced by one in canonical form. -/
theorem of_rows {m : ImgUnit} {n : Nat} (hr : s.img.rows.wf = true → m.rows.wf = true)
    (hl : m.loaded = s.img.loaded) : KeepsForms s { s with img := m, cuts := n } :=
  ⟨id, fun hs => ⟨hr hs.1, hl ▸ hs.2⟩, id, id⟩

/-- A line is replaced by one whose queue has each sign once. -/
theorem setLine {m : Fin 2} {x : Line}
    (h : ((s.flc[m]).queue.map Job.sign).Nodup → (x.queue.map Job.sign).Nodup) : KeepsForms s (s.setLine m x) := by
  refine ⟨id, id, id, fun hs j => ?_⟩
  rw [setLine_flc, setAt_get]
  split
  · exact h (hs m)
  · exact hs j

end KeepsForms

/-! ### Service queues (R148) -/

theorem map_sign_replaced {q : List Job} {f : Job → Job} (h : ∀ j, (f j).sign = j.sign) :
    (q.map f).map Job.sign = q.map Job.sign := by
  rw [List.map_map]
  exact List.map_congr_left fun j _ => h j

/-- A job joins a queue in place of the waiting job of its sign, or at the tail when none waits. -/
theorem place_once (x : Line) (job : Job) (b : Bool) (h : (x.queue.map Job.sign).Nodup) :
    ((x.place job b).queue.map Job.sign).Nodup := by
  have replaced : ∀ f : Job → Job, (∀ j, (f j).sign = j.sign) → ((x.queue.map f).map Job.sign).Nodup := fun f hf => by
    rwa [map_sign_replaced hf]
  unfold Line.place
  rw [any_sign_iff]
  split
  · split
    · exact h
    · exact replaced _ fun j => by split <;> rfl
    · exact replaced _ fun j => by
        split
        · next e => exact e.symm
        · rfl
  · next hn =>
    have hnew : job.sign ∉ x.queue.map Job.sign := by simpa using hn
    rw [List.map_append, List.map_singleton, List.nodup_append_comm]
    exact List.nodup_cons.mpr ⟨hnew, h⟩

theorem dropJobs_once (x : Line) (i : Fin 24) (h : (x.queue.map Job.sign).Nodup) :
    ((x.dropJobs i).queue.map Job.sign).Nodup := (List.filter_sublist.map Job.sign).nodup h

theorem keepsForms_placeJob (s : State) (l : Fin 2) (job : Job) (b : Bool) : KeepsForms s (s.placeJob l job b) := by
  unfold placeJob
  split
  · exact .refl s
  · exact .setLine (place_once _ job b)

theorem keepsForms_takeJob (s : State) (l : Fin 2) (j : Job) (t : Trans) (f : Option (List Byte)) :
    KeepsForms s (s.takeJob l j t f) := .setLine (dropJobs_once _ j.sign)

theorem keepsForms_putBackJob (s : State) (l : Fin 2) (t : Trans) : KeepsForms s (s.putBackJob l t) := by
  unfold putBackJob
  dsimp only
  split
  · exact keepsForms_placeJob s l _ _
  · exact keepsForms_placeJob s l _ _
  · exact keepsForms_placeJob s l _ _
  · exact .refl s

/-! ### The compose queue (R141) -/

theorem keepsForms_joinQueue (s : State) (i : Fin 24) : KeepsForms s (s.joinQueue i) := by
  unfold joinQueue
  split
  · exact .refl s
  · next hn =>
    refine .of_scp (l := [.scp]) (Frame.with_scp (Frame.refl _ s)) id fun hq => ?_
    have hnew : i ∉ s.scp.queue := by simpa using hn
    exact (List.nodup_append_comm.trans List.nodup_cons).mpr ⟨hnew, hq⟩

theorem keepsForms_publishToSigns (s : State) : KeepsForms s s.publishToSigns := by
  refine .foldl (fun s i => ?_) _ s
  unfold publishToSign
  split
  · split
    · exact .refl s
    · exact keepsForms_joinQueue s i
  · exact .refl s

theorem keepsForms_requestComposition (s : State) (i : Fin 24) : KeepsForms s (s.requestComposition i) := by
  unfold requestComposition
  split
  · exact keepsForms_joinQueue s i
  · exact .refl s

/-! ### The arbiter (R143) -/

theorem sameForms_lineGranted (s : State) (l : Fin 2) : SameForms s (s.lineGranted l) := by
  unfold lineGranted
  split
  · split
    · exact .setLine rfl
    · exact .setLine rfl
  · exact .refl s

theorem sameForms_grant (s : State) : SameForms s s.grant := by
  unfold grant
  dsimp only
  split
  · exact .refl s
  split
  · exact .setArbiter s _
  split
  · exact (SameForms.setArbiter s _).trans (sameForms_lineGranted _ _)
  split
  · split
    · exact .setArbiter s _
    · exact .refl s
  · exact .refl s

theorem sameForms_composerAsks (s : State) : SameForms s s.composerAsks :=
  (SameForms.setArbiter s _).trans (sameForms_grant _)

theorem sameForms_lineAsks (s : State) (l : Fin 2) : SameForms s (s.lineAsks l) :=
  (SameForms.setArbiter s _).trans (sameForms_grant _)

theorem sameForms_portAsks (s : State) (p : Port) (q : PageReq) : SameForms s (s.portAsks p q) :=
  (SameForms.setArbiter s _).trans (sameForms_grant _)

theorem sameForms_release (s : State) : SameForms s s.release :=
  (SameForms.setArbiter s _).trans (sameForms_grant _)

/-! ### The composer (R135, R139, R142) -/

theorem foldl_apply_wf (m : ImgUnit) (i : Fin 24) (a t : Bool) (ops : List DrawOp) {mem : List Host.Cell}
    (h : memWf mem = true) : memWf (ops.foldl (fun mem op => op.apply m i a t mem) mem) = true :=
  List.foldlRecOn (motive := fun mem => memWf mem = true) ops _ h fun mem hm op _ => DrawOp.apply_wf m i a t mem op hm

theorem keepsForms_finishDrawing (s : State) (r : SignRec) (c : Composition) : KeepsForms s (s.finishDrawing r c) :=
  .of_scp (finishDrawing_frame s r c) (foldl_apply_wf _ _ _ _ _) id

theorem keepsForms_composerTake (s : State) : KeepsForms s s.composerTake := by
  have taken : ∀ i r, KeepsForms s (s.takeSign i r) := fun i r => by
    unfold takeSign
    extract_lets list c x s1 u s2
    have h2 : KeepsForms s s2 :=
      (KeepsForms.of_frame (setSign_frame s i _)).trans
        (.of_scp (l := [.scp]) (Frame.with_scp (Frame.refl _ s1)) id fun hq => hq.filter _)
    split
    · exact h2.trans (sameForms_composerAsks s2).keeps
    · exact h2
  unfold composerTake
  split
  · split
    · split
      · exact taken _ _
      · exact .refl s
    · exact .refl s
  · exact .refl s

theorem keepsForms_compositionEnd (s : State) : KeepsForms s s.compositionEnd := by
  have ended : ∀ c r, KeepsForms s (s.endComposition c r) := fun c r => by
    unfold endComposition
    extract_lets i s1 d dropped x s2 s3 s4 y s5 u
    have h3 : KeepsForms s s3 :=
      ((keepsForms_finishDrawing s r c).step (setSign_frame s1 i _)).trans (keepsForms_placeJob s2 _ _ _)
    have h4 : KeepsForms s3 s4 := by
      unfold s4
      split
      · exact .refl s3
      · exact keepsForms_joinQueue s3 i
    have h5 : KeepsForms s4 { s5 with scp := { s5.scp with composer := none } } :=
      (KeepsForms.of_frame (setSign_frame s4 i _)).trans
        (.of_scp (l := [.scp]) (Frame.with_scp (Frame.refl _ s5)) id id)
    exact (h3.trans (h4.trans h5)).trans (sameForms_grant _).keeps
  unfold compositionEnd
  split
  · split
    · exact ended _ _
    · exact .refl s
  · exact .refl s

/-- The composer's access ends with its mask in page memory. -/
theorem keepsForms_composerAccessEnd (s : State) : KeepsForms s s.composerAccessEnd := by
  have hr := (sameForms_release s).keeps
  unfold composerAccessEnd
  split
  · split
    · extract_lets u s1
      have h1 : KeepsForms s s1 :=
        .of_scp (l := [.scp]) (Frame.with_scp (Frame.refl _ s)) (DrawOp.apply_wf _ _ _ _ _ _) id
      split
      · exact h1.trans (sameForms_release s1).keeps
      · exact h1.trans ((sameForms_release s1).trans (sameForms_composerAsks _)).keeps
    · exact hr
  · exact hr

theorem keepsForms_pageMemoryAccessEnd (s : State) : KeepsForms s s.pageMemoryAccessEnd := by
  unfold pageMemoryAccessEnd
  split
  · exact .refl s
  · exact keepsForms_composerAccessEnd s
  · exact (sameForms_release s).keeps
  · split
    · exact ((sameForms_release s).step (answerBody_frame _ _ _)).keeps
    · exact (sameForms_release s).keeps

/-! ### Light and scans (R138) -/

theorem keepsForms_lightToSigns (s : State) : KeepsForms s s.lightToSigns := by
  refine .foldl (fun s i => ?_) _ s
  unfold lightToSign
  split
  · dsimp only
    split
    · exact .of_frame (setSign_frame s i _)
    · exact (KeepsForms.of_frame (setSign_frame s i _)).trans (keepsForms_placeJob _ _ _ _)
  · exact .refl s

theorem keepsForms_conversionEnd (s : State) (n : Nat) (ovf : Bool) : KeepsForms s (s.conversionEnd n ovf) := by
  have measured : ∀ m, KeepsForms s { s with mea := m } := fun m =>
    .of_frame (Frame.with_mea (l := [.mea]) (Frame.refl _ s))
  unfold conversionEnd
  split
  · exact .refl s
  · dsimp only
    split
    · exact ((measured _).step (Frame.foldl _ _ handStation_frame _)).trans (keepsForms_lightToSigns _)
    · exact measured _

/-! ### Transfers and replies (R150 to R154) -/

theorem keepsForms_pageTransfer (s : State) (l : Fin 2) : KeepsForms s (s.pageTransfer l) := by
  unfold pageTransfer
  split
  · split
    · exact (keepsForms_takeJob s l _ _ _).step (beginTransfer_frame _ _)
    · exact .refl s
  · exact .refl s

theorem keepsForms_lampTransfer (s : State) (l : Fin 2) : KeepsForms s (s.lampTransfer l) := by
  unfold lampTransfer
  split
  · split
    · exact ((keepsForms_takeJob s l _ _ _).step (beginTransfer_frame _ _)).trans (sameForms_lineAsks _ l).keeps
    · exact .refl s
  · exact .refl s

theorem keepsForms_brightnessJob (s : State) (l : Fin 2) : KeepsForms s (s.brightnessJob l) := by
  unfold brightnessJob
  split
  · split
    · exact keepsForms_takeJob s l _ _ _
    · exact .refl s
  · exact .refl s

theorem sameForms_poll (s : State) (l : Fin 2) : SameForms s (s.poll l) := by
  unfold poll
  split
  · exact .setLine rfl
  · exact .refl s

theorem sameForms_pageBlock (s : State) (l : Fin 2) : SameForms s (s.pageBlock l) := by
  unfold pageBlock
  split
  · split
    · exact .setLine rfl
    · exact .refl s
  · exact .refl s

theorem sameForms_fieldFrameSent (s : State) (l : Fin 2) : SameForms s (s.fieldFrameSent l) := by
  unfold fieldFrameSent
  split
  · have h1 : SameForms s (s.setLine l { s.flc[l] with wire := none }) := .setLine rfl
    dsimp only
    split
    · unfold afterPageFrame
      split
      · exact h1.trans (sameForms_lineAsks _ l)
      split
      · exact h1.trans (.setLine rfl)
      · exact h1.trans (.setLine rfl)
    all_goals exact h1.trans (.setLine rfl)
  · exact .refl s

theorem sameForms_endTransaction (s : State) (l : Fin 2) (t : Trans) : SameForms s (s.endTransaction l t) :=
  (SameForms.setLine (x := (s.flc[l]).finished) rfl).step (setSign_frame _ _ _)

theorem sameForms_misplacedReply (s : State) (l : Fin 2) : SameForms s (s.misplacedReply l) := by
  unfold misplacedReply
  dsimp only
  split
  · exact .setLine rfl
  split
  · exact .setLine rfl
  · exact .refl s

theorem keepsForms_takeConfirm (s : State) (l : Fin 2) (t : Trans) (q : SignReply) :
    KeepsForms s (s.takeConfirm l t q) := by
  have hreport := ((sameForms_endTransaction s l t).step (takeReport_frame _ l t.sign q)).keeps
  unfold takeConfirm
  dsimp only
  split
  · exact (hreport.step (setSign_frame _ _ _)).step (exchangeRoles_frame _ _)
  · exact ((hreport.step (setSign_frame _ _ _)).step (reportLink_frame _ _ _)).trans (keepsForms_putBackJob _ _ _)

theorem keepsForms_confirm (s : State) (l : Fin 2) (q : SignReply) : KeepsForms s (s.confirm l q) := by
  have misplaced := (sameForms_misplacedReply s l).keeps
  unfold confirm
  split
  · split
    · exact keepsForms_takeConfirm s l _ q
    · exact keepsForms_takeConfirm s l _ q
    all_goals exact misplaced
  · exact misplaced

theorem keepsForms_takeStatusLink (s : State) (i : Fin 24) (c : Check) : KeepsForms s (s.takeStatusLink i c) := by
  have moved : ∀ k, KeepsForms s ((s.reportLink i k).requestComposition i) := fun k =>
    (KeepsForms.of_frame (reportLink_frame s i k)).trans (keepsForms_requestComposition _ i)
  unfold takeStatusLink
  split
  · split
    · exact .refl s
    · exact moved _
  · exact moved _
  all_goals exact .refl s

theorem keepsForms_status (s : State) (l : Fin 2) (q : SignReply) : KeepsForms s (s.status l q) := by
  have misplaced := (sameForms_misplacedReply s l).keeps
  have taken : ∀ t, KeepsForms s (s.takeStatus l t q) := fun t =>
    ((sameForms_endTransaction s l t).step (takeReport_frame _ l t.sign q)).keeps.trans
      (keepsForms_takeStatusLink _ _ _)
  unfold status
  split
  · split
    · exact taken _
    · exact taken _
    all_goals exact misplaced
  · exact misplaced

theorem keepsForms_goOffline (s : State) (l : Fin 2) (i : Fin 24) : KeepsForms s (s.goOffline l i) :=
  (KeepsForms.setLine (dropJobs_once _ i)).step (reportLink_frame _ i _)

theorem keepsForms_takeNoReply (s : State) (l : Fin 2) (t : Trans) : KeepsForms s (s.takeNoReply l t) := by
  unfold takeNoReply
  extract_lets i s0 n x s1
  have hcount : SameForms s0 (s0.setLine l (s0.flc[l].setCounters s0.flc[l].counters.addNoReply)) := .setLine rfl
  have h1 : KeepsForms s s1 := (((sameForms_endTransaction s l t).trans hcount).step (setSign_frame _ i _)).keeps
  have offline := h1.trans (keepsForms_goOffline s1 l i)
  have hlink : KeepsForms s (if n = 3 then s1.goOffline l i else (s1.reportLink i .pending).putBackJob l t) := by
    split
    · exact offline
    · exact (h1.step (reportLink_frame s1 i _)).trans (keepsForms_putBackJob _ l t)
  have hquiet : KeepsForms s (if n = 3 then (if s1.signs[i].link = .offline then s1 else s1.goOffline l i)
      else s1.putBackJob l t) := by
    split
    · split
      · exact h1
      · exact offline
    · exact h1.trans (keepsForms_putBackJob s1 l t)
  split
  · exact hlink
  · exact hlink
  · exact hquiet
  · exact hquiet

theorem keepsForms_replyLimitExpiry (s : State) (l : Fin 2) : KeepsForms s (s.replyLimitExpiry l) := by
  unfold replyLimitExpiry
  split
  · exact keepsForms_takeNoReply s l _
  · exact .refl s

theorem sameForms_invalidReply (s : State) (l : Fin 2) (c : InvalidCause) : SameForms s (s.invalidReply l c) := by
  unfold invalidReply
  split
  · exact .setLine rfl
  · exact .refl s

theorem sameForms_strayCharacter (s : State) (l : Fin 2) (c : CharStatus) : SameForms s (s.strayCharacter l c) := by
  unfold strayCharacter
  split
  · exact .refl s
  · exact .setLine rfl

theorem keepsForms_passCompletion (s : State) : KeepsForms s s.passCompletion := by
  unfold passCompletion
  split
  · exact .refl s
  dsimp only
  split
  · exact .of_frame (passIdle_frame s)
  · exact ((((KeepsForms.of_frame (passIdle_frame s)).step (publishTable_frame _ _)).step
      (publishToGates_frame _)).trans (keepsForms_publishToSigns _)).step (publishToPaths_frame _)

end State

end Sys2Proof.Machine
end

section
/-! ## Page memory, the rows and the queues under requests, starts and the step -/

set_option Elab.async false

namespace Sys2Proof.Machine

namespace State

/-! ### The clock, the rows and the starts (R172 to R174) -/

theorem sameForms_jumpTo (s : State) (t : Nat) : SameForms s (s.jumpTo t) := by
  have hset : SameForms s (s.setClock t) := .with_img
  unfold jumpTo
  dsimp only
  split
  · exact hset.step (advanceOrders_frame _ t)
  split
  · exact hset.step (rewindOrders_frame _ t)
  · exact hset

theorem sameForms_timeSet (s : State) (a : Asker) (args : List Byte) : SameForms s (timeSet a args s) :=
  ((sameForms_jumpTo s _).trans .with_img).step
    (answer_frame _ _ _ _)

theorem sameForms_clockTick (s : State) : SameForms s s.clockTick := by
  have hset : SameForms s (s.setClock (s.img.clock + 1)) := .with_img
  unfold clockTick
  split
  · dsimp only
    split
    · exact hset.step (advanceOrders_frame _ _)
    · exact hset
  · exact .refl s

/-- IMG takes requests without writing a row (R172). -/
theorem sameForms_takeWaiting (l : List ImgReq) (s : State) : SameForms s (State.takeWaiting l s) := by
  induction l generalizing s with
  | nil => exact .with_img
  | cons q t ih =>
    have answered : ∀ rc d, SameForms s (State.takeWaiting t (s.imgAnswer q rc d)) := fun rc d =>
      (SameForms.of_frame (imgAnswer_frame s q rc d)).trans (ih _)
    unfold State.takeWaiting
    split
    · exact answered _ _
    split
    · exact answered _ _
    · exact .with_img

theorem sameForms_imgTake (s : State) (q : ImgReq) : SameForms s (s.imgTake q) := by
  unfold imgTake
  split
  · exact .with_img
  · exact sameForms_takeWaiting _ s

theorem keepsForms_cutWrite (s : State) : KeepsForms s s.cutWrite := by
  unfold cutWrite
  split
  · exact .of_rows (Rows.set_wf _ _ _) rfl
  · exact .refl s

/-- The rows that a start finds are canonical, and it loads them. -/
theorem started_images {s : State} (c : StartCause) (h : s.imagesWf) : (s.started c).imagesWf := by
  have hcut : ({ s with powered := true } : State).cutWrite.imagesWf := (keepsForms_cutWrite _).images h
  unfold started
  extract_lets s0 s1
  have h1 : s1.img.rows.wf = true := by
    unfold s1
    split
    · exact hcut.1
    · exact hcut.1
  rw [imagesWf, (startPorts_frame _ _).img]
  exact ⟨h1, h1⟩

/-- A start empties page memory and the service queues, and queues every sign in use once (R130, R155). -/
theorem keepsForms_start (s : State) (c : StartCause) : KeepsForms s (s.start c) := by
  rw [start_eq]
  refine ⟨fun _ => ?_, fun hs => ?_, fun _ => ?_, fun _ l => ?_⟩
  · rw [startBlocks_scp]
    rfl
  · rw [imagesWf, (startBlocks_frame _).img]
    exact started_images c hs
  · rw [composeOnce, startBlocks_scp]
    exact List.Nodup.filter (fun i => ((s.started c).sign? i.val).isSome) (List.nodup_finRange 24)
  · rw [startBlocks_flc]
    simp [Line.atStart]

theorem keepsForms_powerUp (s : State) (kept : Bool) : KeepsForms s (s.powerUp kept) := by
  have hb : SameForms s (s.afterBackup kept) := by
    unfold afterBackup
    split
    · exact .refl s
    · exact .with_img
  exact hb.keeps.trans (keepsForms_start _ _)

theorem keepsForms_resetPin (s : State) : KeepsForms s s.resetPin := by
  unfold resetPin
  split
  · exact keepsForms_start s _
  · exact .refl s

theorem keepsForms_mainPowerLoss (s : State) : KeepsForms s s.mainPowerLoss := by
  unfold mainPowerLoss
  split
  · exact (keepsForms_cutWrite s).step
      (Frame.with_gtc (l := [.powered, .gtc]) (Frame.with_powered (Frame.refl _ s.cutWrite)))
  · exact .refl s

theorem keepsForms_rowWriteComplete (s : State) : KeepsForms s s.rowWriteComplete := by
  unfold rowWriteComplete
  split
  · next q _ =>
    extract_lets s1 s2
    have h1 : KeepsForms s s1 := .of_rows (Rows.set_wf _ _ _) rfl
    have h2 : KeepsForms s s2 := h1.step (imgAnswer_frame s1 q _ _)
    split
    · unfold restartAfterWrite
      split
      · exact h2.trans (SameForms.with_img).keeps
      · exact h2.trans (keepsForms_start s2 _)
    · exact h2.trans (sameForms_takeWaiting _ s2).keeps
  · exact .refl s

/-- A break discards replies; of IMG and SCP no row, queue or page is touched (R160). -/
theorem sameForms_resetPort (s : State) (p : Port) : SameForms s (s.resetPort p) := by
  have hdrop : SameForms s (s.dropReplies p) := ⟨rfl, rfl, rfl, rfl, fun _ => rfl⟩
  exact (hdrop.step (setPort_frame _ _ _)).step (record_frame _ _)

theorem keepsForms_portBreak (s : State) (p : Port) : KeepsForms s (s.portBreak p) := by
  unfold portBreak
  split
  · exact .refl s
  · refine (sameForms_resetPort s p).keeps.trans ?_
    unfold restartFor
    split
    · exact keepsForms_start _ _
    · exact .refl _

/-! ### The owners of requests -/

theorem keepsForms_answer (s : State) (a : Asker) (rc : ReplyCode) (d : List Byte) : KeepsForms s (s.answer a rc d) :=
  .of_frame (answer_frame s a rc d)

theorem keepsForms_orderLift (s : State) (a : Asker) (args : List Byte) : KeepsForms s (orderLift a args s) := by
  have retired : ∀ n r, KeepsForms s (s.retire n r) := fun n r => .of_frame (retire_frame s n r)
  unfold orderLift
  split
  · exact keepsForms_answer s a _ _
  split
  · exact keepsForms_answer s a _ _
  split
  · exact ((retired _ _).step (suppressFor_frame _ _)).step (answer_frame _ _ _ _)
  split
  · exact keepsForms_answer s a _ _
  split
  · exact .of_frame (liftLinked_frame s a _ _)
  · exact (retired _ _).step (answer_frame _ _ _ _)

theorem keepsForms_signPageRead (s : State) (a : Asker) (args : List Byte) : KeepsForms s (signPageRead a args s) := by
  unfold signPageRead
  dsimp only
  split
  · split
    · split
      · exact keepsForms_answer s a _ _
      · split
        · exact (sameForms_portAsks s _ _).keeps
        · exact keepsForms_answer s a _ _
    · exact keepsForms_answer s a _ _
  · exact keepsForms_answer s a _ _

theorem keepsForms_restartRequest (s : State) : KeepsForms s s.restartRequest := by
  unfold restartRequest
  split
  · exact (SameForms.with_img).keeps
  · exact keepsForms_start s _

theorem keepsForms_serveOwner (s : State) (r : Request) (a : Asker) (args : List Byte) :
    KeepsForms s (serveOwner r a args s) := by
  cases r with
  | orderPost => exact .of_frame (orderPost_frame s a args)
  | orderLift => exact keepsForms_orderLift s a args
  | trimSet => exact .of_frame (trimSet_frame s a args)
  | pathHold => exact .of_frame (pathHold_frame s a args)
  | pathEndHold => exact .of_frame (pathEndHold_frame s a args)
  | pathClear => exact .of_frame (pathClear_frame s a args)
  | gateInhibit => exact .of_frame (gateInhibit_frame s a args)
  | gateReset => exact .of_frame (gateReset_frame s a args)
  | signPageRead => exact keepsForms_signPageRead s a args
  | timeSet => exact (sameForms_timeSet s a args).keeps
  | imageRead | imageWrite => exact (sameForms_imgTake s _).keeps
  | restart => exact keepsForms_restartRequest s
  | orderRead | orderList | aspectRead | stationRead | channelRead | pathRead | gateRead | signRead | timeRead
  | portStatus => exact .of_frame (serveOwner_read_frame s _ a args (by decide))

/-- Whatever a port sets going. -/
theorem KeepsForms.of_run {s t : State} (h : PortRun s t) : KeepsForms s t := by
  induction h with
  | refl => exact .refl s
  | tail _ hop ih =>
    refine ih.trans ?_
    cases hop with
    | port p q => exact .of_frame (setPort_frame _ p q)
    | answer a rc d => exact keepsForms_answer _ a rc d
    | owner r a args => exact keepsForms_serveOwner _ r a args
    | start c => exact keepsForms_start _ c

/-! ### The step -/

/-- A command that acts on a powered device alone. -/
theorem keepsForms_whenPowered {s : State} {f : State → State} (h : KeepsForms s (f s)) :
    KeepsForms s (s.whenPowered f) := by
  unfold whenPowered
  split
  · exact h
  · exact .refl s

/-- Such a command of a port. -/
theorem keepsForms_run {s : State} {f : State → State} (h : PortRun s (f s)) : KeepsForms s (s.whenPowered f) :=
  keepsForms_whenPowered (.of_run h)

/-- Such a command that leaves page memory, the rows and the queues. -/
theorem keepsForms_same {s : State} {f : State → State} (h : SameForms s (f s)) : KeepsForms s (s.whenPowered f) :=
  keepsForms_whenPowered h.keeps

/-- Such a command that leaves IMG, SCP and FLC as a whole. -/
theorem keepsForms_powered {l : List Field} {s : State} {f : State → State} (h : Frame l s (f s))
    (hi : l.contains .img = false := by rfl) (hs : l.contains .scp = false := by rfl)
    (hf : l.contains .flc = false := by rfl) : KeepsForms s (s.whenPowered f) :=
  keepsForms_whenPowered (.of_frame h hi hs hf)

/-- Every command answers a next state and keeps page memory, the rows and the queues in their forms. -/
theorem exec_keepsForms (s : State) (c : Instr) : ∃ t, exec c s = .next t ∧ KeepsForms s t := by
  cases c with
  | orderPost p tag args | orderLift p tag args | orderRead p tag args | orderList p tag args | aspectRead p tag args
  | stationRead p tag args | channelRead p tag args | trimSet p tag args | pathRead p tag args | pathHold p tag args
  | pathEndHold p tag args | pathClear p tag args | gateRead p tag args | gateInhibit p tag args
  | gateReset p tag args | signRead p tag args | signPageRead p tag args | timeSet p tag args | timeRead p tag args
  | imageRead p tag args | imageWrite p tag args | restart p tag args | portStatus p tag args =>
    exact ⟨_, rfl, .of_run (.receiveRequest s _ p tag args)⟩
  | frameDiscard p c => exact ⟨_, rfl, keepsForms_run (.frameDiscard s p c)⟩
  | strayByte p b => exact ⟨_, rfl, keepsForms_run (.receiveByte s p b)⟩
  | xoff p | xon p => exact ⟨_, rfl, keepsForms_run (.receiveByte s p _)⟩
  | portBreak p => exact ⟨_, rfl, keepsForms_whenPowered (keepsForms_portBreak s p)⟩
  | replyPlace p => exact ⟨_, rfl, keepsForms_run (.replyPlace s p)⟩
  | noticeSend p => exact ⟨_, rfl, keepsForms_powered (noticeSend_frame s p)⟩
  | portFrameSent p => exact ⟨_, rfl, keepsForms_powered (portFrameSent_frame s p)⟩
  | rxFifoOverrun p => exact ⟨_, rfl, keepsForms_powered (rxFifoOverrun_frame s p)⟩
  | breakEnd p => exact ⟨_, rfl, keepsForms_powered (breakEnd_frame s p)⟩
  | clockTick => exact ⟨_, rfl, (sameForms_clockTick s).keeps⟩
  | passBegin => exact ⟨_, rfl, keepsForms_powered (passBegin_frame s)⟩
  | passCompletion => exact ⟨_, rfl, keepsForms_whenPowered (keepsForms_passCompletion s)⟩
  | scanTimerExpiry => exact ⟨_, rfl, keepsForms_powered (scanTimerExpiry_frame s)⟩
  | comparatorTrip n => exact ⟨_, rfl, keepsForms_whenPowered (keepsForms_conversionEnd s _ _)⟩
  | countOverflow => exact ⟨_, rfl, keepsForms_whenPowered (keepsForms_conversionEnd s _ _)⟩
  | improvementTimerExpiry k => exact ⟨_, rfl, keepsForms_powered (improvementExpiry_frame s k)⟩
  | anemometerEdge i n h => exact ⟨_, rfl, keepsForms_powered (anemometerEdge_frame s i n.val h)⟩
  | anemometerCalm i => exact ⟨_, rfl, keepsForms_powered (anemometerCalm_frame s i)⟩
  | windSample => exact ⟨_, rfl, keepsForms_powered (windSample_frame s)⟩
  | acceptedZone l z => exact ⟨_, rfl, keepsForms_powered (acceptedZone_frame s l z)⟩
  | confirmTimerExpiry k => exact ⟨_, rfl, keepsForms_powered (confirmExpiry_frame s k)⟩
  | loopSample v => exact ⟨_, rfl, keepsForms_powered (loopSample_frame s v)⟩
  | openLimitAccepted g v => exact ⟨_, rfl, .of_frame (openLimitAccepted_frame s g v)⟩
  | closedLimitAccepted g v => exact ⟨_, rfl, .of_frame (closedLimitAccepted_frame s g v)⟩
  | obstructionAccepted g v => exact ⟨_, rfl, .of_frame (obstructionAccepted_frame s g v)⟩
  | signWaitExpiry g => exact ⟨_, rfl, keepsForms_powered (signWaitExpiry_frame s g)⟩
  | countdownEnd g => exact ⟨_, rfl, keepsForms_powered (countdownExpiry_frame s g)⟩
  | travelTimerExpiry g => exact ⟨_, rfl, keepsForms_powered (travelExpiry_frame s g)⟩
  | retryDelayExpiry g => exact ⟨_, rfl, keepsForms_powered (retryExpiry_frame s g)⟩
  | deadTimeEnd g => exact ⟨_, rfl, keepsForms_powered (deadTimeEnd_frame s g)⟩
  | dutyPeriodEnd g => exact ⟨_, rfl, keepsForms_powered (dutyPeriodEnd_frame s g)⟩
  | lanternFrameBoundary => exact ⟨_, rfl, keepsForms_powered (lanternBoundary_frame s)⟩
  | composerTake => exact ⟨_, rfl, keepsForms_whenPowered (keepsForms_composerTake s)⟩
  | compositionEnd => exact ⟨_, rfl, keepsForms_whenPowered (keepsForms_compositionEnd s)⟩
  | pageMemoryAccessEnd => exact ⟨_, rfl, keepsForms_whenPowered (keepsForms_pageMemoryAccessEnd s)⟩
  | pollTimerExpiry i => exact ⟨_, rfl, keepsForms_powered (pollTimerExpiry_frame s i)⟩
  | pageTransfer l => exact ⟨_, rfl, keepsForms_whenPowered (keepsForms_pageTransfer s l)⟩
  | lampTransfer l => exact ⟨_, rfl, keepsForms_whenPowered (keepsForms_lampTransfer s l)⟩
  | brightnessJob l => exact ⟨_, rfl, keepsForms_whenPowered (keepsForms_brightnessJob s l)⟩
  | poll l => exact ⟨_, rfl, keepsForms_same (sameForms_poll s l)⟩
  | pageBlock l => exact ⟨_, rfl, keepsForms_same (sameForms_pageBlock s l)⟩
  | fieldFrameSent l => exact ⟨_, rfl, keepsForms_same (sameForms_fieldFrameSent s l)⟩
  | confirm l q => exact ⟨_, rfl, keepsForms_whenPowered (keepsForms_confirm s l q)⟩
  | status l q => exact ⟨_, rfl, keepsForms_whenPowered (keepsForms_status s l q)⟩
  | replyLimitExpiry l => exact ⟨_, rfl, keepsForms_whenPowered (keepsForms_replyLimitExpiry s l)⟩
  | invalidReply l c => exact ⟨_, rfl, keepsForms_same (sameForms_invalidReply s l c)⟩
  | strayCharacter l c => exact ⟨_, rfl, keepsForms_same (sameForms_strayCharacter s l c)⟩
  | rowWriteComplete => exact ⟨_, rfl, keepsForms_whenPowered (keepsForms_rowWriteComplete s)⟩
  | powerUp kept => exact ⟨_, rfl, keepsForms_powerUp s kept⟩
  | resetPin => exact ⟨_, rfl, keepsForms_resetPin s⟩
  | mainPowerLoss => exact ⟨_, rfl, keepsForms_mainPowerLoss s⟩

theorem step_keepsForms {s t : State} (h : step s = .next t) : KeepsForms s t := by
  unfold step at h
  split at h
  · next c rest _ =>
    have hq : KeepsForms s { s with pending := rest } :=
      .of_frame (Frame.with_pending (l := [.pending]) (Frame.refl _ s))
    obtain ⟨u, hu, hk⟩ := exec_keepsForms { s with pending := rest } c
    rw [hu] at h
    cases h
    exact hq.trans hk
  · cases h
    exact keepsForms_powered (second_frame s)

end State

/-- Settles O6: page memory and the rows change by writes that keep their forms, a sign joins a queue only where it does not
wait, and a start empties page memory and sets the queues anew. -/
theorem formsAndQueuesKept : Obligations.FormsAndQueuesKept := by
  intro s t ht
  obtain ⟨hmem, himg, hcompose, hjobs⟩ := State.step_keepsForms ht
  exact ⟨fun h => ⟨hmem h.1, himg h.2⟩, fun h => ⟨hcompose h.1, hjobs h.2⟩⟩

end Sys2Proof.Machine
end

section
/-! ## A break resets its port (R143, R160, R163) -/

set_option Elab.async false

namespace Sys2Proof.Machine

namespace State

theorem dropImg_eq {p : Port} {noReply : ImgReq → ImgReq}
    (h : ∀ q, noReply q = if q.port = some p then { q with port := none } else q) : noReply = dropImg p := funext h

theorem portBreak_spacing {s : State} {p : Port} (h : (s.port p).spacing = true) : s.portBreak p = s := by
  rw [portBreak, if_pos h]

theorem portBreak_resets {s : State} {p : Port} (h : (s.port p).spacing = false) :
    s.portBreak p = (s.resetPort p).restartFor p := by
  rw [portBreak, if_neg (ne_true_of_eq_false h)]

/-- The port that a RESTART waits for is left by the break (R174). -/
theorem resetPort_replyTo (s : State) (p : Port) : (s.resetPort p).img.replyTo = s.img.replyTo := by
  rw [resetPort, (record_frame _ _).img]
  rfl

end State

/-- Settles O17: a break that acts discards the owners' replies, resets the port and records, and then a RESTART begins that
waited for this port. -/
theorem breakResetsThePort : Obligations.BreakResetsThePort := by
  refine fun p s hp => ⟨fun h => ?_, fun h dropped t noReply hno hdropped ht => ?_, ?_⟩
  · rw [exec_powered hp (i := .portBreak p) rfl, State.portBreak_spacing h]
  · have hreset : t = s.resetPort p := by
      rw [ht, hdropped, State.dropImg_eq hno]
      rfl
    have hbreak : exec (.portBreak p) s = .next (t.restartFor p) := by
      rw [exec_powered hp (i := .portBreak p) rfl, State.portBreak_resets h, hreset]
    have hreply : t.img.replyTo = s.img.replyTo := by rw [hreset, State.resetPort_replyTo]
    rw [hbreak, State.restartFor, hreply]
    exact ⟨fun hr => by rw [if_neg hr], fun hr => by rw [if_pos hr]⟩
  · exact exec_powered hp (i := .breakEnd p) rfl

end Sys2Proof.Machine
end

section
/-! ## Replies, missing replies and the link of a sign (R140, R144, R147, R148, R151 to R154) -/

set_option Elab.async false

namespace Sys2Proof.Machine

/-! ### The job put back (R148) -/

/-- A service queue that a job joins: in place of the waiting job of its sign, or at the tail when none waits. -/
def joined (job : Job) (q : List Job) : List Job :=
  if job.sign ∈ q.map Job.sign then q.map (fun w => if w.sign = job.sign then job else w) else q ++ [job]

/-- A page or lamp job joins a queue, whoever places it. -/
theorem place_joined {job : Job} (h : job.kind ≠ .bright) (b : Bool) (x : Line) :
    x.place job b = { x with queue := joined job x.queue } := by
  unfold Line.place joined
  rw [any_sign_iff]
  by_cases hm : job.sign ∈ x.queue.map Job.sign
  · rw [if_pos (decide_eq_true hm), if_pos hm]
    cases hk : job.kind with
    | bright => exact absurd hk h
    | page _ _ _ | lamp _ => rfl
  · rw [if_neg (by simpa using hm), if_neg hm]

/-- A brightness job put back stands behind the waiting job of its sign. -/
theorem place_bright_back {job : Job} (h : job.kind = .bright) (x : Line) : x.place job true =
    if job.sign ∈ x.queue.map Job.sign then x else { x with queue := x.queue ++ [job] } := by
  unfold Line.place
  rw [any_sign_iff, h]
  by_cases hm : job.sign ∈ x.queue.map Job.sign
  · rw [if_pos (decide_eq_true hm), if_pos hm]
  · rw [if_neg (by simpa using hm), if_neg hm]

/-- A page or lamp transfer (R150), not a brightness job or a poll. -/
def TransKind.transfers : TransKind → Bool
  | .page _ _ _ | .lamp _ => true
  | .bright | .poll => false

/-- A sign with the items of a valid reply (R153, R154). -/
def Sign.reported (limit : Nat) (q : SignReply) (x : Sign) : Sign := { x with
  noReply := 0, repGen := some q.generation.toNat, repCheck := some q.check, door := some (decide (q.door ≠ 0#8))
  lampFaults := some (min 63 q.lampFaults.toNat), degraded := decide (limit ≤ min 63 q.lampFaults.toNat) }

theorem TransKind.transfers_of_job {k : TransKind} {j : JobKind} (h : k.job = some j) (hb : k ≠ .bright) :
    k.transfers = true ∧ j ≠ .bright := by
  cases k with
  | page _ _ _ | lamp _ =>
    cases h
    exact ⟨rfl, nofun⟩
  | bright => exact absurd rfl hb
  | poll => cases h

theorem TransKind.transfers_query {k : TransKind} (h : k = .bright ∨ k = .poll) : k.transfers = false := by
  rcases h with rfl | rfl
  · rfl
  · rfl

namespace State

/-! ### Units replaced one after the other -/

theorem setSign_get (s : State) (i : Fin 24) (x : Sign) : (s.setSign i x).signs[i] = x := setAt_get_same s.signs i x

theorem setSign_setSign (s : State) (i : Fin 24) (x y : Sign) : (s.setSign i x).setSign i y = s.setSign i y := by
  simp only [setSign, setAt_setAt]

theorem setLine_setLine (s : State) (l : Fin 2) (x y : Line) : (s.setLine l x).setLine l y = s.setLine l y := by
  simp only [setLine, setAt_setAt]

theorem setLine_self (s : State) (l : Fin 2) : s.setLine l s.flc[l] = s := by simp [setLine]

theorem setLine_get (s : State) (l : Fin 2) (x : Line) : (s.setLine l x).flc[l] = x := setAt_get_same s.flc l x

theorem setSign_setLine (s : State) (i : Fin 24) (x : Sign) (l : Fin 2) (y : Line) :
    (s.setSign i x).setLine l y = (s.setLine l y).setSign i x := rfl

/-! ### Closure-confirmed and the link (R140, R144) -/

/-- Of a sign, the review changes closure-confirmed alone. -/
theorem reviewConfirmed_sign (s : State) (i : Fin 24) :
    ∃ c, (s.reviewConfirmed i).signs[i] = { s.signs[i] with confirmed := c } := by
  unfold reviewConfirmed
  extract_lets c
  split
  · exact ⟨s.signs[i].confirmed, rfl⟩
  · let x : Sign := { s.signs[i] with confirmed := c }
    have hsigns : (((s.setSign i x).reportSignToGates i).reportSignToPaths i).signs = (s.setSign i x).signs :=
      (reportSignToPaths_frame _ i).signs.trans (reportSignToGates_frame (s.setSign i x) i).signs
    exact ⟨c, (congrArg (fun v : Vector Sign 24 => v[i]) hsigns).trans (setSign_get s i x)⟩

theorem reportLink_setSign (s : State) (i : Fin 24) (x : Sign) (k : Link) :
    (s.setSign i x).reportLink i k = (s.setSign i { x with link := k }).reviewConfirmed i := by
  rw [reportLink, setSign_get, setSign_setSign]

theorem exchangeRoles_setSign (s : State) (i : Fin 24) (x : Sign) : (s.setSign i x).exchangeRoles i =
    (s.setSign i { x with link := .confirmed, liveIsA := !x.liveIsA }).reviewConfirmed i := by
  rw [exchangeRoles, setSign_get, setSign_setSign]

/-- A job put back after the link was reported: the sign is not OFFLINE, and its brightness is as before. -/
theorem putBackJob_reviewed {u v : State} {l : Fin 2} {t : Trans} {x : Sign} {k : JobKind} (hk : t.kind.job = some k)
    (hb : k ≠ .bright) (hx : x.link ≠ .offline) (hu : u = (v.setSign t.sign x).reviewConfirmed t.sign) :
    u.putBackJob l t =
      u.setLine l { v.flc[l] with queue := joined ⟨t.sign, k, x.brightness⟩ (v.flc[l]).queue } := by
  obtain ⟨c, hc⟩ := reviewConfirmed_sign (v.setSign t.sign x) t.sign
  rw [setSign_get, ← hu] at hc
  have hflc : u.flc = v.flc := by rw [hu, (reviewConfirmed_frame _ _).flc, setSign_flc]
  have hplace : u.putBackJob l t = u.placeJob l ⟨t.sign, k, x.brightness⟩ true := by
    have hlevel : u.signs[t.sign].brightness = x.brightness := by rw [hc]
    rw [← hlevel]
    unfold putBackJob
    cases hkind : t.kind with
    | page _ _ _ | lamp _ | bright | poll =>
      rw [hkind] at hk
      cases hk <;> rfl
  rw [hplace, placeJob, if_neg (by rw [hc]; exact hx), hflc, place_joined hb]

/-! ### The end of a transaction, and what a valid reply stores (R151 to R154) -/

theorem endTransaction_eq (s : State) (l : Fin 2) (t : Trans) : s.endTransaction l t =
    (s.setLine l (s.flc[l]).finished).setSign t.sign { s.signs[t.sign] with
      pollTimer := 0, transfer := !t.kind.transfers && s.signs[t.sign].transfer } := by
  unfold endTransaction TransKind.transfers
  cases t.kind <;> rfl

/-- The two events of a valid reply (R153, R154). -/
def recordReport (i : Fin 24) (limit : Nat) (q : SignReply) (x : Sign) (s : State) : State :=
  let s1 := if x.door = some (decide (q.door ≠ 0#8)) then s else s.record (.signDoor i.val (decide (q.door ≠ 0#8)))
  if limit ≤ min 63 q.lampFaults.toNat ∧ x.degraded = false then
    s1.record (.signDegraded i.val (min 63 q.lampFaults.toNat) limit)
  else s1

theorem recordReport_frame (i : Fin 24) (limit : Nat) (q : SignReply) (x : Sign) (s : State) :
    Frame [.prt] s (s.recordReport i limit q x) := by
  unfold recordReport
  extract_lets s1
  have h1 : Frame [.prt] s s1 := by
    unfold s1
    split
    · exact .refl _ s
    · exact record_frame s _
  split
  · exact h1.trans (record_frame s1 _)
  · exact h1

theorem faults_eq (q : SignReply) : SignReply.faults q = min 63 q.lampFaults.toNat := by
  unfold SignReply.faults
  split <;> omega

/-- A valid reply stores its items and records its events, each under its condition alone. -/
theorem takeReport_setSign (s : State) (l : Fin 2) (i : Fin 24) (q : SignReply) (x : Sign) :
    (s.setSign i x).takeReport l i q =
      (s.recordReport i (s.img.lampFaultLimit l) q x).setSign i (x.reported (s.img.lampFaultLimit l) q) := by
  unfold takeReport recordReport
  simp only [setSign_get, setSign_setSign, faults_eq, setSign_img, decide_eq_true_eq, Bool.not_eq_true']
  split <;> split <;> rfl

/-! ### The three outcomes on a sign whose transaction is over -/

section Outcome
variable {s a c : State} {l : Fin 2} {t : Trans} {q : SignReply} {x y : Sign}
  (ha : s.endTransaction l t = a.setSign t.sign x)
  (hc : c = a.recordReport t.sign (a.img.lampFaultLimit l) q x)
  (hy : y = x.reported (a.img.lampFaultLimit l) q)
include ha hc hy

theorem reported_eq : (s.endTransaction l t).takeReport l t.sign q = c.setSign t.sign y := by
  rw [ha, takeReport_setSign, hc, hy]

/-- A CONFIRM that matches DRAFT (R140, R151). -/
theorem takeConfirm_matches (hm : x.draft.map Composed.check = some q.check) : s.takeConfirm l t q =
    (c.setSign t.sign { y with mismatch := 0, link := .confirmed, liveIsA := !y.liveIsA }).reviewConfirmed t.sign := by
  have hd : y.draft = x.draft := by rw [hy]; rfl
  rw [takeConfirm, reported_eq ha hc hy]
  simp only [setSign_get, hd, hm, if_true, setSign_setSign, exchangeRoles_setSign]

/-- One that does not: the mismatch is counted and the job put back (R148, R151). -/
theorem takeConfirm_mismatches {k : JobKind} {u : State} (hk : t.kind.job = some k) (hb : k ≠ .bright)
    (hm : x.draft.map Composed.check ≠ some q.check)
    (hu : u = (c.setSign t.sign { y with
      mismatch := min 3 (y.mismatch + 1), link := if 2 ≤ y.mismatch then .fault else .mismatch }).reviewConfirmed t.sign) :
    s.takeConfirm l t q = u.setLine l
      { a.flc[l] with queue := joined ⟨t.sign, k, y.brightness⟩ (a.flc[l]).queue } := by
  have hd : y.draft = x.draft := by rw [hy]; rfl
  have hnext : nextMismatch y.mismatch = min 3 (y.mismatch + 1) := by
    unfold nextMismatch
    split <;> omega
  have hfault : min 3 (y.mismatch + 1) = 3 ↔ 2 ≤ y.mismatch := by omega
  have hflc : c.flc = a.flc := by rw [hc, (recordReport_frame _ _ _ _ _).flc]
  rw [takeConfirm, reported_eq ha hc hy]
  simp only [setSign_get, hd, hm, if_false, setSign_setSign, reportLink_setSign, hnext, hfault]
  rw [← hu, putBackJob_reviewed hk hb _ hu, hflc]
  split <;> nofun

/-- A STATUS that leaves the link (R153). -/
theorem takeStatus_stays (ho : x.link ≠ .offline)
    (hm : x.link ≠ .confirmed ∨ x.live.map Composed.check = some q.check) :
    s.takeStatus l t q = c.setSign t.sign y := by
  have hlink : y.link = x.link := by rw [hy]; rfl
  have hlive : y.live = x.live := by rw [hy]; rfl
  rw [takeStatus, reported_eq ha hc hy, takeStatusLink]
  simp only [setSign_get, hlink, hlive]
  cases hx : x.link with
  | confirmed => exact if_pos (hm.resolve_left (not_not.mpr hx))
  | offline => exact absurd hx ho
  | unknown | pending | mismatch | fault => rfl

/-- A STATUS that moves it and asks for a recomposition (R141, R153). -/
theorem takeStatus_moves
    (hm : x.link = .offline ∨ (x.link = .confirmed ∧ x.live.map Composed.check ≠ some q.check)) :
    s.takeStatus l t q = ((c.setSign t.sign { y with
      link := if x.link = .offline then .pending else .mismatch }).reviewConfirmed t.sign).requestComposition t.sign := by
  have hlink : y.link = x.link := by rw [hy]; rfl
  have hlive : y.live = x.live := by rw [hy]; rfl
  rw [takeStatus, reported_eq ha hc hy, takeStatusLink]
  simp only [setSign_get, hlink, hlive, reportLink_setSign]
  rcases hm with ho | ⟨hx, hm⟩
  · simp only [ho, if_true]
  · simp only [hx, if_neg hm]
    rfl

end Outcome

theorem requestComposition_invalid {s : State} (i : Fin 24) (h : s.map.valid = false) : s.requestComposition i = s :=
  if_neg (ne_true_of_eq_false h)

theorem joinQueue_eq (s : State) (i : Fin 24) :
    s.joinQueue i = s.withQueue (if i ∈ s.scp.queue then s.scp.queue else s.scp.queue ++ [i]) := by
  unfold joinQueue withQueue
  by_cases hq : i ∈ s.scp.queue
  · rw [if_pos (by simpa using hq), if_pos hq]
  · rw [if_neg (by simpa using hq), if_neg hq]

/-- Under a valid map the sign joins the compose queue where it does not wait. -/
theorem requestComposition_valid {s : State} (i : Fin 24) (h : s.map.valid = true) : s.requestComposition i =
    s.withQueue (if i ∈ s.scp.queue then s.scp.queue else s.scp.queue ++ [i]) := by
  rw [requestComposition, valid, if_pos h, joinQueue_eq]

/-! ### No valid reply (R151, R152) -/

/-- The line is IDLE, the missing reply counted, and the sign's poll timer restarted. -/
def unanswered (l : Fin 2) (t : Trans) (s : State) : State :=
  (s.setLine l ((s.flc[l]).finished.setCounters s.flc[l].counters.addNoReply)).setSign t.sign { s.signs[t.sign] with
    pollTimer := 0, transfer := !t.kind.transfers && s.signs[t.sign].transfer
    noReply := min 3 (s.signs[t.sign].noReply + 1) }

theorem takeNoReply_eq (s : State) (l : Fin 2) (t : Trans) : s.takeNoReply l t =
    if t.kind.transfers then
      if 2 ≤ s.signs[t.sign].noReply then (s.unanswered l t).goOffline l t.sign
      else ((s.unanswered l t).reportLink t.sign .pending).putBackJob l t
    else if 2 ≤ s.signs[t.sign].noReply then
      if s.signs[t.sign].link = .offline then s.unanswered l t else (s.unanswered l t).goOffline l t.sign
    else (s.unanswered l t).putBackJob l t := by
  have hnext : ∀ n, nextNoReply n = min 3 (n + 1) := fun n => by
    unfold nextNoReply
    split <;> omega
  have hlink : (s.unanswered l t).signs[t.sign].link = s.signs[t.sign].link := by rw [unanswered, setSign_get]
  unfold takeNoReply
  extract_lets i s0 n z s1
  have hn : n = 3 ↔ 2 ≤ s.signs[t.sign].noReply := by
    have hcount : s0.signs[t.sign].noReply = s.signs[t.sign].noReply := by
      unfold s0
      rw [endTransaction_eq, setSign_get]
    unfold n i
    rw [hnext, hcount]
    omega
  have hs1 : s1 = s.unanswered l t := by
    unfold s1 z n i s0
    rw [endTransaction_eq, setSign_get, setSign_setLine, setSign_setSign, setSign_flc, setLine_get, setLine_setLine, hnext]
    rfl
  rw [hs1]
  simp only [hn, i, hlink]
  cases t.kind with
  | page _ _ _ | lamp _ => exact (if_pos rfl).symm
  | bright | poll => exact (if_neg (by decide)).symm

section NoReply
variable {s : State} {l : Fin 2} {t : Trans} {z : Sign} {v : Line}
  (ha : s.unanswered l t = (s.setLine l v).setSign t.sign z)
include ha

/-- The third missing reply makes the sign OFFLINE and discards its waiting job. -/
theorem unanswered_offline : (s.unanswered l t).goOffline l t.sign =
    ((s.setLine l { v with queue := v.queue.filter (fun j => j.sign ≠ t.sign) }).setSign t.sign
      { z with link := .offline }).reviewConfirmed t.sign := by
  rw [ha, goOffline, setSign_setLine, setSign_flc, setLine_get, setLine_setLine, reportLink_setSign]
  rfl

/-- A transfer's job is put back with the link PENDING. -/
theorem unanswered_pending {k : JobKind} {u : State} (hk : t.kind.job = some k) (hb : k ≠ .bright)
    (hu : u = ((s.setLine l v).setSign t.sign { z with link := .pending }).reviewConfirmed t.sign) :
    ((s.unanswered l t).reportLink t.sign .pending).putBackJob l t =
      u.setLine l { v with queue := joined ⟨t.sign, k, z.brightness⟩ v.queue } := by
  rw [ha, reportLink_setSign, ← hu, putBackJob_reviewed (x := { z with link := .pending }) hk hb nofun hu, setLine_get]

/-- A brightness job is put back unless the sign is OFFLINE or a job of it waits. -/
theorem unanswered_bright {u : State} (hk : t.kind = .bright) (hu : u = (s.setLine l v).setSign t.sign z) :
    (z.link = .offline ∨ t.sign ∈ v.queue.map Job.sign → (s.unanswered l t).putBackJob l t = u) ∧
    (z.link ≠ .offline → t.sign ∉ v.queue.map Job.sign → (s.unanswered l t).putBackJob l t =
      u.setLine l { v with queue := v.queue ++ [⟨t.sign, .bright, z.brightness⟩] }) := by
  have hsign : u.signs[t.sign] = z := by rw [hu, setSign_get]
  have hline : u.flc[l] = v := by rw [hu, setSign_flc, setLine_get]
  have hplace : (s.unanswered l t).putBackJob l t = u.placeJob l ⟨t.sign, .bright, z.brightness⟩ true := by
    rw [ha, ← hu, putBackJob, hk, hsign]
  rw [hplace, placeJob, hsign, hline, place_bright_back rfl]
  refine ⟨fun h => ?_, fun ho hq => by rw [if_neg ho, if_neg hq]⟩
  rcases h with ho | hq
  · exact if_pos ho
  · rw [if_pos hq]
    split
    · rfl
    · rw [← hline, setLine_self]

end NoReply

end State

/-! ### The commands -/

section Commands
variable {s : State} {l : Fin 2} {t : Trans} {q : SignReply} (hp : s.powered = true)
  (hw : s.flc[l].phase = .replyWait) (ht : s.flc[l].trans = some t)
include hp hw ht

theorem execConfirm_transfer (hb : s.flc[l].badReply = false) (hk : t.kind.transfers = true) :
    exec (.confirm l q) s = .next (s.takeConfirm l t q) := by
  have ha : (s.flc[l]).awaits = true := by
    rw [Line.awaits, hw, hb]
    rfl
  rw [exec_powered hp (i := .confirm l q) rfl, State.confirm, ha, ht]
  dsimp only
  cases hkind : t.kind with
  | page _ _ _ | lamp _ => rfl
  | bright | poll =>
    rw [hkind] at hk
    cases hk

theorem execStatus_query (hb : s.flc[l].badReply = false) (hk : t.kind.transfers = false) :
    exec (.status l q) s = .next (s.takeStatus l t q) := by
  have ha : (s.flc[l]).awaits = true := by
    rw [Line.awaits, hw, hb]
    rfl
  rw [exec_powered hp (i := .status l q) rfl, State.status, ha, ht]
  dsimp only
  cases hkind : t.kind with
  | bright | poll => rfl
  | page _ _ _ | lamp _ =>
    rw [hkind] at hk
    cases hk

theorem execReplyLimitExpiry_waits : exec (.replyLimitExpiry l) s = .next (s.takeNoReply l t) := by
  rw [exec_powered hp (i := .replyLimitExpiry l) rfl, State.replyLimitExpiry, hw, ht]

end Commands

/-- Settles O58: the end of a transaction, the report and the events of a valid reply in closed form, and for each outcome
the link that follows them and the place of the job put back. -/
theorem repliesDecideTheLink : Obligations.RepliesDecideTheLink := by
  refine ⟨fun l s a b c t q x y n limit o hp hw hb ht hx hn hl ho hy ha hbs hc => ?_,
    fun l s a t x v w hp hw ht hx hv hw' ha => ?_, fun i s c hc => ?_⟩
  · have hend : s.endTransaction l t = a.setSign t.sign
        { x with pollTimer := 0, transfer := !t.kind.transfers && x.transfer } := by
      rw [State.endTransaction_eq, ha, hx, Line.finished, ← hb]
    have himg : a.img = s.img := by rw [ha]; rfl
    have hcs : ∀ f, c = a.recordReport t.sign (a.img.lampFaultLimit l) q { x with pollTimer := 0, transfer := f } := by
      intro f
      rw [hc, hbs, himg, ← hl, hn, ho]
      rfl
    have hys : ∀ f, { y with transfer := f } =
        Sign.reported (a.img.lampFaultLimit l) q { x with pollTimer := 0, transfer := f } := by
      intro f
      rw [hy, himg, ← hl, hn, ho]
      rfl
    have hymis : y.mismatch = x.mismatch := by rw [hy]
    have hylight : y.brightness = x.brightness := by rw [hy]
    have hylive : y.liveIsA = x.liveIsA := by rw [hy]
    have hqueue : (a.flc[l]).queue = (s.flc[l]).queue := by rw [ha, State.setLine_get]
    refine ⟨fun k hk hbright => ?_, fun hk => ?_⟩
    · obtain ⟨htrans, hkb⟩ := TransKind.transfers_of_job hk hbright
      rw [htrans] at hend
      rw [execConfirm_transfer hp hw ht hb htrans]
      refine ⟨fun hm => ?_, fun hm u j hj hu => ?_⟩
      · rw [State.takeConfirm_matches hend (hcs _) (hys _) hm, ← hylive]
        rfl
      · rw [State.takeConfirm_mismatches (u := u) hend (hcs _) (hys _) hk hkb hm (by rw [hu, ← hymis]; rfl), hj,
          ← hylight, hqueue]
        rfl
    · have htrans := TransKind.transfers_query hk
      have hyself : y = { y with transfer := x.transfer } := by rw [hy]
      rw [htrans] at hend
      rw [execStatus_query hp hw ht hb htrans]
      refine ⟨fun ho' hm => ?_, fun hm u hu => ?_⟩
      · rw [State.takeStatus_stays hend (hcs _) (hys _) ho' hm]
        rw [hyself]
        rfl
      · have hmoved : s.takeStatus l t q = u.requestComposition t.sign := by
          rw [State.takeStatus_moves hend (hcs _) (hys _) hm, hu, hyself]
          rfl
        have hf : Frame [.flc, .signs, .gtc, .avp, .prt] s u := by
          have haf : Frame [.flc, .signs, .gtc, .avp, .prt] s a := by
            rw [ha]
            exact (State.setLine_frame s l _).mono
          rw [hu, hcs x.transfer]
          exact Frame.step (State.reviewConfirmed_frame _ _)
            (Frame.step (State.setSign_frame _ _ _) (Frame.step (State.recordReport_frame _ _ _ _ _) haf))
        rw [hmoved]
        refine ⟨fun hv => ?_, fun hv => ?_⟩
        · rw [State.requestComposition_invalid _ (by rw [hf.map, hv])]
        · rw [State.requestComposition_valid _ (by rw [hf.map, hv]), State.withQueue, hf.scp]
  · have hun : s.unanswered l t = (s.setLine l v).setSign t.sign { x with
        pollTimer := 0, transfer := !t.kind.transfers && x.transfer, noReply := min 3 (x.noReply + 1) } := by
      rw [State.unanswered, hv, hx]
      rfl
    have hless : x.noReply < 2 → min 3 (x.noReply + 1) = x.noReply + 1 := fun h => by omega
    have hthird : 2 ≤ x.noReply → min 3 (x.noReply + 1) = 3 := fun h => by omega
    have hvq : v.queue = (s.flc[l]).queue := by rw [hv]
    rw [execReplyLimitExpiry_waits hp hw ht, State.takeNoReply_eq, ← hx, ha]
    refine ⟨fun k j hk hj => ⟨fun hbright => ⟨fun hn u hu => ?_, fun hn => ?_⟩, fun hbright hn u hu => ?_⟩,
      fun hpoll hn => ?_, fun hquery hn => ⟨fun ho => ?_, fun ho => ?_⟩⟩
    · obtain ⟨htrans, hkb⟩ := TransKind.transfers_of_job hk hbright
      rw [htrans, hless hn] at hun
      rw [if_pos htrans, if_neg hn.not_ge, State.unanswered_pending (u := u) hun hk hkb (by rw [hu]; rfl), hj, ← hvq]
      rfl
    · obtain ⟨htrans, -⟩ := TransKind.transfers_of_job hk hbright
      rw [htrans, hthird hn] at hun
      rw [if_pos htrans, if_pos hn, State.unanswered_offline hun, hw', ← hvq]
      rfl
    · have htrans := TransKind.transfers_query (.inl hbright)
      rw [htrans, hless hn] at hun
      rw [hbright] at hk
      cases hk
      rw [if_neg (ne_true_of_eq_false htrans), if_neg hn.not_ge, hj, ← hvq]
      obtain ⟨hstays, hjoins⟩ := State.unanswered_bright (u := u) hun hbright (by rw [hu]; rfl)
      exact ⟨fun h => congrArg _ (hstays h), fun ho hq => congrArg _ (hjoins ho hq)⟩
    · have htrans := TransKind.transfers_query (.inr hpoll)
      rw [htrans, hless hn] at hun
      rw [if_neg (ne_true_of_eq_false htrans), if_neg hn.not_ge, hun, State.putBackJob, hpoll]
      rfl
    · have htrans := TransKind.transfers_query hquery
      rw [htrans, hthird hn] at hun
      rw [if_neg (ne_true_of_eq_false htrans), if_pos hn, if_pos ho, hun]
      rfl
    · have htrans := TransKind.transfers_query hquery
      rw [htrans, hthird hn] at hun
      rw [if_neg (ne_true_of_eq_false htrans), if_pos hn, if_neg ho, State.unanswered_offline hun, hw', ← hvq]
      rfl
  · refine ⟨fun h => ?_, fun h => ?_⟩
    · rw [State.reviewConfirmed, Sign.liveMark, ← hc, if_pos h.symm]
    · rw [State.reviewConfirmed, Sign.liveMark, ← hc, if_neg (Ne.symm h)]

end Sys2Proof.Machine
end

section
/-! ## The element list of a sign (R6, R131) -/

set_option Elab.async false

namespace Sys2Proof.Machine

/-! ### The elements of each kind -/

section Kinds
variable {matrix : Bool} {m : ImgUnit} {l : List Aspect} {e : Element}

theorem mem_closureElement : e ∈ closureElement matrix l ↔ ∃ a c, l.head? = some a ∧ l.find? Aspect.isClosed = some c ∧
    e = .closure (if a.isClosed then .roadClosed a.reason else .closedAhead)
      (if matrix then none else some c.emergency) := by
  unfold closureElement
  cases l.head? <;> cases l.find? Aspect.isClosed <;> simp

theorem mem_announceElement : e ∈ announceElement l ↔
    ∃ t, (l.filterMap Aspect.announced).foldl lower none = some t ∧ e = .announce (minuteOfDay t) := by
  unfold announceElement
  cases (l.filterMap Aspect.announced).foldl lower none <;> simp

theorem mem_avalancheElement : e ∈ avalancheElement l ↔
    1 ≤ (l.map Aspect.level).foldl max 0 ∧ e = .avalanche ((l.map Aspect.level).foldl max 0) := by
  rw [List.foldl_map, avalancheElement]
  split
  · next h => simp [h]
  · next h => simp [h]

theorem mem_restrictElement : e ∈ restrictElement l ↔
    ((l.map Aspect.restr).foldl Restrictions.union ⟨false, false, false⟩).isEmpty = false ∧
      e = .restrict ((l.map Aspect.restr).foldl Restrictions.union ⟨false, false, false⟩) := by
  rw [List.foldl_map, restrictElement]
  split
  · next h => simp [h]
  · next h => simp [h]

theorem mem_speedElement : e ∈ speedElement l ↔ ∃ v, l.head?.bind Aspect.speed = some v ∧ e = .speed v := by
  unfold speedElement
  cases l.head?.bind Aspect.speed <;> simp

theorem mem_iceElement : e ∈ iceElement l ↔
    ∃ a, l.head? = some a ∧ (a.condition = .freeze ∨ a.condition = .near) ∧ e = .ice := by
  unfold iceElement
  cases l.head? with
  | none => simp
  | some a =>
    dsimp only
    split
    · next h => simp [h]
    · next h => simp [h]

theorem mem_noticeElement : e ∈ noticeElement m l ↔
    ∃ id stamp, topNotice l = some (id, stamp) ∧ (m.noticeText id).isSome = true ∧ e = .notice id := by
  unfold noticeElement
  cases topNotice l with
  | none => simp
  | some x =>
    obtain ⟨id, stamp⟩ := x
    dsimp only
    split
    · next h => simp [h]
    · next h => simp [h]

/-- Each kind gives at most one element, at its position. -/
theorem kind_positions (matrix : Bool) (m : ImgUnit) (l : List Aspect) :
    ((closureElement matrix l).map Element.pos).Sublist [0] ∧ ((announceElement l).map Element.pos).Sublist [1] ∧
    ((avalancheElement l).map Element.pos).Sublist [2] ∧ ((restrictElement l).map Element.pos).Sublist [3] ∧
    ((speedElement l).map Element.pos).Sublist [4] ∧ ((iceElement l).map Element.pos).Sublist [5] ∧
    ((noticeElement m l).map Element.pos).Sublist [6] := by
  refine ⟨?_, ?_, ?_, ?_, ?_, ?_, ?_⟩
  · unfold closureElement
    split <;> simp [Element.pos]
  · unfold announceElement
    split <;> simp [Element.pos]
  · unfold avalancheElement
    dsimp only
    split <;> simp [Element.pos]
  · unfold restrictElement
    dsimp only
    split <;> simp [Element.pos]
  · unfold speedElement
    split <;> simp [Element.pos]
  · unfold iceElement
    split
    · split <;> simp [Element.pos]
    · simp
  · unfold noticeElement
    split
    · split <;> simp [Element.pos]
    · simp

/-- The list is in priority order (R131). -/
theorem elementsOf_ascending : ((elementsOf m matrix l).map Element.pos).Pairwise (· < ·) := by
  obtain ⟨h0, h1, h2, h3, h4, h5, h6⟩ := kind_positions matrix m l
  refine List.Pairwise.sublist (l₂ := List.range 7) ?_ List.pairwise_lt_range
  simp only [elementsOf, List.map_append]
  exact (((((h0.append h1).append h2).append h3).append h4).append h5).append h6

theorem mem_elementsOf : e ∈ elementsOf m matrix l ↔ e ∈ closureElement matrix l ∨ e ∈ announceElement l ∨
    e ∈ avalancheElement l ∨ e ∈ restrictElement l ∨ e ∈ speedElement l ∨ e ∈ iceElement l ∨ e ∈ noticeElement m l := by
  simp only [elementsOf, List.mem_append, or_assoc]

end Kinds

/-! ### The notice of the highest stamp -/

/-- The step of `topNotice`: of two notices the one of the higher stamp, of equal stamps the earlier one. -/
def higherStamp (best : Option (Nat × Nat)) (x : Nat × Nat) : Option (Nat × Nat) :=
  match best with
  | none => some x
  | some b => if b.2 < x.2 then some x else some b

theorem topNotice_eq (l : List Aspect) : topNotice l = (l.filterMap Aspect.notice).foldl higherStamp none := rfl

/-- `x` stands in the list behind lower stamps and before stamps that are no higher. -/
def FirstHighest (x : Nat × Nat) (l : List (Nat × Nat)) : Prop :=
  ∃ pre post, l = pre ++ x :: post ∧ (∀ b ∈ pre, b.2 < x.2) ∧ ∀ b ∈ post, b.2 ≤ x.2

theorem foldl_higherStamp_stays {x : Nat × Nat} {l : List (Nat × Nat)} (h : ∀ b ∈ l, b.2 ≤ x.2) :
    l.foldl higherStamp (some x) = some x := by
  induction l with
  | nil => rfl
  | cons y t ih =>
    obtain ⟨hy, ht⟩ := List.forall_mem_cons.mp h
    rw [List.foldl_cons, higherStamp, if_neg hy.not_gt, ih ht]

theorem foldl_higherStamp_some {x : Nat × Nat} {l : List (Nat × Nat)} {b : Nat × Nat}
    (h : l.foldl higherStamp (some b) = some x) :
    (x = b ∧ ∀ y ∈ l, y.2 ≤ b.2) ∨ (b.2 < x.2 ∧ FirstHighest x l) := by
  induction l generalizing b with
  | nil => exact .inl ⟨(Option.some.inj h).symm, by simp⟩
  | cons y t ih =>
    rw [List.foldl_cons, higherStamp] at h
    by_cases hby : b.2 < y.2
    · rw [if_pos hby] at h
      rcases ih h with ⟨rfl, ht⟩ | ⟨hx, pre, post, rfl, hpre, hpost⟩
      · exact .inr ⟨hby, [], t, rfl, by simp, ht⟩
      · exact .inr ⟨hby.trans hx, y :: pre, post, rfl, List.forall_mem_cons.mpr ⟨hx, hpre⟩, hpost⟩
    · rw [if_neg hby] at h
      rcases ih h with ⟨rfl, ht⟩ | ⟨hx, pre, post, rfl, hpre, hpost⟩
      · exact .inl ⟨rfl, List.forall_mem_cons.mpr ⟨not_lt.mp hby, ht⟩⟩
      · exact .inr ⟨hx, y :: pre, post, rfl, List.forall_mem_cons.mpr ⟨(not_lt.mp hby).trans_lt hx, hpre⟩, hpost⟩

theorem foldl_higherStamp_iff {x : Nat × Nat} {l : List (Nat × Nat)} :
    l.foldl higherStamp none = some x ↔ FirstHighest x l := by
  constructor
  · intro h
    cases l with
    | nil => cases h
    | cons y t =>
      rcases foldl_higherStamp_some h with ⟨rfl, ht⟩ | ⟨hx, pre, post, rfl, hpre, hpost⟩
      · exact ⟨[], t, rfl, by simp, ht⟩
      · exact ⟨y :: pre, post, rfl, List.forall_mem_cons.mpr ⟨hx, hpre⟩, hpost⟩
  · rintro ⟨pre, post, rfl, hpre, hpost⟩
    have hbefore : higherStamp (pre.foldl higherStamp none) x = some x := by
      cases hb : pre.foldl higherStamp none with
      | none => rfl
      | some b =>
        refine if_pos ?_
        cases pre with
        | nil => cases hb
        | cons y t =>
          rcases foldl_higherStamp_some hb with ⟨rfl, -⟩ | ⟨-, u, v, rfl, -, -⟩
          · exact hpre b (by simp)
          · exact hpre b (by simp)
    rw [List.foldl_append, List.foldl_cons, hbefore, foldl_higherStamp_stays hpost]

theorem topNotice_iff {l : List Aspect} {x : Nat × Nat} : topNotice l = some x ↔
    ∃ a pre post, l = pre ++ a :: post ∧ a.notice = some x ∧ (∀ b ∈ pre, ∀ y, b.notice = some y → y.2 < x.2) ∧
      ∀ b ∈ post, ∀ y, b.notice = some y → y.2 ≤ x.2 := by
  rw [topNotice_eq, foldl_higherStamp_iff]
  constructor
  · rintro ⟨pre, post, hl, hpre, hpost⟩
    obtain ⟨l1, l2, rfl, rfl, h2⟩ := List.filterMap_eq_append_iff.mp hl
    obtain ⟨l3, a, l4, rfl, hnone, ha, rfl⟩ := List.filterMap_eq_cons_iff.mp h2
    refine ⟨a, l1 ++ l3, l4, by simp, ha, fun b hb y hy => ?_, fun b hb y hy =>
      hpost y (List.mem_filterMap.mpr ⟨b, hb, hy⟩)⟩
    rcases List.mem_append.mp hb with hb | hb
    · exact hpre y (List.mem_filterMap.mpr ⟨b, hb, hy⟩)
    · rw [hnone b hb] at hy
      cases hy
  · rintro ⟨a, pre, post, rfl, ha, hpre, hpost⟩
    refine ⟨pre.filterMap Aspect.notice, post.filterMap Aspect.notice, by simp [ha], fun y hy => ?_, fun y hy => ?_⟩
    · obtain ⟨b, hb, hby⟩ := List.mem_filterMap.mp hy
      exact hpre b hb y hby
    · obtain ⟨b, hb, hby⟩ := List.mem_filterMap.mp hy
      exact hpost b hb y hby

/-! ### Which elements the list holds -/

/-- The earliest announced closure of the watched records. -/
theorem earliest_iff {l : List Aspect} {n : Nat} : (l.filterMap Aspect.announced).foldl lower none = some n ↔
    (∃ a ∈ l, a.announced = some n) ∧ ∀ a ∈ l, ∀ k, a.announced = some k → n ≤ k := by
  obtain ⟨hle, hmem⟩ := foldl_lower (l.filterMap Aspect.announced) none
  constructor
  · intro h
    refine ⟨List.mem_filterMap.mp ((hmem n h).resolve_left nofun), fun a ha k hk => ?_⟩
    obtain ⟨n', hn', hnk⟩ := hle k (.inr (List.mem_filterMap.mpr ⟨a, ha, hk⟩))
    exact Option.some.inj (h.symm.trans hn') ▸ hnk
  · rintro ⟨⟨a, ha, hn⟩, hmin⟩
    obtain ⟨n', hn', hle'⟩ := hle n (.inr (List.mem_filterMap.mpr ⟨a, ha, hn⟩))
    obtain ⟨b, hb, hbn⟩ := List.mem_filterMap.mp ((hmem n' hn').resolve_left nofun)
    rw [hn', Nat.le_antisymm hle' (hmin b hb n' hbn)]

/-- The highest level of the watched records, when it is not 0. -/
theorem highestLevel_iff {l : List Aspect} {n : Nat} (h1 : 1 ≤ n) : (l.map Aspect.level).foldl max 0 = n ↔
    (∃ a ∈ l, a.level = n) ∧ ∀ a ∈ l, a.level ≤ n := by
  obtain ⟨-, hall, hmem⟩ := le_foldl_max (l.map Aspect.level) 0
  constructor
  · intro h
    rw [h] at hall hmem
    exact ⟨List.mem_map.mp (hmem.resolve_left (by omega)), fun a ha => hall _ (List.mem_map_of_mem ha)⟩
  · rintro ⟨⟨a, ha, hn⟩, hmax⟩
    have hge := hall _ (List.mem_map_of_mem (f := Aspect.level) ha)
    have hle : (l.map Aspect.level).foldl max 0 ≤ n := by
      rcases hmem with h0 | hm
      · omega
      · obtain ⟨b, hb, hbl⟩ := List.mem_map.mp hm
        exact hbl ▸ hmax b hb
    omega

/-- The restrictions of the watched records taken together. -/
theorem union_iff {l : List Aspect} {u : Restrictions} :
    (l.map Aspect.restr).foldl Restrictions.union ⟨false, false, false⟩ = u ↔
      (u.chains = true ↔ ∃ a ∈ l, a.restr.chains = true) ∧ (u.noHgv = true ↔ ∃ a ∈ l, a.restr.noHgv = true) ∧
        (u.noTrailer = true ↔ ∃ a ∈ l, a.restr.noTrailer = true) := by
  have hany : ∀ flag : Restrictions → Bool, (l.map Aspect.restr).any flag = true ↔ ∃ a ∈ l, flag a.restr = true := by
    simp
  have hc := foldl_union (flag := Restrictions.chains) (fun _ _ => rfl) (l.map Aspect.restr) ⟨false, false, false⟩
  have hh := foldl_union (flag := Restrictions.noHgv) (fun _ _ => rfl) (l.map Aspect.restr) ⟨false, false, false⟩
  have ht := foldl_union (flag := Restrictions.noTrailer) (fun _ _ => rfl) (l.map Aspect.restr) ⟨false, false, false⟩
  rw [← hany, ← hany Restrictions.noHgv, ← hany Restrictions.noTrailer, ← Bool.eq_iff_iff, ← Bool.eq_iff_iff,
    ← Bool.eq_iff_iff]
  generalize (l.map Aspect.restr).foldl Restrictions.union ⟨false, false, false⟩ = w at *
  obtain ⟨c, h, t⟩ := w
  obtain ⟨uc, uh, ut⟩ := u
  simp only [Bool.false_or] at hc hh ht
  rw [Restrictions.mk.injEq, ← hc, ← hh, ← ht, eq_comm, eq_comm (a := h), eq_comm (a := t)]

section Members
variable {m : ImgUnit} {matrix : Bool} {l : List Aspect}

theorem closure_mem_elementsOf {form : ClosureForm} {flag : Option Bool} : .closure form flag ∈ elementsOf m matrix l ↔
    ∃ (a c : Aspect) (pre post : List Aspect), l.head? = some a ∧ l = pre ++ c :: post ∧ (∀ b ∈ pre, b.closed = .no) ∧
      c.closed ≠ .no ∧ form = (if a.closed ≠ .no then .roadClosed a.reason else .closedAhead) ∧
      flag = (if matrix then none else some c.emergency) := by
  have hkind : .closure form flag ∈ elementsOf m matrix l ↔ .closure form flag ∈ closureElement matrix l := by
    simp [mem_elementsOf, mem_announceElement, mem_avalancheElement, mem_restrictElement, mem_speedElement,
      mem_iceElement, mem_noticeElement]
  rw [hkind, mem_closureElement]
  simp only [List.find?_eq_some_iff_append, Element.closure.injEq, Bool.not_eq_true', Aspect.isClosed,
    decide_eq_true_eq, decide_eq_false_iff_not, not_not]
  constructor
  · rintro ⟨a, c, ha, ⟨hc, pre, post, hl, hpre⟩, hform, hflag⟩
    exact ⟨a, c, pre, post, ha, hl, hpre, hc, by simpa using hform, hflag⟩
  · rintro ⟨a, c, pre, post, ha, hl, hpre, hc, hform, hflag⟩
    exact ⟨a, c, ha, ⟨hc, pre, post, hl, hpre⟩, by simpa using hform, hflag⟩

theorem announce_mem_elementsOf {minute : Nat} : .announce minute ∈ elementsOf m matrix l ↔
    ∃ n, minute = n / 60 % 1440 ∧ (∃ a ∈ l, a.announced = some n) ∧
      ∀ a ∈ l, ∀ k, a.announced = some k → n ≤ k := by
  have hkind : .announce minute ∈ elementsOf m matrix l ↔ .announce minute ∈ announceElement l := by
    simp [mem_elementsOf, mem_closureElement, mem_avalancheElement, mem_restrictElement, mem_speedElement,
      mem_iceElement, mem_noticeElement]
  rw [hkind, mem_announceElement]
  refine exists_congr fun n => ?_
  rw [earliest_iff, Element.announce.injEq, and_comm]
  rfl

theorem avalanche_mem_elementsOf {n : Nat} : .avalanche n ∈ elementsOf m matrix l ↔
    1 ≤ n ∧ (∃ a ∈ l, a.level = n) ∧ ∀ a ∈ l, a.level ≤ n := by
  have hkind : .avalanche n ∈ elementsOf m matrix l ↔ .avalanche n ∈ avalancheElement l := by
    simp [mem_elementsOf, mem_closureElement, mem_announceElement, mem_restrictElement, mem_speedElement,
      mem_iceElement, mem_noticeElement]
  rw [hkind, mem_avalancheElement, Element.avalanche.injEq]
  constructor
  · rintro ⟨h1, hn⟩
    exact ⟨hn ▸ h1, (highestLevel_iff (hn ▸ h1)).mp hn.symm⟩
  · rintro ⟨h1, hn⟩
    have hmax := (highestLevel_iff h1).mpr hn
    exact ⟨hmax.symm ▸ h1, hmax.symm⟩

theorem restrict_mem_elementsOf {u : Restrictions} : .restrict u ∈ elementsOf m matrix l ↔
    (u.chains = true ∨ u.noHgv = true ∨ u.noTrailer = true) ∧
      (u.chains = true ↔ ∃ a ∈ l, a.restr.chains = true) ∧ (u.noHgv = true ↔ ∃ a ∈ l, a.restr.noHgv = true) ∧
      (u.noTrailer = true ↔ ∃ a ∈ l, a.restr.noTrailer = true) := by
  have hkind : .restrict u ∈ elementsOf m matrix l ↔ .restrict u ∈ restrictElement l := by
    simp [mem_elementsOf, mem_closureElement, mem_announceElement, mem_avalancheElement, mem_speedElement,
      mem_iceElement, mem_noticeElement]
  have hsome : u.isEmpty = false ↔ u.chains = true ∨ u.noHgv = true ∨ u.noTrailer = true := by
    rw [Restrictions.isEmpty, Bool.not_eq_false', Bool.or_eq_true, Bool.or_eq_true, or_assoc]
  rw [hkind, mem_restrictElement, Element.restrict.injEq, ← union_iff, ← hsome]
  constructor
  · rintro ⟨he, hu⟩
    exact ⟨hu ▸ he, hu.symm⟩
  · rintro ⟨he, hu⟩
    exact ⟨hu.symm ▸ he, hu.symm⟩

theorem speed_mem_elementsOf {v : Nat} : .speed v ∈ elementsOf m matrix l ↔
    ∃ a, l.head? = some a ∧ a.speed = some v := by
  have hkind : .speed v ∈ elementsOf m matrix l ↔ .speed v ∈ speedElement l := by
    simp [mem_elementsOf, mem_closureElement, mem_announceElement, mem_avalancheElement, mem_restrictElement,
      mem_iceElement, mem_noticeElement]
  rw [hkind, mem_speedElement]
  simp [Option.bind_eq_some_iff]

theorem ice_mem_elementsOf : .ice ∈ elementsOf m matrix l ↔
    ∃ a, l.head? = some a ∧ (a.condition = .freeze ∨ a.condition = .near) := by
  have hkind : .ice ∈ elementsOf m matrix l ↔ .ice ∈ iceElement l := by
    simp [mem_elementsOf, mem_closureElement, mem_announceElement, mem_avalancheElement, mem_restrictElement,
      mem_speedElement, mem_noticeElement]
  rw [hkind, mem_iceElement]
  simp

theorem notice_mem_elementsOf {id : Nat} : .notice id ∈ elementsOf m matrix l ↔
    (m.noticeText id).isSome = true ∧ ∃ (a : Aspect) (pre post : List Aspect) (stamp : Nat),
      l = pre ++ a :: post ∧ a.notice = some (id, stamp) ∧
      (∀ b ∈ pre, ∀ x, b.notice = some x → x.2 < stamp) ∧ ∀ b ∈ post, ∀ x, b.notice = some x → x.2 ≤ stamp := by
  have hkind : .notice id ∈ elementsOf m matrix l ↔ .notice id ∈ noticeElement m l := by
    simp [mem_elementsOf, mem_closureElement, mem_announceElement, mem_avalancheElement, mem_restrictElement,
      mem_speedElement, mem_iceElement]
  rw [hkind, mem_noticeElement]
  constructor
  · rintro ⟨id', stamp, htop, htext, he⟩
    cases he
    obtain ⟨a, pre, post, h⟩ := topNotice_iff.mp htop
    exact ⟨htext, a, pre, post, stamp, h⟩
  · rintro ⟨htext, a, pre, post, stamp, h⟩
    exact ⟨id, stamp, topNotice_iff.mpr ⟨a, pre, post, h⟩, htext, rfl⟩

end Members

/-- The watched segments in watch order (R6). -/
theorem watched_get (r : SignRec) (j : Nat) : r.watched[j]? = (match r.facing with
    | .S => if r.first + j ≤ r.last then some (r.first + j) else none
    | .N => if r.last + j ≤ r.first then some (r.first - j) else none) := by
  have hrange : ∀ (f : Nat → Nat) (n : Nat), ((List.range n).map f)[j]? = if j < n then some (f j) else none := by
    intro f n
    by_cases h : j < n
    · simp [h]
    · simp [h]
  unfold SignRec.watched
  cases r.facing with
  | S =>
    rw [hrange]
    exact if_congr (by omega) rfl rfl
  | N =>
    rw [hrange]
    exact if_congr (by omega) rfl rfl

end Sys2Proof.Machine
end

section
/-! ## The places of parts (R133) and the lamps (R134) -/

set_option Elab.async false

namespace Sys2Proof.Machine

/-! ### One part -/

/-- What `Slots.place` can answer: a part takes the first free slot of its kind, a NOTICE both text slots of a page, and a
part without a slot is dropped. -/
inductive Places (f : Slots) (p : Part) : Option (Placed × Slots) → Prop where
  | pict {page : Nat} {rest : List Nat} (hp : p.isPict = true) (ht : p.isText = false) (hw : p.isWide = false)
      (h : f.picts = page :: rest) : Places f p (some (⟨p, page, true⟩, { f with picts := rest }))
  | noPict (hp : p.isPict = true) (ht : p.isText = false) (hw : p.isWide = false) (h : f.picts = []) : Places f p none
  | text {t : Nat} {rest : List Nat} (hp : p.isPict = false) (ht : p.isText = true) (hw : p.isWide = false)
      (h : f.texts = t :: rest) : Places f p (some (⟨p, t / 2, t % 2 == 0⟩, { f with texts := rest }))
  | noText (hp : p.isPict = false) (ht : p.isText = true) (hw : p.isWide = false) (h : f.texts = []) : Places f p none
  | wide {page : Nat} {texts : List Nat} (hp : p.isPict = false) (ht : p.isText = false) (hw : p.isWide = true) :
      Places f p (some (⟨p, page, true⟩, { f with texts := texts }))
  | noWide (hp : p.isPict = false) (ht : p.isText = false) (hw : p.isWide = true) : Places f p none

theorem Slots.places (f : Slots) (p : Part) : Places f p (f.place p) := by
  cases p with
  | pict _ _ _ =>
    unfold Slots.place
    dsimp only
    split
    · next h => exact .pict rfl rfl rfl h
    · next h => exact .noPict rfl rfl rfl h
  | text _ _ =>
    unfold Slots.place
    dsimp only
    split
    · next h => exact .text rfl rfl rfl h
    · next h => exact .noText rfl rfl rfl h
  | wide _ _ =>
    unfold Slots.place
    dsimp only
    split
    · exact .wide rfl rfl rfl
    split
    · exact .wide rfl rfl rfl
    · exact .noWide rfl rfl rfl

/-- The slots that are free behind a list of parts. -/
def Slots.after : Slots → List Part → Slots
  | f, [] => f
  | f, p :: t =>
    match f.place p with
    | some (_, g) => g.after t
    | none => f.after t

/-! ### A list of parts -/

/-- Every part is placed or dropped. -/
theorem placeParts_length (ps : List Part) (f : Slots) :
    (placeParts f ps).1.length + (placeParts f ps).2 = ps.length := by
  induction ps generalizing f with
  | nil => rfl
  | cons p t ih =>
    unfold placeParts
    split
    · next g _ =>
      have := ih g
      simp only [List.length_cons]
      omega
    · have := ih f
      simp only [List.length_cons]
      omega

/-- The placed parts stand in their order. -/
theorem placeParts_sublist (ps : List Part) (f : Slots) : ((placeParts f ps).1.map Placed.part).Sublist ps := by
  induction ps generalizing f with
  | nil => exact .slnil
  | cons p t ih =>
    have hp := f.places p
    unfold placeParts
    generalize f.place p = r at hp
    cases hp with
    | pict _ _ _ _ | text _ _ _ _ | wide _ _ _ => exact (ih _).cons_cons p
    | noPict _ _ _ _ | noText _ _ _ _ | noWide _ _ _ => exact (ih f).cons p

theorem placed_part_mem {ps : List Part} {f : Slots} {q : Placed} (h : q ∈ (placeParts f ps).1) : q.part ∈ ps :=
  (placeParts_sublist ps f).subset (List.mem_map_of_mem h)

theorem placeParts_append (ps ws : List Part) (f : Slots) :
    (placeParts f (ps ++ ws)).1 = (placeParts f ps).1 ++ (placeParts (f.after ps) ws).1 := by
  induction ps generalizing f with
  | nil => rfl
  | cons p t ih =>
    simp only [List.cons_append, placeParts, Slots.after]
    cases f.place p with
    | none => exact ih f
    | some x => exact congrArg (x.1 :: ·) (ih x.2)

/-- The pictograms take the free pages in order, whatever else is placed. -/
theorem placeParts_picts (ps : List Part) (f : Slots) : (placeParts f ps).1.filter (fun q => q.part.isPict) =
    List.zipWith (fun p page => ⟨p, page, true⟩) (ps.filter Part.isPict) f.picts := by
  induction ps generalizing f with
  | nil => rfl
  | cons p t ih =>
    have hp := f.places p
    unfold placeParts
    generalize f.place p = r at hp
    cases hp with
    | pict hp _ _ h => simp [hp, h, ih]
    | noPict hp _ _ h => simp [hp, h, ih]
    | text hp _ _ _ | wide hp _ _ => simp [hp, ih]
    | noText hp _ _ _ | noWide hp _ _ => simp [hp, ih]

section Plain
variable {ps : List Part} (hw : ∀ p ∈ ps, p.isWide = false)
include hw

/-- Without a NOTICE the texts take the text slots in order. -/
theorem placeParts_texts (f : Slots) : (placeParts f ps).1.filter (fun q => q.part.isText) =
    List.zipWith (fun p t => ⟨p, t / 2, t % 2 == 0⟩) (ps.filter Part.isText) f.texts := by
  induction ps generalizing f with
  | nil => rfl
  | cons p t ih =>
    obtain ⟨hpw, htw⟩ := List.forall_mem_cons.mp hw
    have hp := f.places p
    unfold placeParts
    generalize f.place p = r at hp
    cases hp with
    | pict _ ht _ _ | noPict _ ht _ _ => simp [ht, ih htw]
    | text _ ht _ h | noText _ ht _ h => simp [ht, h, ih htw]
    | wide _ _ hwide | noWide _ _ hwide => exact absurd (hpw.symm.trans hwide) (by decide)

theorem after_texts (f : Slots) : (f.after ps).texts = f.texts.drop (ps.filter Part.isText).length := by
  induction ps generalizing f with
  | nil => rfl
  | cons p t ih =>
    obtain ⟨hpw, htw⟩ := List.forall_mem_cons.mp hw
    have hp := f.places p
    unfold Slots.after
    generalize f.place p = r at hp
    cases hp with
    | pict _ ht _ _ | noPict _ ht _ _ => simp [ht, ih htw]
    | text _ ht _ h | noText _ ht _ h => simp [ht, h, ih htw]
    | wide _ _ hwide | noWide _ _ hwide => exact absurd (hpw.symm.trans hwide) (by decide)

end Plain

/-! ### The parts of a list in priority order -/

theorem Element.pos_le (e : Element) : e.pos ≤ 6 := by cases e <;> simp [Element.pos]

/-- The parts of an element that is no NOTICE: no wide text, and one text of a CLOSURE or an ANNOUNCE alone. -/
theorem parts_plain {m : ImgUnit} {e : Element} (h : e.pos ≠ 6) : (∀ p ∈ e.parts m, p.isWide = false) ∧
    ((e.parts m).filter Part.isText).length = if e.pos ≤ 1 then 1 else 0 := by
  cases e with
  | restrict u =>
    have hopt : ∀ (b : Bool) (k : PictKind), (∀ p ∈ (if b then [Part.pict k [] 3] else []), p.isWide = false) ∧
        (if b then [Part.pict k [] 3] else []).filter Part.isText = [] := fun b k => by
      cases b with
      | true => exact ⟨by simp [Part.isWide], rfl⟩
      | false => exact ⟨by simp, rfl⟩
    refine ⟨fun p hp => ?_, ?_⟩
    · rcases List.mem_append.mp hp with hp | hp
      · exact (List.mem_append.mp hp).elim ((hopt _ _).1 p) ((hopt _ _).1 p)
      · exact (hopt _ _).1 p hp
    · rw [Element.parts, List.filter_append, List.filter_append, (hopt _ _).2, (hopt _ _).2, (hopt _ _).2]
      rfl
  | closure _ _ | announce _ | avalanche _ | speed _ | ice => exact ⟨by simp [Element.parts, Part.isWide], rfl⟩
  | notice _ => exact absurd rfl h

/-- In priority order the NOTICE text stands last, behind at most two texts. -/
theorem parts_ascending {m : ImgUnit} {l : List Element} (h : (l.map Element.pos).Pairwise (· < ·)) (n : Nat)
    (hn : ∀ e ∈ l, n ≤ e.pos) : ∃ ps ws, l.flatMap (Element.parts m) = ps ++ ws ∧ (∀ p ∈ ps, p.isWide = false) ∧
      (ps.filter Part.isText).length ≤ 2 - n ∧ (ws = [] ∨ ∃ w : Part, ws = [w] ∧ w.isWide = true) := by
  induction l generalizing n with
  | nil => exact ⟨[], [], rfl, by simp, by simp, .inl rfl⟩
  | cons e t ih =>
    rw [List.map_cons, List.pairwise_cons] at h
    have htail : ∀ e' ∈ t, e.pos + 1 ≤ e'.pos := fun e' he' => h.1 _ (List.mem_map_of_mem he')
    have hen : n ≤ e.pos := hn e (by simp)
    by_cases he : e.pos = 6
    · have ht : t = [] := List.eq_nil_iff_forall_not_mem.mpr fun e' he' => by
        have := htail e' he'
        have := e'.pos_le
        omega
      subst ht
      cases e with
      | notice id => exact ⟨[], _, rfl, by simp, by simp, .inr ⟨_, rfl, rfl⟩⟩
      | closure _ _ | announce _ | avalanche _ | restrict _ | speed _ | ice => simp [Element.pos] at he
    · obtain ⟨hwide, htext⟩ := parts_plain (m := m) he
      obtain ⟨ps, ws, hparts, hps, hlen, hws⟩ := ih h.2 (e.pos + 1) htail
      refine ⟨e.parts m ++ ps, ws, ?_, fun p hp => ?_, ?_, hws⟩
      · rw [List.flatMap_cons, hparts, List.append_assoc]
      · exact (List.mem_append.mp hp).elim (hwide p) (hps p)
      · rw [List.filter_append, List.length_append, htext]
        split <;> omega

section Ascending
variable {m : ImgUnit} {l : List Element} (h : (l.map Element.pos).Pairwise (· < ·))
include h

theorem placement_texts : (placement m l).1.filter (fun q => q.part.isText) =
    ((l.flatMap (Element.parts m)).filter Part.isText).mapIdx (fun i p => ⟨p, 0, i == 0⟩) := by
  obtain ⟨ps, ws, hparts, hps, hlen, hws⟩ := parts_ascending (m := m) h 0 (by simp)
  have hwtext : ∀ p ∈ ws, p.isText = false := by
    rcases hws with rfl | ⟨w, rfl, hw⟩
    · simp
    · cases w <;> simp_all [Part.isWide, Part.isText]
  have hplaced : (placeParts (Slots.all.after ps) ws).1.filter (fun q => q.part.isText) = [] :=
    List.filter_eq_nil_iff.mpr fun q hq => by simp [hwtext _ (placed_part_mem hq)]
  have hnone : ws.filter Part.isText = [] := List.filter_eq_nil_iff.mpr fun p hp => by simp [hwtext p hp]
  rw [placement, hparts, placeParts_append, List.filter_append, List.filter_append, hplaced, hnone, List.append_nil,
    List.append_nil, placeParts_texts hps]
  generalize ps.filter Part.isText = texts at hlen
  match texts, hlen with
  | [], _ => rfl
  | [_], _ => rfl
  | [_, _], _ => rfl

theorem placement_wides : (placement m l).1.filter (fun q => q.part.isWide) =
    ((l.flatMap (Element.parts m)).filter Part.isWide).map
      (fun p => ⟨p, if (l.flatMap (Element.parts m)).any Part.isText then 1 else 0, true⟩) := by
  obtain ⟨ps, ws, hparts, hps, hlen, hws⟩ := parts_ascending (m := m) h 0 (by simp)
  have hplaced : (placeParts Slots.all ps).1.filter (fun q => q.part.isWide) = [] :=
    List.filter_eq_nil_iff.mpr fun q hq => by simp [hps _ (placed_part_mem hq)]
  have hnone : ps.filter Part.isWide = [] := List.filter_eq_nil_iff.mpr fun p hp => by simp [hps p hp]
  rw [placement, hparts, placeParts_append, List.filter_append, List.filter_append, hplaced, hnone, List.nil_append,
    List.nil_append]
  rcases hws with rfl | ⟨w, rfl, hw⟩
  · rfl
  · cases w with
    | pict _ _ _ | text _ _ => cases hw
    | wide chars pos =>
      have htexts := after_texts hps Slots.all
      have hany : (ps ++ [Part.wide chars pos]).any Part.isText = !(ps.filter Part.isText).isEmpty := by
        rw [Bool.eq_iff_iff]
        simp [Part.isText]
      rw [hany]
      generalize ps.filter Part.isText = texts at hlen htexts ⊢
      simp only [placeParts, Slots.place, Slots.bothFree, htexts]
      match texts, hlen with
      | [], _ => rfl
      | [_], _ => rfl
      | [_, _], _ => rfl

end Ascending

theorem placement_picts (m : ImgUnit) (l : List Element) : (placement m l).1.filter (fun q => q.part.isPict) =
    (((l.flatMap (Element.parts m)).filter Part.isPict).take 2).mapIdx (fun i p => ⟨p, i, true⟩) := by
  rw [placement, placeParts_picts]
  match (l.flatMap (Element.parts m)).filter Part.isPict with
  | [] => rfl
  | [_] => rfl
  | _ :: _ :: _ => simp [Slots.all]

theorem pageCount_eq (l : List Placed) : pageCount l = if ∃ q ∈ l, q.page = 1 then 2 else 1 := by
  simp [pageCount]

/-! ### Lamps (R134) -/

/-- The bits below `n` that satisfy `p`, as a number. -/
def bitSum (p : Nat → Bool) (n : Nat) : Nat := ((List.range n).filter p).foldl (fun v j => v + 2 ^ j) 0

theorem bitSum_succ (p : Nat → Bool) (n : Nat) : bitSum p (n + 1) = bitSum p n + if p n then 2 ^ n else 0 := by
  unfold bitSum
  rw [List.range_succ, List.filter_append, List.foldl_append]
  by_cases h : p n = true
  · simp [h]
  · simp [h]

theorem bitSum_lt (p : Nat → Bool) (n : Nat) : bitSum p n < 2 ^ n := by
  induction n with
  | zero => exact Nat.one_pos
  | succ n ih =>
    rw [bitSum_succ, Nat.pow_succ]
    split <;> omega

theorem testBit_bitSum (p : Nat → Bool) (n j : Nat) : (bitSum p n).testBit j = (decide (j < n) && p j) := by
  induction n with
  | zero => simp [bitSum]
  | succ n ih =>
    have hlt := bitSum_lt p n
    rw [bitSum_succ]
    by_cases hn : p n = true
    · rw [if_pos hn, Nat.add_comm]
      rcases Nat.lt_trichotomy j n with h | rfl | h
      · rw [Nat.testBit_two_pow_add_gt h, ih]
        simp [h, Nat.lt_succ_of_lt h]
      · rw [Nat.testBit_two_pow_add_eq, Nat.testBit_lt_two_pow hlt]
        simp [hn]
      · have hbig : 2 ^ n + bitSum p n < 2 ^ j := by
          have : 2 ^ (n + 1) ≤ 2 ^ j := Nat.pow_le_pow_right (by decide) h
          omega
        rw [Nat.testBit_lt_two_pow hbig]
        simp [not_lt.mpr (Nat.succ_le_of_lt h)]
    · rw [if_neg hn, Nat.add_zero, ih]
      rcases Nat.lt_trichotomy j n with h | rfl | h
      · simp [h, Nat.lt_succ_of_lt h]
      · simp [hn]
      · simp [h.not_gt, not_lt.mpr (Nat.succ_le_of_lt h)]

theorem bitsOf_getLsbD (p : Nat → Bool) {j : Nat} (h : j < 8) : (bitsOf p).getLsbD j = p j := by
  have hb : bitsOf p = BitVec.ofNat 8 (bitSum p 8) := rfl
  rw [hb, BitVec.getLsbD_ofNat, testBit_bitSum]
  simp [h]

section Lamps
variable (r : SignRec) (l : List Element)

theorem lit_iff (j : Nat) : r.lit l j = true ↔ ∃ e ∈ l, r.lamps.getD j 7 = e.pos := by simp [SignRec.lit]

theorem closureEmergency_iff : closureEmergency l = true ↔ ∃ form, .closure form (some true) ∈ l := by
  simp only [closureEmergency, List.any_eq_true]
  constructor
  · rintro ⟨e, he, h⟩
    split at h
    · exact ⟨_, he⟩
    · cases h
  · rintro ⟨form, h⟩
    exact ⟨_, h, rfl⟩

theorem lampWord_bit {j : Nat} (h : j < 8) : (r.lampWord l).getLsbD j = true ↔ ∃ e ∈ l, r.lamps.getD j 7 = e.pos := by
  rw [SignRec.lampWord, bitsOf_getLsbD _ h, lit_iff]

/-- A CLOSURE in the list lights the lamps of its kind, so that the flash mask needs no other test. -/
theorem flashMask_bit {j : Nat} (h : j < 8) : (r.flashMask l).getLsbD j = true ↔
    r.lamps.getD j 7 = 0 ∧ ∃ form, .closure form (some true) ∈ l := by
  rw [SignRec.flashMask, bitsOf_getLsbD _ h, Bool.and_eq_true, Bool.and_eq_true, lit_iff, beq_iff_eq, closureEmergency_iff]
  exact ⟨fun ⟨⟨_, h0⟩, hc⟩ => ⟨h0, hc⟩, fun ⟨h0, form, hc⟩ => ⟨⟨⟨_, hc, h0⟩, h0⟩, form, hc⟩⟩

theorem mark_iff : r.mark l = true ↔ ∃ e ∈ l, e.pos = 0 ∧ (r.matrix = true ∨ ∃ j < 8, r.lamps.getD j 7 = 0) := by
  unfold SignRec.mark
  cases hm : r.matrix with
  | true => simp [Element.isClosure]
  | false =>
    rw [if_neg Bool.false_ne_true]
    simp only [List.any_eq_true, List.mem_range, Bool.and_eq_true, lit_iff, beq_iff_eq, Bool.false_eq_true, false_or]
    constructor
    · rintro ⟨j, hj, ⟨e, he, hpos⟩, h0⟩
      exact ⟨e, he, hpos.symm.trans h0, j, hj, h0⟩
    · rintro ⟨e, he, hpos, j, hj, h0⟩
      exact ⟨j, hj, ⟨e, he, h0.trans hpos.symm⟩, h0⟩

end Lamps

end Sys2Proof.Machine
end

section
/-! ## The drawing of a page (R135 to R137) -/

set_option Elab.async false

namespace Sys2Proof.Machine

/-! ### The four pixels of a byte (R169) -/

/-- Four pixel values as `windowByte` packs them, the leftmost in bits 7 and 6. -/
def packed (v : Nat → Nat) : Byte :=
  (List.range 4).foldl (fun b j => b ||| (BitVec.ofNat 8 (v j) <<< (6 - 2 * j))) 0#8

theorem packed_digits : ∀ a b c d : Fin 4,
    ((((0#8 ||| BitVec.ofNat 8 a.val <<< 6) ||| BitVec.ofNat 8 b.val <<< 4) ||| BitVec.ofNat 8 c.val <<< 2) |||
      BitVec.ofNat 8 d.val <<< 0).toNat = 64 * a.val + 16 * b.val + 4 * c.val + d.val := by decide

theorem packed_pixel {v : Nat → Nat} (h : ∀ j, v j < 4) {j : Nat} (hj : j < 4) :
    (packed v).toNat / 4 ^ (3 - j) % 4 = v j := by
  have hsum : (packed v).toNat = 64 * v 0 + 16 * v 1 + 4 * v 2 + v 3 :=
    packed_digits ⟨v 0, h 0⟩ ⟨v 1, h 1⟩ ⟨v 2, h 2⟩ ⟨v 3, h 3⟩
  have h0 := h 0
  have h1 := h 1
  have h2 := h 2
  have h3 := h 3
  rw [hsum]
  match j, hj with
  | 0, _ | 1, _ | 2, _ | 3, _ => norm_num; omega

/-- A byte that a window writes: in each pixel the window's value, or the old one outside it. -/
theorem windowByte_pixel {f : Nat → Option Nat} (hf : ∀ x v, f x = some v → v < 4) (old : Byte) (bx : Nat) {j : Nat}
    (hj : j < 4) : (windowByte f old bx).toNat / 4 ^ (3 - j) % 4 =
      (f (4 * bx + j)).getD (old.toNat / 4 ^ (3 - j) % 4) := by
  have hshift : old.toNat >>> (6 - 2 * j) = old.toNat / 4 ^ (3 - j) := by
    rw [Nat.shiftRight_eq_div_pow, show 6 - 2 * j = 2 * (3 - j) by omega, Nat.pow_mul]
  have hlt : ∀ k, (f (4 * bx + k)).getD (old.toNat >>> (6 - 2 * k) % 4) < 4 := fun k => by
    cases hk : f (4 * bx + k) with
    | none => exact Nat.mod_lt _ (by decide)
    | some v => exact hf _ v hk
  rw [← hshift]
  exact packed_pixel hlt hj

/-! ### The rows of a window -/

section Window
variable (m : ImgUnit) (turned : Bool) (x0 y0 x1 y1 : Nat) (g : Glyph) (colour base : Nat)

theorem memRead_windowRow (mem : List Host.Cell) (y a : Nat) :
    memRead (windowRow m turned x0 y0 x1 y1 g colour base mem y) a =
      if base + 24 * y ≤ a ∧ a < base + 24 * y + 24 then
        windowByte (fun x => windowPixel m turned x0 y0 x1 y1 g colour x y) (memRead mem a) (a - (base + 24 * y))
      else memRead mem a := by
  unfold windowRow
  rw [memRead_memWrite, List.length_map, List.length_range]
  split
  · next h =>
    have hlt : a - (base + 24 * y) < 24 := by omega
    have ha : base + 24 * y + (a - (base + 24 * y)) = a := by omega
    simp [List.getD_eq_getElem?_getD, hlt, ha]
  · rfl

/-- Of the rows written one after the other, each byte is seen by its own row alone. -/
theorem memRead_windowRows {rows : List Nat} (hrows : rows.Nodup) (mem : List Host.Cell) (y : Nat) {b : Nat}
    (hb : b < 24) : memRead (rows.foldl (windowRow m turned x0 y0 x1 y1 g colour base) mem) (base + 24 * y + b) =
      if y ∈ rows then windowByte (fun x => windowPixel m turned x0 y0 x1 y1 g colour x y)
        (memRead mem (base + 24 * y + b)) b
      else memRead mem (base + 24 * y + b) := by
  induction rows generalizing mem with
  | nil => rfl
  | cons z t ih =>
    obtain ⟨hz, ht⟩ := List.nodup_cons.mp hrows
    rw [List.foldl_cons, ih ht, memRead_windowRow]
    by_cases hy : y = z
    · subst hy
      rw [if_neg hz, if_pos (by omega), if_pos (by simp), Nat.add_sub_cancel_left]
    · have hout : ¬(base + 24 * z ≤ base + 24 * y + b ∧ base + 24 * y + b < base + 24 * z + 24) := by omega
      rw [if_neg hout]
      simp [hy]

theorem memRead_windowRows_outside {rows : List Nat} (hrows : ∀ y ∈ rows, y < 48) (mem : List Host.Cell) {a : Nat}
    (ha : a < base ∨ base + 1152 ≤ a) :
    memRead (rows.foldl (windowRow m turned x0 y0 x1 y1 g colour base) mem) a = memRead mem a := by
  induction rows generalizing mem with
  | nil => rfl
  | cons z t ih =>
    obtain ⟨hz, ht⟩ := List.forall_mem_cons.mp hrows
    rw [List.foldl_cons, ih ht, memRead_windowRow, if_neg (by omega)]

theorem mem_windowRows {y : Nat} : y ∈ windowRows turned y0 y1 ↔
    y < 48 ∧ y0 ≤ (if turned then 47 - y else y) ∧ (if turned then 47 - y else y) ≤ y1 := by
  simp [windowRows]

theorem windowPixel_lt {m : ImgUnit} {turned : Bool} {x0 y0 x1 y1 : Nat} {g : Glyph} {colour : Nat} (hc : colour ≤ 3)
    (x y v : Nat) (h : windowPixel m turned x0 y0 x1 y1 g colour x y = some v) : v < 4 := by
  obtain ⟨-, hv⟩ := Option.ite_none_right_eq_some.mp h
  have hwritten : ∀ c : Bool, (if c then colour else 0) < 4 := fun c => by
    split
    · omega
    · decide
  exact Option.some.inj hv ▸ hwritten _

end Window

/-! ### One access -/

section Access
variable (m : ImgUnit) (i : Fin 24) (bufferA turned : Bool) (mem : List Host.Cell) {page base : Nat}
  (hbase : base = pageBase i bufferA page)
include hbase

theorem apply_clear :
    DrawOp.apply m i bufferA turned mem (.clear page) = memWrite mem base (List.replicate 1152 0#8) := by
  rw [hbase]
  rfl

theorem apply_window (x0 y0 x1 y1 : Nat) (g : Glyph) (colour : Nat) :
    DrawOp.apply m i bufferA turned mem (.window page x0 y0 x1 y1 g colour) =
      (windowRows turned y0 y1).foldl (windowRow m turned x0 y0 x1 y1 g colour base) mem := by
  rw [hbase]
  rfl

theorem clear_pixel {x y : Nat} (hx : x < 96) (hy : y < 48) :
    pixelAt (DrawOp.apply m i bufferA turned mem (.clear page)) base x y = 0 := by
  have hin : base ≤ base + 24 * y + x / 4 ∧ base + 24 * y + x / 4 < base + 1152 := by omega
  rw [pixelAt, apply_clear m i bufferA turned mem hbase, memRead_memWrite, List.length_replicate, if_pos hin,
    List.getD_replicate _ (by omega)]
  simp

theorem window_pixel {x0 y0 x1 y1 colour x y px py : Nat} (g : Glyph) (hc : colour ≤ 3) (hx : x < 96) (hy : y < 48)
    (hpx : px = if turned then 95 - x else x) (hpy : py = if turned then 47 - y else y) :
    pixelAt (DrawOp.apply m i bufferA turned mem (.window page x0 y0 x1 y1 g colour)) base x y =
      (if x0 ≤ px ∧ px ≤ x1 ∧ y0 ≤ py ∧ py ≤ y1 then
        (if g.bit m ((py - y0) * (x1 - x0 + 1) + (px - x0)) then colour else 0)
      else pixelAt mem base x y) := by
  have hrows : (windowRows turned y0 y1).Nodup := List.nodup_range.filter _
  have hpixel : windowPixel m turned x0 y0 x1 y1 g colour x y = if x0 ≤ px ∧ px ≤ x1 ∧ y0 ≤ py ∧ py ≤ y1 then
      some (if g.bit m ((py - y0) * (x1 - x0 + 1) + (px - x0)) then colour else 0) else none := by
    rw [hpx, hpy]
    rfl
  rw [pixelAt, pixelAt, apply_window m i bufferA turned mem hbase,
    memRead_windowRows _ _ _ _ _ _ _ _ _ hrows _ _ (by omega : x / 4 < 24)]
  by_cases hy' : y ∈ windowRows turned y0 y1
  · rw [if_pos hy', windowByte_pixel (fun x v => windowPixel_lt hc x y v) _ _ (Nat.mod_lt x (by decide)),
      Nat.div_add_mod, hpixel]
    split
    · rfl
    · rfl
  · rw [if_neg hy', if_neg]
    rw [mem_windowRows, ← hpy] at hy'
    exact fun h => hy' ⟨hy, h.2.2⟩

/-- An access to a page leaves the other bytes of page memory. -/
theorem apply_outside {op : DrawOp} {a : Nat}
    (hop : op = .clear page ∨ ∃ x0 y0 x1 y1 g colour, op = .window page x0 y0 x1 y1 g colour)
    (ha : a < base ∨ base + 1152 ≤ a) : memRead (op.apply m i bufferA turned mem) a = memRead mem a := by
  rcases hop with rfl | ⟨x0, y0, x1, y1, g, colour, rfl⟩
  · rw [apply_clear m i bufferA turned mem hbase, memRead_memWrite, List.length_replicate, if_neg (by omega)]
  · rw [apply_window m i bufferA turned mem hbase]
    exact memRead_windowRows_outside _ _ _ _ _ _ _ _ _ (fun y hy => ((mem_windowRows _ _ _).mp hy).1) _ ha

end Access

end Sys2Proof.Machine
end

section
/-! ## The composer takes a sign and completes its DRAFT (R139, R141 to R143, R148) -/

set_option Elab.async false

namespace Sys2Proof.Machine

namespace State

/-! ### COMPOSER_TAKE -/

/-- The composer that asks has page memory when it is free, and waits for it otherwise (R143). -/
theorem composerAsks_eq (s : State) : s.composerAsks = s.setArbiter
    (if s.scp.arbiter.holder = none then { s.scp.arbiter with holder := some .composer, composerWait := false }
    else { s.scp.arbiter with composerWait := true }) := by
  let u := s.setArbiter { s.scp.arbiter with composerWait := true }
  have hu : u.scp.arbiter.holder = s.scp.arbiter.holder := rfl
  change u.grant = _
  by_cases h : s.scp.arbiter.holder = none
  · rw [grant_composer (hu.trans h) rfl, if_pos h]
    rfl
  · rw [grant_held (hu ▸ Option.isSome_iff_ne_none.mpr h), if_neg h]

section Take
variable {s : State}

theorem composerTake_idle (h : s.scp.composer.isSome = true ∨ s.map.valid = false ∨ s.hasPublication = false) :
    s.composerTake = s := by
  refine if_neg fun hc => ?_
  simp only [Bool.and_eq_true, Option.isNone_iff_eq_none] at hc
  obtain ⟨⟨hnone, hv⟩, hpub⟩ := hc
  rcases h with h | h | h
  · rw [hnone] at h
    cases h
  · exact absurd (hv.symm.trans h) (by decide)
  · exact absurd (hpub.symm.trans h) (by decide)

theorem composerTake_none (h : s.nextToCompose = none) : s.composerTake = s := by
  simp only [composerTake, h, ite_self]

theorem composerTake_takes {i : Fin 24} {r : SignRec} (hc : s.scp.composer = none) (hv : s.map.valid = true)
    (hpub : s.hasPublication = true) (hi : s.nextToCompose = some i) (hr : s.sign? i.val = some r) :
    s.composerTake = s.takeSign i r := by
  have hgo : (s.scp.composer.isNone && s.valid && s.hasPublication) = true := by rw [hc, valid, hv, hpub]; rfl
  rw [composerTake, if_pos hgo, hi]
  dsimp only
  rw [hr]

/-- The first queued sign that no transfer holds. -/
theorem nextToCompose_eq {i : Fin 24} {pre post : List (Fin 24)} (hq : s.scp.queue = pre ++ i :: post)
    (hpre : ∀ j ∈ pre, s.signs[j].transfer = true) (hi : s.signs[i].transfer = false) : s.nextToCompose = some i :=
  List.find?_eq_some_iff_append.mpr ⟨by rw [hi]; rfl, pre, post, hq, fun j hj => by rw [hpre j hj]; rfl⟩

theorem nextToCompose_none (h : ∀ j ∈ s.scp.queue, s.signs[j].transfer = true) : s.nextToCompose = none :=
  List.find?_eq_none.mpr fun j hj => by rw [h j hj]; exact Bool.false_ne_true

theorem takeSign_eq (i : Fin 24) (r : SignRec) : s.takeSign i r = { s with
    signs := setAt s.signs i { s.signs[i] with composing := true }
    scp := { s.scp with
      queue := s.scp.queue.filter (· ≠ i)
      composer := some ⟨i, s.elements r, s.rsv.generation, if r.matrix then drawing s.img (s.elements r) else []⟩
      arbiter :=
        if r.matrix then
          (if s.scp.arbiter.holder = none then
            { s.scp.arbiter with holder := some .composer, composerWait := false }
          else { s.scp.arbiter with composerWait := true })
        else s.scp.arbiter } } := by
  unfold takeSign
  cases r.matrix with
  | true => exact composerAsks_eq _
  | false => rfl

end Take

/-! ### COMPOSITION_END -/

theorem setDraft_eq (x : Sign) (d : Composed) : x.setDraft d = { x with
    bufA := if x.liveIsA then x.bufA else some d, bufB := if x.liveIsA then some d else x.bufB } := by
  unfold Sign.setDraft
  cases x.liveIsA <;> rfl

/-- A page or lamp job of sign `i` comes to its line unless the sign is OFFLINE (R148). -/
theorem placeJob_joined {s : State} {l : Fin 2} {i : Fin 24} {job : Job} (hi : job.sign = i) (h : job.kind ≠ .bright) :
    s.placeJob l job false = s.setLine l { s.flc[l] with
      queue := if s.signs[i].link = .offline then (s.flc[l]).queue else joined job (s.flc[l]).queue } := by
  subst hi
  unfold placeJob
  split
  · exact (setLine_self s l).symm
  · rw [place_joined h]

section End
variable {s : State} {c : Composition} {r : SignRec} {x : Sign} {y : Line} {m : List Host.Cell} {face : Face}
  {d : Composed} {job : Job} (hx : x = s.signs[c.sign]) (hy : y = s.flc[r.lineIndex])
  (hm : m = c.todo.foldl (fun m op => op.apply s.img c.sign (!x.liveIsA) r.turned m) s.scp.memory)
  (hface : face = faceOf s.img r c.list)
  (hd : d = { list := c.list, generation := c.generation, face, mark := r.mark c.list
              check := contentCheck m c.sign (!x.liveIsA) face })
  (hjob : job = jobOf s.img c.sign d x.brightness)
include hx hy hm hface hd hjob

theorem endComposition_eq : s.endComposition c r = State.grant { s with
    signs := setAt s.signs c.sign { x with
      bufA := if x.liveIsA then x.bufA else some d
      bufB := if x.liveIsA then some d else x.bufB
      lastList := some c.list, composing := false
      dropped := if r.matrix then (placement s.img c.list).2 else 0 }
    flc := setAt s.flc r.lineIndex { y with
      queue := if x.link = .offline then y.queue else joined job y.queue }
    scp := {
      queue := if s.elements r = c.list ∨ c.sign ∈ s.scp.queue then s.scp.queue else s.scp.queue ++ [c.sign]
      composer := none, memory := m
      arbiter := { s.scp.arbiter with
        holder := if s.scp.arbiter.holder = some .composer then none else s.scp.arbiter.holder
        composerWait := false } } } := by
  have hkind : job.kind ≠ .bright := by
    rw [hjob, jobOf]
    cases d.face <;> nofun
  have hsign : job.sign = c.sign := by
    rw [hjob, jobOf]
    cases d.face <;> rfl
  unfold endComposition
  extract_lets i s1 d' dropped z s2 s3 s4 w s5 u
  have hd' : d' = d := by
    rw [hd, hface, hm, hx]
    rfl
  let draft : Sign := { x with
    bufA := if x.liveIsA then x.bufA else some d
    bufB := if x.liveIsA then some d else x.bufB
    lastList := some c.list, dropped := dropped }
  let line : Line := { y with queue := if x.link = .offline then y.queue else joined job y.queue }
  have hs1 : s1 = { s with scp := { s.scp with
      memory := m
      arbiter := { s.scp.arbiter with
        holder := if s.scp.arbiter.holder = some .composer then none else s.scp.arbiter.holder
        composerWait := false } } } := by
    rw [hm, hx]
    rfl
  have hs2 : s2 = s1.setSign i draft := by
    have hz : z = x.setDraft d := by rw [← hd', hx]; rfl
    unfold s2 draft
    rw [hz, setDraft_eq]
  have hs3 : s3 = s2.setLine r.lineIndex line := by
    have hs2sign : s2.signs[i] = draft := by rw [hs2, setSign_get]
    have hs2line : s2.flc[r.lineIndex] = y := by rw [hs2, hy]; rfl
    unfold s3
    rw [hs2sign, hd', show jobOf s.img i d draft.brightness = job from hjob.symm, placeJob_joined hsign hkind,
      hs2line, hs2sign]
  have hs4 : s4 = s3.withQueue (if s.elements r = c.list ∨ c.sign ∈ s.scp.queue then s.scp.queue
      else s.scp.queue ++ [c.sign]) := by
    have hqueue : s3.scp.queue = s.scp.queue := by rw [hs3, hs2]; rfl
    have helements : s3.elements r = s.elements r := by rw [hs3, hs2]; rfl
    unfold s4
    rw [helements, joinQueue_eq, hqueue]
    by_cases he : s.elements r = c.list
    · rw [if_pos he, if_pos (.inl he), ← hqueue]
      rfl
    · rw [if_neg he]
      simp only [he, false_or]
      rfl
  have hs5 : s5 = s4.setSign i { draft with composing := false } := by
    have hs4sign : s4.signs[i] = draft := by rw [hs4, hs3, hs2]; exact setSign_get s1 i draft
    unfold s5 w
    rw [hs4sign]
  unfold u
  rw [hs5, hs4, hs3, hs2, hs1]
  refine congrArg grant ?_
  simp only [setSign, setLine, withQueue, setAt_setAt]
  rfl

end End

end State

end Sys2Proof.Machine
end

section
/-! ## Composition of signs (R131 to R137, R139, R141 to R143, R148) -/

set_option Elab.async false

namespace Sys2Proof.Machine

/-- The accesses that draw an element list: both pages are cleared, then each part is drawn in its place (R135 to R137). -/
theorem drawing_eq (m : ImgUnit) (l : List Element) : drawing m l =
    .clear 0 :: .clear 1 :: (placement m l).1.flatMap (fun q => match q.part with
      | .pict kind digits pos =>
        .window q.page 0 0 47 47 (.pictogram kind) (m.colour pos) :: digits.mapIdx (fun i d =>
          .window q.page ((48 - 12 * digits.length) / 2 + 12 * i) 12 ((48 - 12 * digits.length) / 2 + 12 * i + 11) 35
            (.digit d) (m.colour pos))
      | .text chars pos => (chars.take 16).mapIdx (fun k c =>
          .window q.page (48 + 6 * (k % 8)) ((if q.upper then 0 else 24) + 12 * (k / 8)) (53 + 6 * (k % 8))
            ((if q.upper then 0 else 24) + 12 * (k / 8) + 11) (.char (if 32 ≤ c ∧ c ≤ 127 then c else 32))
            (m.colour pos))
      | .wide chars pos => (chars.take 32).mapIdx (fun k c =>
          .window q.page (48 + 6 * (k % 8)) (12 * (k / 8)) (53 + 6 * (k % 8)) (12 * (k / 8) + 11)
            (.char (if 32 ≤ c ∧ c ≤ 127 then c else 32)) (m.colour pos))) := by
  refine congrArg (fun ops => DrawOp.clear 0 :: .clear 1 :: ops) (List.flatMap_congr fun q _ => ?_)
  unfold Placed.draw
  cases q.part with
  | pict _ _ _ | text _ _ => rfl
  | wide chars pos => simp only [textWindows, Nat.zero_add, charCode]

/-- Settles O54: the take and the end of a composition by their closed forms, the elements by the fold of each kind, the
places by the slots that each kind of part takes, and the pixels by the bytes that a window writes. -/
theorem composerTakesAndEnds : Obligations.ComposerTakesAndEnds := by
  refine ⟨fun s hp => ⟨fun h => ?_, fun h => ?_, fun i r pre post hc hv hpub hr hq hpre hi => ?_⟩, fun s hp hc => ?_,
    fun s c r x y m face d job hp hc hr hx hy hm hface hd hjob => ?_, fun m matrix l e he => ?_,
    fun s r => ⟨rfl, watched_get r⟩, fun m l parts hparts => ?_,
    fun r l => ⟨fun j hj => ⟨lampWord_bit r l hj, flashMask_bit r l hj⟩, mark_iff r l⟩,
    fun m i bufferA turned mem page base hbase => ⟨fun x y hx hy => clear_pixel m i bufferA turned mem hbase hx hy,
      fun x0 y0 x1 y1 colour x y px py g hcol hx hy hpx hpy =>
        window_pixel m i bufferA turned mem hbase g hcol hx hy hpx hpy,
      fun op a hop ha => apply_outside m i bufferA turned mem hbase hop ha⟩, drawing_eq⟩
  · rw [exec_powered hp (i := .composerTake) rfl, State.composerTake_idle h]
  · rw [exec_powered hp (i := .composerTake) rfl, State.composerTake_none (State.nextToCompose_none h)]
  · rw [exec_powered hp (i := .composerTake) rfl,
      State.composerTake_takes hc hv hpub (State.nextToCompose_eq hq hpre hi) hr, State.takeSign_eq]
  · rw [exec_powered hp (i := .compositionEnd) rfl, State.compositionEnd, hc]
  · have hend : s.compositionEnd = s.endComposition c r := by
      rw [State.compositionEnd, hc]
      dsimp only
      rw [hr]
    have hjobsign : job.sign = c.sign := by rw [hjob]
    rw [exec_powered hp (i := .compositionEnd) rfl, hend, State.endComposition_eq hx hy hm hface (d := d) (job := job)]
    · rw [joined, hjobsign]
    · rw [hd]
      cases face <;> rfl
    · rw [hjob, hd]
      cases face <;> rfl
  · subst he
    exact ⟨elementsOf_ascending, fun form flag => closure_mem_elementsOf, fun minute => announce_mem_elementsOf,
      fun n => avalanche_mem_elementsOf, fun u => restrict_mem_elementsOf, fun v => speed_mem_elementsOf,
      ice_mem_elementsOf, fun id => notice_mem_elementsOf⟩
  · subst hparts
    exact ⟨placeParts_length _ _, placeParts_sublist _ _, placement_picts m l,
      fun h => ⟨placement_texts h, placement_wides h⟩, pageCount_eq _⟩

end Sys2Proof.Machine
end

section
/-! ## Page memory asked for by a line (R143, R150) -/

set_option Elab.async false

namespace Sys2Proof.Machine

namespace State

/-- Where another unit holds page memory the line waits. -/
theorem lineAsks_held {s : State} {l : Fin 2} {h : Holder} (hh : s.scp.arbiter.holder = some h) (hne : h ≠ .line l) :
    s.lineAsks l = s.setArbiter { s.scp.arbiter with lineWait := setAt s.scp.arbiter.lineWait l true } := by
  have hother : ¬(s.scp.arbiter.holder = some (.line l)) := fun e => hne (Option.some.inj (hh.symm.trans e))
  rw [lineAsks]
  dsimp only
  rw [if_neg hother]
  exact grant_held (Option.isSome_iff_exists.mpr ⟨h, hh⟩)

/-- A line that asks while no other unit holds page memory and nobody waits for it has it at once. -/
theorem lineAsks_free {s : State} {l : Fin 2}
    (hh : s.scp.arbiter.holder = none ∨ s.scp.arbiter.holder = some (.line l)) (hc : s.scp.arbiter.composerWait = false)
    (hw : ∀ m : Fin 2, s.scp.arbiter.lineWait[m] = false) (hl : l ∈ s.scp.arbiter.lineOrder) :
    s.lineAsks l = (s.setArbiter { s.scp.arbiter with
      holder := some (.line l), lineOrder := s.scp.arbiter.lineOrder.filter (· ≠ l) ++ [l] }).lineGranted l := by
  have hended : (if s.scp.arbiter.holder = some (.line l) then none else s.scp.arbiter.holder) = none := by
    rcases hh with h | h
    · rw [h, if_neg nofun]
    · rw [if_pos h]
  have hback : setAt s.scp.arbiter.lineWait l false = s.scp.arbiter.lineWait := by
    rw [← hw l]
    exact setAt_self _ _
  let w := s.setArbiter { s.scp.arbiter with holder := none, lineWait := setAt s.scp.arbiter.lineWait l true }
  have hnext : w.scp.arbiter.nextLine = some l := by
    refine find?_only hl (setAt_get_same _ _ _) fun m hm => ?_
    by_contra hne
    have hother : w.scp.arbiter.lineWait[m] = false := (setAt_get_other _ _ (Ne.symm hne)).trans (hw m)
    exact Bool.false_ne_true (hother.symm.trans hm)
  rw [lineAsks]
  dsimp only
  rw [hended]
  refine (grant_line (s := w) rfl hc hnext).trans ?_
  simp only [w, setArbiter, setAt_setAt, hback]

/-- The arbiter that hands page memory over changes itself, and the line that it grants to. -/
theorem grant_forms (s : State) : ∃ a, s.grant = s.setArbiter a ∨ ∃ l, s.grant = (s.setArbiter a).lineGranted l := by
  unfold grant
  dsimp only
  split
  · exact ⟨s.scp.arbiter, .inl rfl⟩
  · split
    · exact ⟨_, .inl rfl⟩
    · split
      · exact ⟨_, .inr ⟨_, rfl⟩⟩
      · split
        · split
          · exact ⟨_, .inl rfl⟩
          · exact ⟨s.scp.arbiter, .inl rfl⟩
        · exact ⟨s.scp.arbiter, .inl rfl⟩

/-- A grant leaves the phase and the service queue of every line. -/
theorem lineGranted_keeps (s : State) (l m : Fin 2) : (s.lineGranted l).flc[m].phase = s.flc[m].phase ∧
    ((s.lineGranted l).flc[m]).queue = (s.flc[m]).queue := by
  have keeps : ∀ t w, ((s.setLine l { s.flc[l] with trans := t, wire := w }).flc[m]).phase = s.flc[m].phase ∧
      ((s.setLine l { s.flc[l] with trans := t, wire := w }).flc[m]).queue = (s.flc[m]).queue := fun t w => by
    rw [setLine_flc, setAt_get]
    split
    · next e => exact e ▸ ⟨rfl, rfl⟩
    · exact ⟨rfl, rfl⟩
  unfold lineGranted
  split
  · split
    · exact keeps _ _
    · exact keeps _ s.flc[l].wire
  · exact ⟨rfl, rfl⟩

/-- Of SCP a line's request changes the arbiter alone. -/
theorem lineAsks_scp (s : State) (l : Fin 2) :
    (s.lineAsks l).scp = { s.scp with arbiter := (s.lineAsks l).scp.arbiter } := by
  unfold lineAsks
  extract_lets a
  obtain ⟨b, hb | ⟨m, hb⟩⟩ := grant_forms (s.setArbiter { a with
    holder := if a.holder = some (.line l) then none else a.holder, lineWait := setAt a.lineWait l true })
  · rw [hb]
    rfl
  · rw [hb, (lineGranted_frame _ m).scp]
    rfl

/-- And of a line neither its phase nor its service queue. -/
theorem lineAsks_keeps (s : State) (l m : Fin 2) : (s.lineAsks l).flc[m].phase = s.flc[m].phase ∧
    ((s.lineAsks l).flc[m]).queue = (s.flc[m]).queue := by
  unfold lineAsks
  extract_lets a
  obtain ⟨b, hb | ⟨k, hb⟩⟩ := grant_forms (s.setArbiter { a with
    holder := if a.holder = some (.line l) then none else a.holder, lineWait := setAt a.lineWait l true })
  · rw [hb]
    exact ⟨rfl, rfl⟩
  · rw [hb]
    exact lineGranted_keeps _ k m

end State

end Sys2Proof.Machine
end

section
/-! ## The frames of a transaction (R147, R149, R150) -/

set_option Elab.async false

namespace Sys2Proof.Machine

namespace State

/-! ### PAGE_BLOCK and FIELD_FRAME_SENT -/

section Frames
variable {s : State} {l : Fin 2} {t : Trans} (ht : s.flc[l].trans = some t)
include ht

theorem pageBlock_granted {gen pages dwell : Nat} (hk : t.kind = .page gen pages dwell)
    (hphase : s.flc[l].phase = .transmit) (hw : s.flc[l].wire = none) (hg : t.granted = true) :
    s.pageBlock l = s.setLine l { s.flc[l] with
      trans := some { t with sent := t.sent + 1, granted := false }, wire := some (s.blockFrame t t.sent) } := by
  simp only [pageBlock, ht, hw, hk, hg, hphase]

theorem pageBlock_waits {gen pages dwell : Nat} (hk : t.kind = .page gen pages dwell) (hw : s.flc[l].wire = none)
    (hg : t.granted = false) : s.pageBlock l = s := by
  simp only [pageBlock, ht, hw, hk, hg]

variable (hphase : s.flc[l].phase = .transmit) (hw : s.flc[l].wire.isSome = true)
include hphase hw

theorem fieldFrameSent_page {gen pages dwell : Nat} (hk : t.kind = .page gen pages dwell) :
    s.fieldFrameSent l = (s.setLine l { s.flc[l] with wire := none }).afterPageFrame l t pages := by
  obtain ⟨frame, hframe⟩ := Option.isSome_iff_exists.mp hw
  simp only [fieldFrameSent, hphase, ht, hframe, hk]

/-- Every other frame is the last one of its transaction. -/
theorem fieldFrameSent_last (hk : ∀ gen pages dwell, t.kind ≠ .page gen pages dwell) :
    s.fieldFrameSent l = s.setLine l { s.flc[l] with phase := .replyWait, wire := none } := by
  obtain ⟨frame, hframe⟩ := Option.isSome_iff_exists.mp hw
  simp only [fieldFrameSent, hphase, ht, hframe]
  cases hkind : t.kind with
  | page gen pages dwell => exact absurd hkind (hk gen pages dwell)
  | lamp _ | bright | poll =>
    dsimp only
    rw [setLine_get, setLine_setLine]

end Frames

/-! ### After a frame of a page transfer -/

section After
variable {s : State} {l : Fin 2} {t : Trans} {pages : Nat} {x : Line}

theorem afterPageFrame_asks (ht : x.trans = some t) {gen dwell : Nat} (hk : t.kind = .page gen pages dwell)
    (hn : t.sent < 9 * pages) (hh : s.scp.arbiter.holder = none ∨ s.scp.arbiter.holder = some (.line l))
    (hc : s.scp.arbiter.composerWait = false) (hw : ∀ m : Fin 2, s.scp.arbiter.lineWait[m] = false)
    (hl : l ∈ s.scp.arbiter.lineOrder) : (s.setLine l x).afterPageFrame l t pages =
      (s.setLine l { x with trans := some { t with granted := true } }).setArbiter { s.scp.arbiter with
        holder := some (.line l), lineOrder := s.scp.arbiter.lineOrder.filter (· ≠ l) ++ [l] } := by
  rw [afterPageFrame, if_pos hn, lineAsks_free (s := s.setLine l x) hh hc hw hl]
  have hline : ∀ a, ((s.setLine l x).setArbiter a).flc[l] = x := fun _ => setLine_get s l x
  rw [lineGranted_page (t := t) (by rw [hline, ht]) (by rw [hk]; nofun), hline]
  simp only [setLine, setArbiter, setAt_setAt]

theorem afterPageFrame_ends (hn : t.sent = 9 * pages) : (s.setLine l x).afterPageFrame l t pages =
    s.setLine l { x with
      trans := some { t with sent := t.sent + 1 }, wire := some (fieldFrame (s.dropOf t.sign) 3 []) } := by
  rw [afterPageFrame, if_neg (by omega), if_pos hn, setLine_get, setLine_setLine]
  rfl

theorem afterPageFrame_awaits (hn : 9 * pages < t.sent) : (s.setLine l x).afterPageFrame l t pages =
    s.setLine l { x with phase := .replyWait } := by
  rw [afterPageFrame, if_neg (by omega), if_neg (by omega), setLine_get, setLine_setLine]

end After

/-! ### Characters outside a valid reply -/

theorem invalidReply_awaited {s : State} {l : Fin 2} (hphase : s.flc[l].phase = .replyWait)
    (hb : s.flc[l].badReply = false) (cause : InvalidCause) :
    s.invalidReply l cause = s.setLine l { s.flc[l] with
      badReply := true, counters := s.flc[l].counters.addInvalid cause } := by
  have hawaits : (s.flc[l]).awaits = true := by
    rw [Line.awaits, hphase, hb]
    rfl
  exact if_pos hawaits

end State

/-- Settles O57: each frame of a transaction by the clause of its own, and the next block by the request that a free page
memory grants at once. -/
theorem framesOfATransaction : Obligations.FramesOfATransaction := by
  refine ⟨fun l s t hp hphase ht => ⟨fun gen pages dwell hk => ⟨fun hw hg => ?_, fun hw hg => ?_, fun hw => ?_⟩,
    fun hk hw => ?_⟩, fun l s cause ch hp => ⟨fun hphase hb => ?_, fun hphase => ?_, fun hphase => ?_⟩,
    fun i r s hp hr => ?_⟩
  · rw [exec_powered hp (i := .pageBlock l) rfl, State.pageBlock_granted ht hk hphase hw hg]
    rfl
  · rw [exec_powered hp (i := .pageBlock l) rfl, State.pageBlock_waits ht hk hw hg]
  · rw [exec_powered hp (i := .fieldFrameSent l) rfl, State.fieldFrameSent_page ht hphase hw hk]
    exact ⟨fun hn hh hc hlw hl => congrArg _ (State.afterPageFrame_asks ht hk hn hh hc hlw hl),
      fun hn => congrArg _ (State.afterPageFrame_ends hn), fun hn => congrArg _ (State.afterPageFrame_awaits hn)⟩
  · rw [exec_powered hp (i := .fieldFrameSent l) rfl, State.fieldFrameSent_last ht hphase hw hk]
  · rw [exec_powered hp (i := .invalidReply l cause) rfl, State.invalidReply_awaited hphase hb]
    cases cause <;> rfl
  · rw [exec_powered hp (i := .strayCharacter l ch) rfl, State.strayCharacter, if_pos hphase]
  · rw [exec_powered hp (i := .strayCharacter l ch) rfl, State.strayCharacter, if_neg hphase]
    rfl
  · rw [exec_powered hp (i := .pollTimerExpiry i) rfl, State.pollTimerExpiry, hr]

end Sys2Proof.Machine
end

section
/-! ## What an IDLE line takes (R149, R150, R152) -/

set_option Elab.async false

namespace Sys2Proof.Machine

/-- A sign whose transfer has begun: PENDING, and so not closure-confirmed (R144, R150). -/
def Sign.transferring (x : Sign) : Sign := { x with transfer := true, link := .pending, confirmed := false }

/-- The first number below a bound that a partial function is defined on. -/
theorem findSome?_range {α : Type} {f : Nat → Option α} {n m : Nat} {b : α} (hn : n < m) (hb : f n = some b)
    (h : ∀ k < n, f k = none) : (List.range m).findSome? f = some b := by
  obtain ⟨d, rfl⟩ := Nat.exists_eq_add_of_lt hn
  have hbefore : (List.range n).findSome? f = none :=
    List.findSome?_eq_none_iff.mpr fun k hk => h k (List.mem_range.mp hk)
  rw [Nat.add_assoc, List.range_add, List.findSome?_append, hbefore, Option.none_or, List.range_succ_eq_map,
    List.map_cons, List.findSome?_cons, Nat.add_zero, hb]

namespace State

/-! ### The job and the sign that come next -/

theorem nextJob_busy {s : State} {l : Fin 2} (h : s.flc[l].phase ≠ .idle) : s.nextJob l = none := if_neg h

theorem nextPoll_busy {s : State} {l : Fin 2} (h : s.flc[l].phase ≠ .idle) : s.nextPoll l = none :=
  if_neg fun hc => h hc.1

theorem nextPoll_job {s : State} {l : Fin 2} {j : Job} (h : s.firstJob l = some j) : s.nextPoll l = none := by
  refine if_neg fun hc => ?_
  rw [h] at hc
  exact nomatch hc.2

/-- The first due address after the poll pointer is polled. -/
theorem nextPoll_due {s : State} {l : Fin 2} {i : Fin 24} {n : Nat} (hidle : s.flc[l].phase = .idle)
    (hq : ∀ j ∈ (s.flc[l]).queue, s.takeable l j = false) (hn : n < 31)
    (hdue : s.dueAt l ((s.flc[l].pollPtr.getD 0 + n) % 31 + 1) = some i)
    (hbefore : ∀ m < n, s.dueAt l ((s.flc[l].pollPtr.getD 0 + m) % 31 + 1) = none) :
    s.nextPoll l = some (i, (s.flc[l].pollPtr.getD 0 + n) % 31 + 1) := by
  have hnone : s.firstJob l = none := List.find?_eq_none.mpr fun j hj => ne_true_of_eq_false (hq j hj)
  rw [nextPoll, if_pos ⟨hidle, hnone⟩, addressRound, List.findSome?_map]
  refine findSome?_range hn ?_ fun m hm => ?_
  · rw [Function.comp_apply, hdue]
    rfl
  · rw [Function.comp_apply, hbefore m hm]
    rfl

/-! ### A transfer begins -/

/-- The review of a sign that is not CONFIRMED: closure-confirmed becomes false, with a report only where it was true. -/
theorem reviewConfirmed_off (s : State) (i : Fin 24) {x : Sign} (h : x.link ≠ .confirmed) :
    ((s.setSign i x).reviewConfirmed i).signs = setAt s.signs i { x with confirmed := false } ∧
    (x.confirmed = false → (s.setSign i x).reviewConfirmed i = s.setSign i { x with confirmed := false }) := by
  have hoff : (decide (x.link = .confirmed) && x.liveMark) = false := by rw [decide_eq_false h, Bool.false_and]
  rw [reviewConfirmed, setSign_get, setSign_setSign, hoff]
  dsimp only
  by_cases hx : x.confirmed = false
  · rw [if_pos hx.symm, ← hx]
    exact ⟨rfl, fun _ => rfl⟩
  · rw [if_neg (Ne.symm hx)]
    exact ⟨(reportSignToPaths_frame _ i).signs.trans (reportSignToGates_frame _ i).signs, fun hc => absurd hc hx⟩

/-- A sign whose transfer begins is PENDING; the gates and the paths hear of it only where it was closure-confirmed. -/
theorem beginTransfer_forms (s : State) (i : Fin 24) :
    (s.beginTransfer i).signs = setAt s.signs i (s.signs[i]).transferring ∧
    (s.signs[i].confirmed = false → s.beginTransfer i = s.setSign i (s.signs[i]).transferring) := by
  rw [beginTransfer, reportLink_setSign]
  exact reviewConfirmed_off s i (x := { s.signs[i] with transfer := true, link := .pending }) (by simp)

/-! ### The parts that a line's commands can change -/

/-- A state that a line's command gives, by the parts that such a command can change. -/
theorem eq_of_line_frame {s t : State} {flc : Vector Line 2} {scp : ScpUnit} {signs : Vector Sign 24}
    (h : Frame [.scp, .flc, .signs, .gtc, .avp, .prt] s t) (hflc : t.flc = flc) (hscp : t.scp = scp)
    (hsigns : t.signs = signs) :
    t = { s with flc := flc, scp := scp, signs := signs, gtc := t.gtc, avp := t.avp, prt := t.prt } := by
  subst hflc hscp hsigns
  rw [← h.powered, ← h.img, ← h.map, ← h.ord, ← h.rsv, ← h.mea, ← h.cnd, ← h.pins, ← h.cuts, ← h.pending]

theorem dropOf_congr {s u : State} (himg : u.img = s.img) (hmap : u.map = s.map) (i : Fin 24) :
    u.dropOf i = s.dropOf i := by
  have hshared : u.dropShared = s.dropShared := by
    funext k r
    rw [dropShared, dropShared, himg]
  rw [dropOf, dropOf, linedSign?, linedSign?, valid, valid, himg, hmap, hshared]

/-! ### The commands on the job that comes next -/

/-- A lamp transfer before its request to the arbiter. -/
def lampBegun (l : Fin 2) (j : Job) (gen : Nat) (s : State) : State :=
  (s.takeJob l j ⟨.lamp gen, j.sign, j.level, 0, false⟩ none).beginTransfer j.sign

section Take
variable {s : State} {l : Fin 2} {j : Job} (hj : s.nextJob l = some j)
include hj

theorem pageTransfer_eq {gen pages dwell : Nat} (hk : j.kind = .page gen pages dwell) : s.pageTransfer l =
    (s.takeJob l j ⟨.page gen pages dwell, j.sign, j.level, 0, false⟩
      (some (fieldFrame (s.dropOf j.sign) 1 (put16 gen ++ put8 pages ++ put8 dwell ++ put8 j.level)))).beginTransfer
        j.sign := by
  simp only [pageTransfer, hj, hk, kindPageBegin]

theorem lampTransfer_eq {gen : Nat} (hk : j.kind = .lamp gen) : s.lampTransfer l = (s.lampBegun l j gen).lineAsks l := by
  simp only [lampTransfer, hj, hk, lampBegun]

theorem lampTransfer_other (hk : ∀ gen, j.kind ≠ .lamp gen) : s.lampTransfer l = s := by
  rw [lampTransfer, hj]
  dsimp only
  cases hkind : j.kind with
  | lamp gen => exact absurd hkind (hk gen)
  | page _ _ _ | bright => rfl

theorem brightnessJob_eq (hk : j.kind = .bright) : s.brightnessJob l =
    s.takeJob l j ⟨.bright, j.sign, j.level, 0, false⟩ (some (fieldFrame (s.dropOf j.sign) 5 (put8 j.level))) := by
  simp only [brightnessJob, hj, hk, kindBright]

theorem brightnessJob_other (hk : j.kind ≠ .bright) : s.brightnessJob l = s := by
  rw [brightnessJob, hj]
  dsimp only
  cases hkind : j.kind with
  | bright => exact absurd hkind hk
  | page _ _ _ | lamp _ => rfl

end Take

/-! ### The transfers -/

/-- A page transfer: PAGE_BEGIN is on the wire, and the sign is PENDING. -/
theorem pageTransfer_begins {s : State} {l : Fin 2} {j : Job} {gen pages dwell : Nat} (hj : s.nextJob l = some j)
    (hk : j.kind = .page gen pages dwell) : s.pageTransfer l = { s with
      flc := setAt s.flc l (((s.flc[l]).dropJobs j.sign).begin ⟨.page gen pages dwell, j.sign, j.level, 0, false⟩
        (some (fieldFrame (s.dropOf j.sign) 1 (put16 gen ++ put8 pages ++ put8 dwell ++ put8 j.level))))
      signs := setAt s.signs j.sign (s.signs[j.sign]).transferring
      gtc := (s.pageTransfer l).gtc, avp := (s.pageTransfer l).avp, prt := (s.pageTransfer l).prt } := by
  have hf := pageTransfer_frame s l
  have heq := pageTransfer_eq hj hk
  refine eq_of_line_frame hf.mono ?_ hf.scp ?_
  · rw [heq, (beginTransfer_frame _ _).flc]
    rfl
  · rw [heq]
    exact (beginTransfer_forms _ _).1

theorem pageTransfer_unreported {s : State} {l : Fin 2} {j : Job} {gen pages dwell : Nat} (hj : s.nextJob l = some j)
    (hk : j.kind = .page gen pages dwell) (hc : s.signs[j.sign].confirmed = false) :
    Frame [.flc, .signs] s (s.pageTransfer l) := by
  let u := s.takeJob l j ⟨.page gen pages dwell, j.sign, j.level, 0, false⟩
    (some (fieldFrame (s.dropOf j.sign) 1 (put16 gen ++ put8 pages ++ put8 dwell ++ put8 j.level)))
  have hu : u.beginTransfer j.sign = u.setSign j.sign (u.signs[j.sign]).transferring := (beginTransfer_forms u _).2 hc
  rw [pageTransfer_eq hj hk, hu]
  exact Frame.step (setSign_frame _ _ _) (takeJob_frame s l j _ _).mono

/-! ### The lamp transfer -/

section Begun
variable (s : State) (l : Fin 2) (j : Job) (gen : Nat)

theorem lampBegun_frame : Frame [.flc, .signs, .gtc, .avp, .prt] s (s.lampBegun l j gen) :=
  Frame.step (beginTransfer_frame _ _) (takeJob_frame s l j _ _).mono

theorem lampBegun_line : (s.lampBegun l j gen).flc[l] =
    ((s.flc[l]).dropJobs j.sign).begin ⟨.lamp gen, j.sign, j.level, 0, false⟩ none := by
  rw [lampBegun, (beginTransfer_frame _ _).flc]
  exact setLine_get s l _

theorem lampBegun_signs : (s.lampBegun l j gen).signs = setAt s.signs j.sign (s.signs[j.sign]).transferring :=
  (beginTransfer_forms _ _).1

/-- The LAMPS frame is that of the state in which the job is taken. -/
theorem lampBegun_lampsFrame (a : Arbiter) (b : Bool) :
    ((s.lampBegun l j gen).setArbiter a).lampsFrame ⟨.lamp gen, j.sign, j.level, 0, b⟩ =
      fieldFrame (s.dropOf j.sign) 4
        ([(s.signs[j.sign]).draftLamps.1, (s.signs[j.sign]).draftLamps.2] ++ put8 j.level) := by
  let u := (s.lampBegun l j gen).setArbiter a
  have hf := lampBegun_frame s l j gen
  have hdrop : u.dropOf j.sign = s.dropOf j.sign := dropOf_congr hf.img hf.map _
  have hsign : u.signs[j.sign] = (s.signs[j.sign]).transferring := by
    change (s.lampBegun l j gen).signs[j.sign] = _
    rw [lampBegun_signs]
    exact setAt_get_same s.signs j.sign _
  change fieldFrame (u.dropOf j.sign) 4
    ([(u.signs[j.sign]).draftLamps.1, (u.signs[j.sign]).draftLamps.2] ++ put8 j.level) = _
  rw [hdrop, hsign]
  rfl

end Begun

section Lamp
variable {s : State} {l : Fin 2} {j : Job} {gen : Nat} (hj : s.nextJob l = some j) (hk : j.kind = .lamp gen)
include hj hk

/-- The sign of a lamp transfer is PENDING; of SCP the arbiter alone has changed. -/
theorem lampTransfer_begins : s.lampTransfer l = { s with
      flc := (s.lampTransfer l).flc, scp := (s.lampTransfer l).scp
      signs := setAt s.signs j.sign (s.signs[j.sign]).transferring
      gtc := (s.lampTransfer l).gtc, avp := (s.lampTransfer l).avp, prt := (s.lampTransfer l).prt } ∧
    (s.lampTransfer l).scp = { s.scp with arbiter := (s.lampTransfer l).scp.arbiter } := by
  have heq := lampTransfer_eq hj hk
  refine ⟨eq_of_line_frame (lampTransfer_frame s l) rfl rfl ?_, ?_⟩
  · rw [heq, (lineAsks_frame _ _).signs, lampBegun_signs]
  · rw [heq, lineAsks_scp, (lampBegun_frame s l j gen).scp]

/-- Its line is in TRANSMIT, and no job of the sign waits. -/
theorem lampTransfer_line : (s.lampTransfer l).flc[l].phase = .transmit ∧
    ((s.lampTransfer l).flc[l]).queue = (s.flc[l]).queue.filter (fun y => y.sign ≠ j.sign) := by
  rw [lampTransfer_eq hj hk]
  obtain ⟨hphase, hqueue⟩ := lineAsks_keeps (s.lampBegun l j gen) l l
  rw [lampBegun_line] at hphase hqueue
  exact ⟨hphase, hqueue⟩

/-- A free page memory lets it send its LAMPS frame at once. -/
theorem lampTransfer_granted (hh : s.scp.arbiter.holder = none) (hc : s.scp.arbiter.composerWait = false)
    (hw : ∀ m : Fin 2, s.scp.arbiter.lineWait[m] = false) (hl : l ∈ s.scp.arbiter.lineOrder) :
    (s.lampTransfer l).scp.arbiter.holder = some (.line l) ∧
    (s.lampTransfer l).flc[l].trans = some ⟨.lamp gen, j.sign, j.level, 0, true⟩ ∧
    (s.lampTransfer l).flc[l].wire = some (fieldFrame (s.dropOf j.sign) 4
      ([(s.signs[j.sign]).draftLamps.1, (s.signs[j.sign]).draftLamps.2] ++ put8 j.level)) := by
  have hscp := (lampBegun_frame s l j gen).scp
  have hasks := lineAsks_free (s := s.lampBegun l j gen) (l := l) (hscp ▸ .inl hh) (hscp ▸ hc) (hscp ▸ hw) (hscp ▸ hl)
  have htrans : ∀ a, ((s.lampBegun l j gen).setArbiter a).flc[l].trans =
      some ⟨.lamp gen, j.sign, j.level, 0, false⟩ := fun _ => congrArg Line.trans (lampBegun_line s l j gen)
  rw [lampTransfer_eq hj hk, hasks, lineGranted_lamp (htrans _) rfl, lampBegun_lampsFrame, setLine_get]
  exact ⟨rfl, rfl, rfl⟩

/-- It waits, with no frame on the wire, while another unit holds page memory. -/
theorem lampTransfer_waits {h : Holder} (hh : s.scp.arbiter.holder = some h) (hne : h ≠ .line l) :
    (s.lampTransfer l).scp.arbiter = { s.scp.arbiter with lineWait := setAt s.scp.arbiter.lineWait l true } ∧
    (s.lampTransfer l).flc[l].trans = some ⟨.lamp gen, j.sign, j.level, 0, false⟩ ∧
    (s.lampTransfer l).flc[l].wire = none := by
  have hscp := (lampBegun_frame s l j gen).scp
  have hasks := lineAsks_held (s := s.lampBegun l j gen) (hscp ▸ hh) hne
  rw [lampTransfer_eq hj hk, hasks, setArbiter_flc, lampBegun_line, setArbiter_scp, hscp]
  exact ⟨rfl, rfl, rfl⟩

end Lamp

end State

/-- Settles O56: the first takeable job is the next job of an IDLE line, each kind of job has its own command, and without
one the round of addresses finds the first due sign. -/
theorem linesTakeJobsAndPolls : Obligations.LinesTakeJobsAndPolls := by
  refine fun l s hp => ⟨fun hbusy => ?_, fun j x hidle hx hfirst => ?_,
    fun i addr n hidle hq hn haddr hdue hbefore => ?_⟩
  · have hnone := State.nextJob_busy hbusy
    refine ⟨?_, ?_, ?_, ?_⟩
    · rw [exec_powered hp (i := .pageTransfer l) rfl, State.pageTransfer, hnone]
    · rw [exec_powered hp (i := .lampTransfer l) rfl, State.lampTransfer, hnone]
    · rw [exec_powered hp (i := .brightnessJob l) rfl, State.brightnessJob, hnone]
    · rw [exec_powered hp (i := .poll l) rfl, State.poll, State.nextPoll_busy hbusy]
  · have hj : s.nextJob l = some j := (if_pos hidle).trans hfirst
    subst hx
    refine ⟨?_, fun gen pages dwell hk => ?_, fun gen hk => ?_, fun hk => ?_⟩
    · rw [exec_powered hp (i := .poll l) rfl, State.poll, State.nextPoll_job hfirst]
    · refine ⟨_, exec_powered hp (i := .pageTransfer l) rfl, State.pageTransfer_begins hj hk, fun hc => ?_, ?_, ?_⟩
      · have hf := State.pageTransfer_unreported hj hk hc
        exact ⟨hf.gtc, hf.avp, hf.prt⟩
      · rw [exec_powered hp (i := .lampTransfer l) rfl, State.lampTransfer_other hj (by rw [hk]; nofun)]
      · rw [exec_powered hp (i := .brightnessJob l) rfl, State.brightnessJob_other hj (by rw [hk]; nofun)]
    · obtain ⟨hstate, hscp⟩ := State.lampTransfer_begins hj hk
      obtain ⟨hphase, hqueue⟩ := State.lampTransfer_line hj hk
      exact ⟨_, exec_powered hp (i := .lampTransfer l) rfl, hstate, hscp, hqueue, hphase,
        State.lampTransfer_granted hj hk, fun h => State.lampTransfer_waits hj hk⟩
    · rw [exec_powered hp (i := .brightnessJob l) rfl, State.brightnessJob_eq hj hk]
      rfl
  · subst haddr
    rw [exec_powered hp (i := .poll l) rfl, State.poll, State.nextPoll_due hidle hq hn hdue hbefore]
    rfl

end Sys2Proof.Machine
end

section
/-! ## One port in order (R157, R161, R163) -/

set_option Elab.async false

namespace Sys2Proof.Machine

/-- What `State.portOk` says of a port but for the frames that wait: with a byte just taken, a frame may wait at a READY
port until the port takes it. -/
structure PortUnit.Sound (q : PortUnit) : Prop where
  reply : q.reply.isSome = true ↔ q.service = .replyWait
  fill : q.rxFill ≤ 256
  notices : q.notices.length ≤ 32
  lost : q.lost ≤ 255

theorem portOk_iff {q : PortUnit} : State.portOk q ↔ (q.service = .ready → q.passed = []) ∧ q.Sound :=
  ⟨fun ⟨hp, hr, hf, hn, hl⟩ => ⟨hp, hr, hf, hn, hl⟩, fun ⟨hp, hr, hf, hn, hl⟩ => ⟨hp, hr, hf, hn, hl⟩⟩

theorem satAdd_le (top n k : Nat) : satAdd top n k ≤ top := by
  unfold satAdd
  split <;> omega

namespace PortUnit
variable {q : PortUnit}

theorem atStart_ok : State.portOk PortUnit.atStart := by
  refine ⟨fun _ => rfl, ?_, ?_, ?_, ?_⟩ <;> decide

theorem push_ok (h : State.portOk q) (n : Notice) : State.portOk (q.push n) := by
  obtain ⟨hp, hr, hf, hn, hl⟩ := h
  have hlen := push_bounded n q hn
  unfold push at hlen ⊢
  split at hlen
  · next hroom =>
    rw [if_pos hroom]
    exact ⟨hp, hr, hf, hlen, hl⟩
  · next hfull =>
    rw [if_neg hfull]
    exact ⟨hp, hr, hf, hlen, satAdd_le 255 q.lost 1⟩

theorem answered_ok (h : State.portOk q) (body : List Byte) :
    State.portOk { q with service := .replyWait, reply := some body } := by
  obtain ⟨-, -, hf, hn, hl⟩ := h
  exact ⟨nofun, ⟨fun _ => rfl, fun _ => rfl⟩, hf, hn, hl⟩

theorem sendNotice_ok (h : State.portOk q) : State.portOk q.sendNotice := by
  obtain ⟨hp, hr, hf, hn, hl⟩ := h
  unfold sendNotice
  split
  · next n t _ _ hnotices =>
    rw [hnotices, List.length_cons] at hn
    exact ⟨hp, hr, hf, Nat.le_of_succ_le hn, Nat.zero_le _⟩
  · exact ⟨hp, hr, hf, hn, hl⟩

theorem reset_ok (q : PortUnit) : State.portOk q.reset :=
  ⟨fun _ => rfl, ⟨nofun, nofun⟩, Nat.zero_le _, Nat.zero_le _, satAdd_le 255 q.lost _⟩

/-! ### What the decoder leaves sound -/

/-- The bytes of the passed frames that wait. -/
def waitingFill (q : PortUnit) : Nat := (q.passed.map (fun b => b.length + 4)).sum

theorem rxFill_hunt (h : q.rx = .hunt) : q.rxFill = q.waitingFill := by
  unfold rxFill
  rw [h]
  rfl

theorem rxFill_inFrame {g : List Byte} (h : q.rx = .inFrame g) : q.rxFill = q.waitingFill + (g.length + 1) := by
  unfold rxFill
  rw [h]
  rfl

theorem waitingFill_le (q : PortUnit) : q.waitingFill ≤ q.rxFill := Nat.le_add_right _ _

theorem discard_sound (h : q.Sound) (c : DiscardCause) : (q.discard c).Sound := by
  obtain ⟨hr, hf, hn, hl⟩ := h
  have hfill : (q.discard c).rxFill = q.waitingFill := rxFill_hunt rfl
  exact ⟨hr, hfill ▸ q.waitingFill_le.trans hf, hn, hl⟩

theorem discard_ok (h : State.portOk q) (c : DiscardCause) : State.portOk (q.discard c) :=
  portOk_iff.mpr ⟨h.1, discard_sound (portOk_iff.mp h).2 c⟩

theorem huntByte_sound (h : q.Sound) (hx : q.rx = .hunt) (hroom : q.rxFill < 256) (b : Byte) (ovr : Bool) :
    (q.huntByte b ovr).Sound := by
  have hfill := rxFill_hunt hx
  unfold huntByte
  split
  · split
    · exact discard_sound h _
    · have hopen : PortUnit.rxFill { q with rx := .inFrame [] } = q.waitingFill + (0 + 1) :=
        rxFill_inFrame (q := { q with rx := .inFrame [] }) rfl
      exact ⟨h.reply, by omega, h.notices, h.lost⟩
  split
  · exact ⟨h.reply, h.fill, h.notices, h.lost⟩
  split
  · exact ⟨h.reply, h.fill, h.notices, h.lost⟩
  · exact ⟨h.reply, h.fill, h.notices, h.lost⟩

/-- A frame that passes frees its lead, so the bytes after the lead may fill the RX FIFO with it. -/
theorem frameBytes_sound (h : q.Sound) {g : List Byte} (hroom : q.waitingFill + (g.length + 1) ≤ 256) :
    (q.frameBytes g).Sound := by
  unfold frameBytes
  split
  · exact h
  next len rest =>
  split
  · exact discard_sound h _
  split
  · refine ⟨h.reply, ?_, h.notices, h.lost⟩
    have hfill : PortUnit.rxFill { q with rx := .inFrame (len :: rest) } =
      q.waitingFill + ((len :: rest).length + 1) := rxFill_inFrame rfl
    omega
  split
  · refine ⟨h.reply, ?_, h.notices, h.lost⟩
    have hfill : PortUnit.rxFill { q with rx := .hunt, passed := q.passed ++ [rest.take len.toNat] } =
        q.waitingFill + ((rest.take len.toNat).length + 4) := by
      rw [rxFill_hunt rfl]
      simp [waitingFill]
    rw [List.length_cons] at hroom
    have htake := List.length_take_of_le (l := rest) (i := len.toNat) (by omega)
    omega
  · exact discard_sound h _

theorem rxByte_sound (h : q.Sound) (b : Byte) : (q.rxByte b).Sound := by
  unfold rxByte
  split
  · exact h
  split
  · exact ⟨h.reply, h.fill, h.notices, h.lost⟩
  next hroom =>
  have hclear : PortUnit.Sound { q with overrunNext := false } := ⟨h.reply, h.fill, h.notices, h.lost⟩
  dsimp only
  split
  · next hx => exact huntByte_sound hclear hx (by exact Nat.lt_of_not_le hroom) b _
  · next g hx =>
    split
    · exact discard_sound hclear _
    · refine frameBytes_sound hclear ?_
      have hfill := rxFill_inFrame hx
      rw [List.length_append, List.length_singleton]
      change q.waitingFill + _ ≤ _
      omega

theorem rxBytes_sound (h : q.Sound) (bytes : List Byte) : (q.rxBytes bytes).Sound :=
  List.foldlRecOn (motive := Sound) bytes _ h fun _ hq b _ => rxByte_sound hq b

/-- Nothing stands in the way of a frame (R158). -/
theorem clearFor_iff {body : List Byte} : q.clearFor body = true ↔ q.rx = .hunt ∧ q.overrunNext = false ∧
    q.spacing = false ∧ q.rxFill + body.length + 4 ≤ 256 ∧ 2 ≤ body.length ∧ body.length ≤ 240 := by
  simp [clearFor, and_assoc]

theorem rxFrame_sound (h : q.Sound) (body : List Byte) : (q.rxFrame body).Sound := by
  unfold rxFrame
  split
  · next hc =>
    obtain ⟨hx, -, -, hroom, -⟩ := clearFor_iff.mp hc
    refine ⟨h.reply, ?_, h.notices, h.lost⟩
    have hfill : PortUnit.rxFill { q with passed := q.passed ++ [body] } = q.waitingFill + (body.length + 4) := by
      rw [rxFill_hunt (q := { q with passed := q.passed ++ [body] }) hx]
      simp [waitingFill]
    have hbefore := rxFill_hunt hx
    omega
  · exact rxBytes_sound h _

theorem placeReply_sound (h : q.Sound) : q.placeReply.Sound := by
  unfold placeReply
  split
  · split
    · exact ⟨⟨nofun, nofun⟩, h.fill, h.notices, h.lost⟩
    · exact h
  · exact h

/-- A READY port takes the oldest frame that waits (R161). -/
theorem taken_ok (h : q.Sound) (hready : q.service = .ready) {body : List Byte} {rest : List (List Byte)}
    (hpassed : q.passed = body :: rest) : State.portOk { q with passed := rest, service := .serving } := by
  refine ⟨nofun, ⟨fun hreply => ?_, nofun⟩, ?_, h.notices, h.lost⟩
  · exact nomatch hready.symm.trans (h.reply.mp hreply)
  · have hfill := h.fill
    unfold rxFill at hfill ⊢
    rw [hpassed, List.map_cons, List.sum_cons] at hfill
    dsimp only
    omega

end PortUnit

end Sys2Proof.Machine
end

section
/-! ## The ports and the queue of commands under the shared operations

Outside PRT an operation meets the ports through the events it records and the requests it answers (R161, R163). -/

set_option Elab.async false

namespace Sys2Proof.Machine

namespace State

/-- The operation that leads from `s` to `t` leaves the queue of waiting commands and keeps the ports in order. -/
structure KeepsPorts (s t : State) : Prop where
  queue : t.pending = s.pending
  ports : s.portsOk → t.portsOk

namespace KeepsPorts
variable {s t u : State}

theorem refl (s : State) : KeepsPorts s s := ⟨rfl, id⟩

theorem trans (h : KeepsPorts s t) (k : KeepsPorts t u) : KeepsPorts s u :=
  ⟨k.queue.trans h.queue, k.ports ∘ h.ports⟩

theorem of_eq (hprt : t.prt = s.prt) (hq : t.pending = s.pending) : KeepsPorts s t := by
  refine ⟨hq, fun hs p => ?_⟩
  unfold port
  rw [hprt]
  exact hs p

/-- An operation that touches neither. -/
theorem of_frame {l : List Field} (h : Frame l s t) (hp : l.contains .prt = false := by rfl)
    (hq : l.contains .pending = false := by rfl) : KeepsPorts s t := of_eq (h.prt hp) (h.pending hq)

/-- One more operation that touches neither. -/
theorem step {l : List Field} (h : KeepsPorts s t) (k : Frame l t u) (hp : l.contains .prt = false := by rfl)
    (hq : l.contains .pending = false := by rfl) : KeepsPorts s u := h.trans (of_frame k hp hq)

theorem foldl {α : Type} {f : State → α → State} (h : ∀ s a, KeepsPorts s (f s a)) (l : List α) (s : State) :
    KeepsPorts s (l.foldl f s) :=
  List.foldlRecOn (motive := KeepsPorts s) l _ (refl s) fun _ ht a _ => ht.trans (h _ a)

/-- A port is replaced by one in order. -/
theorem setPort {p : Port} {q : PortUnit} (h : portOk (s.port p) → portOk q) : KeepsPorts s (s.setPort p q) := by
  refine ⟨rfl, fun hs p' => ?_⟩
  by_cases he : p = p'
  · subst he
    rw [setPort_port]
    exact h (hs p)
  · rw [setPort_port_other s q he]
    exact hs p'

/-- One more event (R163). -/
theorem record (h : KeepsPorts s t) (e : Event) : KeepsPorts s (t.record e) := by
  refine h.trans ⟨rfl, fun ht p => ?_⟩
  rw [record_port]
  exact PortUnit.push_ok (ht p) _

theorem answerBody (h : KeepsPorts s t) (p : Port) (body : List Byte) : KeepsPorts s (t.answerBody p body) :=
  h.trans (setPort fun hq => PortUnit.answered_ok hq body)

/-- One more answer (R161). -/
theorem answer (h : KeepsPorts s t) (a : Asker) (rc : ReplyCode) (d : List Byte) : KeepsPorts s (t.answer a rc d) :=
  h.answerBody a.port _

end KeepsPorts

/-! ### Orders and stations -/

theorem keepsPorts_retire (s : State) (n : Nat) (r : EndReason) : KeepsPorts s (s.retire n r) := by
  unfold retire
  split
  · exact .refl s
  · exact ((KeepsPorts.of_frame (setOrd_frame s _)).record _).step (markDirty_frame _)

theorem keepsPorts_changeState (s : State) (o : Order) (st : OrderState) : KeepsPorts s (s.changeState o st) :=
  ((KeepsPorts.of_frame (putOrder_frame s _ _)).record _).step (markDirty_frame _)

theorem keepsPorts_renewOrder (s : State) (e d : Order) : KeepsPorts s (renewOrder e d s) :=
  ((KeepsPorts.of_frame (putOrder_frame s _ _)).record _).step (markDirty_frame _)

theorem keepsPorts_admitOrder (s : State) (o : Order) : KeepsPorts s (s.admitOrder o) :=
  ((KeepsPorts.of_frame (setOrd_frame s _)).record _).step (markDirty_frame _)

theorem keepsPorts_advanceOrders (s : State) (t : Nat) : KeepsPorts s (s.advanceOrders t) := by
  refine .foldl (fun s o => ?_) _ s
  unfold advanceOrder
  split
  · exact keepsPorts_retire s _ _
  split
  · exact keepsPorts_changeState s o _
  split
  · exact keepsPorts_changeState s o _
  · exact .refl s

theorem keepsPorts_rewindOrders (s : State) (t : Nat) : KeepsPorts s (s.rewindOrders t) := by
  refine .foldl (fun s o => ?_) _ s
  unfold rewindOrder
  split
  · exact keepsPorts_changeState s o _
  · exact .refl s

theorem keepsPorts_startOrders (s : State) : KeepsPorts s s.startOrders := by
  have hpurge : KeepsPorts s s.purgeOrders := by
    unfold purgeOrders
    split
    · refine .foldl (fun s o => ?_) _ s
      split
      · exact .refl s
      · exact keepsPorts_retire s _ _
    · exact .refl s
  have hexpire : KeepsPorts s.purgeOrders s.purgeOrders.expireOrders := by
    refine .foldl (fun s o => ?_) _ _
    split
    · exact keepsPorts_retire s _ _
    · exact .refl s
  have hrestate : KeepsPorts s.purgeOrders.expireOrders s.purgeOrders.expireOrders.restateOrders := by
    refine .foldl (fun s o => ?_) _ _
    split
    · exact .refl s
    · exact keepsPorts_changeState s o _
  exact ((hpurge.trans hexpire).trans hrestate).step (markDirty_frame _)

theorem keepsPorts_wxRaise (s : State) (k : Fin 6) (c : Content) : KeepsPorts s (wxRaise k c s) := by
  unfold wxRaise
  split
  · split
    · exact .refl s
    · exact ((KeepsPorts.of_frame (setOrd_frame s _)).record _).step (markDirty_frame _)
  split
  · exact .refl s
  split
  · exact keepsPorts_admitOrder s _
  · exact .refl s

theorem keepsPorts_wxRequest (s : State) (k : Fin 6) (kind : Kind) (c : Option Content) :
    KeepsPorts s (s.wxRequest k kind c) := by
  unfold wxRequest
  split
  · split
    · exact .refl s
    · exact keepsPorts_wxRaise s k _
  · unfold wxRetire
    split
    · exact keepsPorts_retire s _ _
    · exact .refl s

theorem keepsPorts_wxRequests (s : State) (k : Fin 6) (r : StationRec) : KeepsPorts s (s.wxRequests k r) := by
  unfold wxRequests
  split
  · exact ((keepsPorts_wxRequest s k _ _).trans (keepsPorts_wxRequest _ k _ _)).trans (keepsPorts_wxRequest _ k _ _)
  · exact .refl s

theorem keepsPorts_conclude (s : State) (k : Fin 6) (r : StationRec) : KeepsPorts s (s.conclude k r) :=
  ((KeepsPorts.of_frame (setReady_frame s k r)).step (setStation_frame _ _ _)).trans (keepsPorts_wxRequests _ k r)

theorem keepsPorts_noteClass (s : State) (k : Fin 6) (c : SurfaceClass) (m : Option Int) :
    KeepsPorts s (s.noteClass k c m) := by
  unfold noteClass
  split
  · exact .refl s
  · exact ((KeepsPorts.refl s).record _).step (markDirty_frame _)

theorem keepsPorts_noteQuality (s : State) (k : Fin 6) (a b : Quality) : KeepsPorts s (s.noteQuality k a b) := by
  unfold noteQuality
  dsimp only
  split
  · exact .refl s
  · exact (KeepsPorts.of_frame (setStation_frame s k _)).record _

theorem keepsPorts_scanHandOver (s : State) (k : Fin 6) (r : StationRec) (a b : Quality) (x y : Option Int) :
    KeepsPorts s (s.scanHandOver k r a b x y) :=
  (((keepsPorts_noteQuality s k a b).step (setStation_frame _ _ _)).trans (keepsPorts_noteClass _ k _ _)).trans
    (keepsPorts_conclude _ k r)

theorem keepsPorts_windHandOver (s : State) (k : Fin 6) (r : StationRec) (gust mean : Nat) :
    KeepsPorts s (s.windHandOver k r gust mean) := by
  have hset : KeepsPorts s (s.setStation k ((s.cnd[k]).windFrom r gust)) := .of_frame (setStation_frame s _ _)
  refine KeepsPorts.trans ?_ (keepsPorts_conclude _ k r)
  split
  · exact hset
  · exact hset.record _

theorem keepsPorts_improvementExpiry (s : State) (k : Fin 6) : KeepsPorts s (s.improvementExpiry k) := by
  unfold improvementExpiry
  split
  · exact .refl s
  dsimp only
  split
  · exact ((KeepsPorts.of_frame (setStation_frame s _ _)).trans (keepsPorts_noteClass _ k _ _)).trans
      (keepsPorts_conclude _ k _)
  · exact .refl s

/-! ### Scans and wind samples -/

theorem keepsPorts_with_mea (s : State) (m : MeaUnit) : KeepsPorts s { s with mea := m } := .of_eq rfl rfl

theorem keepsPorts_handOver (s : State) : KeepsPorts s s.handOver := by
  refine (KeepsPorts.foldl (fun s k => ?_) _ s).step (lightToSigns_frame _)
  unfold handStation
  split
  · exact keepsPorts_scanHandOver s k _ _ _ _ _
  · exact .refl s

theorem keepsPorts_conversionEnd (s : State) (count : Nat) (ovf : Bool) : KeepsPorts s (s.conversionEnd count ovf) := by
  unfold conversionEnd
  split
  · exact .refl s
  dsimp only
  split
  · exact (keepsPorts_with_mea s _).trans (keepsPorts_handOver _)
  · exact keepsPorts_with_mea s _

theorem keepsPorts_windSample (s : State) : KeepsPorts s s.windSample := by
  refine .foldl (fun s k => ?_) _ s
  unfold sampleStation
  split
  · split
    · exact (keepsPorts_with_mea s _).trans (keepsPorts_windHandOver _ k _ _ _)
    · exact .refl s
  · exact .refl s

/-! ### Paths -/

theorem keepsPorts_tripCreate (s : State) (k : Nat) (r : PathRec) : KeepsPorts s (tripCreate k r s).2 := by
  unfold tripCreate
  split
  · exact .refl s
  · exact keepsPorts_admitOrder s _

/-- A path is stored and one event recorded. -/
theorem keepsPorts_setPath_record (s : State) (k : Fin 12) (x : Path) (e : Event) :
    KeepsPorts s ((s.setPath k x).record e) := (KeepsPorts.of_frame (setPath_frame s k x)).record e

theorem keepsPorts_testPath (s : State) (k : Fin 12) (r : PathRec) : KeepsPorts s (s.testPath k r) := by
  unfold testPath
  split
  · split
    · exact keepsPorts_setPath_record s k _ _
    · exact .refl s
  · split
    · exact .refl s
    · exact keepsPorts_setPath_record s k _ _
  · exact .refl s

theorem keepsPorts_testPaths (s : State) (named : PathRec → Bool) (states : List PathState) :
    KeepsPorts s (s.testPaths named states) := by
  refine .foldl (fun s k => ?_) _ s
  split
  · split
    · exact keepsPorts_testPath s k _
    · exact .refl s
  · exact .refl s

theorem keepsPorts_zoneRecorded (s : State) (k l : Fin 12) (z : Zone) (st : PathState) :
    KeepsPorts s (s.zoneRecorded k l z st) := by
  have hzone := keepsPorts_setPath_record s k (s.avp[k].accepted z) (.loopZone l.val k.val z st)
  unfold zoneRecorded
  dsimp only
  split
  · exact hzone.record _
  · exact hzone

theorem keepsPorts_zoneEffect (s : State) (k : Fin 12) (r : PathRec) (old : Path) (z : Zone) :
    KeepsPorts s (s.zoneEffect k r old z) := by
  unfold zoneEffect
  split
  · exact ((keepsPorts_tripCreate s k r).step (setPath_frame _ _ _)).record _
  · exact keepsPorts_setPath_record s k _ _
  · exact (((keepsPorts_tripCreate s k r).step (setPath_frame _ _ _)).record _).record _
  · split
    · exact keepsPorts_setPath_record s k _ _
    · exact .refl s
  · exact .of_frame (setPath_frame s _ _)

theorem keepsPorts_acceptZone (s : State) (k : Fin 12) (r : PathRec) (l : Fin 12) (z : Zone) :
    KeepsPorts s (s.acceptZone k r l z) := by
  cases hv : s.map.valid with
  | true =>
    rw [acceptZone_valid hv]
    exact (keepsPorts_zoneRecorded s k l z _).trans (keepsPorts_zoneEffect _ _ _ _ _)
  | false =>
    rw [acceptZone_invalid hv]
    exact keepsPorts_zoneRecorded s k l z _

theorem keepsPorts_acceptedZone (s : State) (l : Fin 12) (z : Zone) : KeepsPorts s (s.acceptedZone l z) := by
  unfold acceptedZone
  split
  · exact .refl s
  split
  · exact .refl s
  split
  · exact keepsPorts_acceptZone s _ _ _ _
  · exact .refl s

theorem keepsPorts_loopSample (s : State) (v : Vector Nat 12) : KeepsPorts s (s.loopSample v) := by
  refine .foldl (fun s k => ?_) _ s
  unfold samplePath sampleLoop
  split
  · split
    · exact keepsPorts_acceptZone s _ _ _ _
    · exact .of_frame (setPath_frame s _ _)
  · exact .refl s

theorem keepsPorts_confirmExpiry (s : State) (k : Fin 12) : KeepsPorts s (s.confirmExpiry k) := by
  unfold confirmExpiry
  split
  · exact .refl s
  split
  · split
    · exact keepsPorts_setPath_record s k _ _
    · exact keepsPorts_setPath_record s k _ _
  · exact .refl s

theorem keepsPorts_clearPath (s : State) (k : Fin 12) (n : Nat) : KeepsPorts s (s.clearPath k n) :=
  (keepsPorts_retire s n _).step (setPath_frame _ _ _)

theorem keepsPorts_endHold (s : State) (k : Fin 12) (n : Nat) : KeepsPorts s (s.endHold k n) :=
  (keepsPorts_retire s n _).step (setPath_frame _ _ _)

/-! ### Gates -/

theorem keepsPorts_recordGate (s : State) (g : Fin 8) (x : Gate) (b : Bool) : KeepsPorts s (s.recordGate g x b) := by
  unfold recordGate
  dsimp only
  split
  · exact ((KeepsPorts.refl s).record _).record _
  · exact (KeepsPorts.refl s).record _

theorem keepsPorts_enterGate (s : State) (g : Fin 8) (x : Gate) : KeepsPorts s (enterGate g s x) := by
  have hrec := (KeepsPorts.of_frame (setGate_frame s g x)).trans
    (keepsPorts_recordGate _ g x (decide (s.gtc[g].state ≠ .fault)))
  unfold enterGate reportGate
  split
  · exact hrec.trans (keepsPorts_testPaths _ _ _)
  · exact hrec

theorem keepsPorts_moveGate (s : State) (g : Fin 8) (m : Gate × List Gate) : KeepsPorts s (s.moveGate g m) :=
  (KeepsPorts.of_frame (setGate_frame s g m.1)).trans (.foldl (fun s x => keepsPorts_enterGate s g x) m.2 _)

theorem keepsPorts_onGate (s : State) (g : Fin 8) (f : GateRec → Gate → Gate × List Gate) :
    KeepsPorts s (s.onGate g f) := by
  unfold onGate
  split
  · exact keepsPorts_moveGate s g _
  · exact .refl s

theorem keepsPorts_publishToGates (s : State) : KeepsPorts s s.publishToGates :=
  .foldl (fun s g => keepsPorts_onGate s g _) _ s

theorem keepsPorts_reportSignToGates (s : State) (i : Fin 24) : KeepsPorts s (s.reportSignToGates i) :=
  .foldl (fun s g => keepsPorts_onGate s g _) _ s

theorem keepsPorts_pinChange (s : State) (g : Fin 8) (pins : GatePins) (act : GateRec → Gate → Gate × List Gate)
    (store : Gate → Gate) (same : Gate → Bool) : KeepsPorts s (s.pinChange g pins act store same) := by
  have hpins : KeepsPorts s { s with pins := setAt s.pins g pins } := .of_eq rfl rfl
  unfold pinChange
  dsimp only
  split
  · exact hpins
  split
  · exact hpins
  split
  · exact hpins
  split
  · exact hpins.trans (keepsPorts_moveGate _ g _)
  split
  · exact hpins.step (setGate_frame _ _ _)
  · exact (hpins.step (setGate_frame _ _ _)).trans (keepsPorts_recordGate _ g _ _)

theorem keepsPorts_signWaitExpiry (s : State) (g : Fin 8) : KeepsPorts s (s.signWaitExpiry g) := by
  unfold signWaitExpiry
  split
  · split
    · exact ((KeepsPorts.refl s).record _).step (setGate_frame _ _ _)
    · exact .refl s
  · exact .refl s

/-! ### Signs and field lines -/

theorem keepsPorts_reviewConfirmed (s : State) (i : Fin 24) : KeepsPorts s (s.reviewConfirmed i) := by
  unfold reviewConfirmed
  dsimp only
  split
  · exact .refl s
  · exact ((KeepsPorts.of_frame (setSign_frame s i _)).trans (keepsPorts_reportSignToGates _ i)).trans
      (keepsPorts_testPaths _ _ _)

theorem keepsPorts_reportLink (s : State) (i : Fin 24) (k : Link) : KeepsPorts s (s.reportLink i k) :=
  (KeepsPorts.of_frame (setSign_frame s i _)).trans (keepsPorts_reviewConfirmed _ i)

theorem keepsPorts_beginTransfer (s : State) (i : Fin 24) : KeepsPorts s (s.beginTransfer i) :=
  (KeepsPorts.of_frame (setSign_frame s i _)).trans (keepsPorts_reportLink _ i _)

theorem keepsPorts_pageTransfer (s : State) (l : Fin 2) : KeepsPorts s (s.pageTransfer l) := by
  unfold pageTransfer
  split
  · split
    · exact (KeepsPorts.of_frame (takeJob_frame s l _ _ _)).trans (keepsPorts_beginTransfer _ _)
    · exact .refl s
  · exact .refl s

theorem keepsPorts_lampTransfer (s : State) (l : Fin 2) : KeepsPorts s (s.lampTransfer l) := by
  unfold lampTransfer
  split
  · split
    · exact ((KeepsPorts.of_frame (takeJob_frame s l _ _ _)).trans (keepsPorts_beginTransfer _ _)).step
        (lineAsks_frame _ l)
    · exact .refl s
  · exact .refl s

/-- A valid reply may record SIGN_DOOR and SIGN_DEGRADED (R154). -/
theorem keepsPorts_takeReport (s : State) (l : Fin 2) (i : Fin 24) (q : SignReply) :
    KeepsPorts s (s.takeReport l i q) := by
  unfold takeReport
  extract_lets x opened limit y s1 s2
  have h1 : KeepsPorts s s1 := .of_frame (setSign_frame s i y)
  have h2 : KeepsPorts s s2 := by
    change KeepsPorts s (if _ then s1 else s1.record _)
    split
    · exact h1
    · exact h1.record _
  split
  · exact h2.record _
  · exact h2

/-- A transaction ends with a valid reply, whose report is taken. -/
theorem keepsPorts_endReported (s : State) (l : Fin 2) (t : Trans) (q : SignReply) :
    KeepsPorts s ((s.endTransaction l t).takeReport l t.sign q) :=
  (KeepsPorts.of_frame (endTransaction_frame s l t)).trans (keepsPorts_takeReport _ l t.sign q)

theorem keepsPorts_takeConfirm (s : State) (l : Fin 2) (t : Trans) (q : SignReply) :
    KeepsPorts s (s.takeConfirm l t q) := by
  have hreport := keepsPorts_endReported s l t q
  unfold takeConfirm
  dsimp only
  split
  · exact ((hreport.step (setSign_frame _ _ _)).step (setSign_frame _ _ _)).trans (keepsPorts_reviewConfirmed _ _)
  · exact ((hreport.step (setSign_frame _ _ _)).trans (keepsPorts_reportLink _ _ _)).step (putBackJob_frame _ _ _)

theorem keepsPorts_misplacedReply (s : State) (l : Fin 2) : KeepsPorts s (s.misplacedReply l) :=
  .of_frame (misplacedReply_frame s l)

theorem keepsPorts_confirm (s : State) (l : Fin 2) (q : SignReply) : KeepsPorts s (s.confirm l q) := by
  unfold confirm
  split
  · split
    · exact keepsPorts_takeConfirm s l _ q
    · exact keepsPorts_takeConfirm s l _ q
    all_goals exact keepsPorts_misplacedReply s l
  · exact keepsPorts_misplacedReply s l

theorem keepsPorts_takeStatusLink (s : State) (i : Fin 24) (c : Check) : KeepsPorts s (s.takeStatusLink i c) := by
  unfold takeStatusLink
  split
  · split
    · exact .refl s
    · exact (keepsPorts_reportLink s i _).step (requestComposition_frame _ i)
  · exact (keepsPorts_reportLink s i _).step (requestComposition_frame _ i)
  all_goals exact .refl s

theorem keepsPorts_status (s : State) (l : Fin 2) (q : SignReply) : KeepsPorts s (s.status l q) := by
  have taken : ∀ t, KeepsPorts s (s.takeStatus l t q) := fun t =>
    (keepsPorts_endReported s l t q).trans (keepsPorts_takeStatusLink _ _ _)
  unfold status
  split
  · split
    · exact taken _
    · exact taken _
    all_goals exact keepsPorts_misplacedReply s l
  · exact keepsPorts_misplacedReply s l

theorem keepsPorts_goOffline (s : State) (l : Fin 2) (i : Fin 24) : KeepsPorts s (s.goOffline l i) :=
  (KeepsPorts.of_frame (setLine_frame s l _)).trans (keepsPorts_reportLink _ i _)

theorem keepsPorts_takeNoReply (s : State) (l : Fin 2) (t : Trans) : KeepsPorts s (s.takeNoReply l t) := by
  unfold takeNoReply
  extract_lets i s0 n x s1
  have h1 : KeepsPorts s s1 :=
    ((KeepsPorts.of_frame (endTransaction_frame s l t)).step (setLine_frame _ l _)).step (setSign_frame _ i _)
  have htransfer : KeepsPorts s (if n = 3 then s1.goOffline l i else (s1.reportLink i .pending).putBackJob l t) := by
    split
    · exact h1.trans (keepsPorts_goOffline s1 l i)
    · exact (h1.trans (keepsPorts_reportLink s1 i _)).step (putBackJob_frame _ l t)
  have hother : KeepsPorts s (if n = 3 then (if s1.signs[i].link = .offline then s1 else s1.goOffline l i)
      else s1.putBackJob l t) := by
    split
    · split
      · exact h1
      · exact h1.trans (keepsPorts_goOffline s1 l i)
    · exact h1.step (putBackJob_frame s1 l t)
  split
  · exact htransfer
  · exact htransfer
  · exact hother
  · exact hother

theorem keepsPorts_replyLimitExpiry (s : State) (l : Fin 2) : KeepsPorts s (s.replyLimitExpiry l) := by
  unfold replyLimitExpiry
  split
  · exact keepsPorts_takeNoReply s l _
  · exact .refl s

/-- A port's read of page memory ends with its answer (R143, R145). -/
theorem keepsPorts_pageMemoryAccessEnd (s : State) : KeepsPorts s s.pageMemoryAccessEnd := by
  have released : KeepsPorts s s.release := .of_frame (release_frame s)
  unfold pageMemoryAccessEnd
  split
  · exact .refl s
  · exact .of_frame (composerAccessEnd_frame s)
  · exact released
  · split
    · exact released.answerBody _ _
    · exact released

/-! ### A completed pass -/

theorem keepsPorts_with_rsv (s : State) (u : RsvUnit) : KeepsPorts s { s with rsv := u } := .of_eq rfl rfl

theorem keepsPorts_publishTable (s : State) (w : Vector Aspect 32) : KeepsPorts s (s.publishTable w) :=
  (keepsPorts_with_rsv s _).record _

/-- A publication reaches the gates, the signs and the paths (R53). -/
theorem keepsPorts_passCompletion (s : State) : KeepsPorts s s.passCompletion := by
  unfold passCompletion
  split
  · exact .refl s
  dsimp only
  split
  · exact .of_frame (passIdle_frame s)
  · exact ((((KeepsPorts.of_frame (passIdle_frame s)).trans (keepsPorts_publishTable _ _)).trans
      (keepsPorts_publishToGates _)).step (publishToSigns_frame _)).trans (keepsPorts_testPaths _ _ _)

end State

end Sys2Proof.Machine
end

section
/-! ## The ports and the queue of commands under requests, starts and the step -/

set_option Elab.async false

namespace Sys2Proof.Machine

namespace State

theorem keepsPorts_answer (s : State) (a : Asker) (rc : ReplyCode) (d : List Byte) :
    KeepsPorts s (s.answer a rc d) := (KeepsPorts.refl s).answer a rc d

theorem keepsPorts_with_img (s : State) (m : ImgUnit) : KeepsPorts s { s with img := m } := .of_eq rfl rfl

/-! ### The clock, the starts and the rows (R166, R172 to R174) -/

theorem keepsPorts_clockTick (s : State) : KeepsPorts s s.clockTick := by
  have hset : KeepsPorts s (s.setClock (s.img.clock + 1)) := .of_frame (setClock_frame s _)
  unfold clockTick
  split
  · dsimp only
    split
    · exact hset.trans (keepsPorts_advanceOrders _ _)
    · exact hset
  · exact .refl s

theorem keepsPorts_jumpTo (s : State) (t : Nat) : KeepsPorts s (s.jumpTo t) := by
  have hset : KeepsPorts s (s.setClock t) := .of_frame (setClock_frame s t)
  unfold jumpTo
  dsimp only
  split
  · exact hset.trans (keepsPorts_advanceOrders _ t)
  split
  · exact hset.trans (keepsPorts_rewindOrders _ t)
  · exact hset

theorem keepsPorts_startGates (s : State) : KeepsPorts s s.startGates := by
  have hset : KeepsPorts s { s with gtc := Vector.ofFn (gateAtStart s) } := .of_eq rfl rfl
  refine hset.trans (.foldl (fun s g => ?_) _ _)
  split
  · exact keepsPorts_recordGate s g _ _
  · exact .refl s

theorem keepsPorts_startBlocks (s : State) : KeepsPorts s s.startBlocks := by
  rw [startBlocks_eq]
  exact (((KeepsPorts.of_frame (startUnits_frame s)).trans (keepsPorts_startOrders _)).step (startPaths_frame _)).trans
    (keepsPorts_startGates _)

/-- A start sets every port before RESTARTED is recorded (R166). -/
theorem startPorts_ok (s : State) (c : StartCause) : (s.startPorts c).portsOk := by
  intro p
  have hset : ({ s with prt := Vector.replicate 3 .atStart } : State).port p = .atStart := by simp [port]
  rw [startPorts, record_port, hset]
  exact PortUnit.push_ok PortUnit.atStart_ok _

/-- Whatever went before, after a start every port is in order. -/
theorem start_ok (s : State) (c : StartCause) : (s.start c).portsOk :=
  (keepsPorts_startBlocks _).ports (startPorts_ok _ c)

theorem keepsPorts_start (s : State) (c : StartCause) : KeepsPorts s (s.start c) :=
  ⟨(start_frame s c).pending, fun _ => start_ok s c⟩

theorem keepsPorts_powerUp (s : State) (kept : Bool) : KeepsPorts s (s.powerUp kept) :=
  (KeepsPorts.of_frame (afterBackup_frame s kept)).trans (keepsPorts_start _ _)

theorem keepsPorts_resetPin (s : State) : KeepsPorts s s.resetPin := by
  unfold resetPin
  split
  · exact keepsPorts_start s _
  · exact .refl s

theorem keepsPorts_imgAnswer (s : State) (q : ImgReq) (rc : ReplyCode) (d : List Byte) :
    KeepsPorts s (s.imgAnswer q rc d) := by
  unfold imgAnswer
  split
  · exact keepsPorts_answer s _ rc d
  · exact .refl s

theorem keepsPorts_takeWaiting (l : List ImgReq) (s : State) : KeepsPorts s (takeWaiting l s) := by
  induction l generalizing s with
  | nil => exact keepsPorts_with_img s _
  | cons q t ih =>
    unfold takeWaiting
    split
    · exact (keepsPorts_imgAnswer s q _ _).trans (ih _)
    split
    · exact (keepsPorts_imgAnswer s q _ _).trans (ih _)
    · exact keepsPorts_with_img s _

theorem keepsPorts_imgTake (s : State) (q : ImgReq) : KeepsPorts s (s.imgTake q) := by
  unfold imgTake
  split
  · exact keepsPorts_with_img s _
  · exact keepsPorts_takeWaiting _ s

theorem keepsPorts_rowWriteComplete (s : State) : KeepsPorts s s.rowWriteComplete := by
  unfold rowWriteComplete
  split
  · next q _ =>
    dsimp only
    have hanswered : KeepsPorts s ((s.storeRow q.row (q.data.getD [])).imgAnswer q .ok
        ((s.storeRow q.row (q.data.getD [])).img.rows.get q.row).checkFlag) :=
      (KeepsPorts.of_frame (storeRow_frame s _ _)).trans (keepsPorts_imgAnswer _ q _ _)
    split
    · refine hanswered.trans ?_
      unfold restartAfterWrite
      split
      · exact keepsPorts_with_img _ _
      · exact keepsPorts_start _ _
    · exact hanswered.trans (keepsPorts_takeWaiting _ _)
  · exact .refl s

/-! ### The owners of requests -/

/-- The owners that read answer from the state as it is (R161). -/
theorem serveOwner_read_answers (s : State) (r : Request) (a : Asker) (args : List Byte)
    (hr : r ∈ [.orderRead, .orderList, .aspectRead, .stationRead, .channelRead, .pathRead, .gateRead, .signRead,
      .timeRead, .portStatus]) : ∃ rc d, serveOwner r a args s = s.answer a rc d := by
  cases r with
  | orderList | timeRead | portStatus => exact ⟨_, _, rfl⟩
  | orderRead =>
    change ∃ rc d, orderRead a args s = _
    unfold orderRead
    split <;> exact ⟨_, _, rfl⟩
  | aspectRead =>
    change ∃ rc d, aspectRead a args s = _
    unfold aspectRead
    split <;> exact ⟨_, _, rfl⟩
  | channelRead =>
    change ∃ rc d, channelRead a args s = _
    unfold channelRead
    split <;> exact ⟨_, _, rfl⟩
  | stationRead =>
    change ∃ rc d, stationRead a args s = _
    unfold stationRead
    dsimp only
    (repeat' split) <;> exact ⟨_, _, rfl⟩
  | pathRead =>
    change ∃ rc d, pathRead a args s = _
    unfold pathRead
    dsimp only
    (repeat' split) <;> exact ⟨_, _, rfl⟩
  | gateRead =>
    change ∃ rc d, gateRead a args s = _
    unfold gateRead
    dsimp only
    (repeat' split) <;> exact ⟨_, _, rfl⟩
  | signRead =>
    change ∃ rc d, signRead a args s = _
    unfold signRead
    dsimp only
    (repeat' split) <;> exact ⟨_, _, rfl⟩
  | _ => simp at hr

theorem keepsPorts_postReply (s : State) (a : Asker) (mask : Nat) (b : Bool) (n : Nat) (st : OrderState) :
    KeepsPorts s (postReply a mask b n st s) := by
  unfold postReply
  split
  · exact keepsPorts_answer s a _ _
  · exact keepsPorts_answer s a _ _

theorem keepsPorts_orderPost (s : State) (a : Asker) (args : List Byte) : KeepsPorts s (orderPost a args s) := by
  unfold orderPost
  dsimp only
  split
  · split
    · exact (keepsPorts_renewOrder s _ _).trans (keepsPorts_postReply _ a _ _ _ _)
    split
    · exact keepsPorts_answer s a _ _
    · exact (keepsPorts_admitOrder s _).trans (keepsPorts_postReply _ a _ _ _ _)
  · exact keepsPorts_answer s a _ _
  · exact keepsPorts_answer s a _ _

theorem keepsPorts_liftLinked (s : State) (a : Asker) (o : Order) (k : Fin 12) :
    KeepsPorts s (liftLinked a o k s) := by
  unfold liftLinked
  dsimp only
  split
  · split
    · exact (keepsPorts_clearPath s k _).answer a _ _
    · exact keepsPorts_answer s a _ _
  split
  · split
    · exact (keepsPorts_endHold s k _).answer a _ _
    · exact keepsPorts_answer s a _ _
  · exact (keepsPorts_retire s _ _).answer a _ _

theorem keepsPorts_orderLift (s : State) (a : Asker) (args : List Byte) : KeepsPorts s (orderLift a args s) := by
  unfold orderLift
  split
  · exact keepsPorts_answer s a _ _
  split
  · exact keepsPorts_answer s a _ _
  split
  · exact ((keepsPorts_retire s _ _).step (suppressFor_frame _ _)).answer a _ _
  split
  · exact keepsPorts_answer s a _ _
  split
  · exact keepsPorts_liftLinked s a _ _
  · exact (keepsPorts_retire s _ _).answer a _ _

theorem keepsPorts_pathClear (s : State) (a : Asker) (args : List Byte) : KeepsPorts s (pathClear a args s) := by
  unfold pathClear
  split
  · exact keepsPorts_answer s a _ _
  split
  · exact keepsPorts_answer s a _ _
  split
  · exact keepsPorts_answer s a _ _
  split
  · exact (keepsPorts_clearPath s _ _).answer a _ _
  · exact keepsPorts_answer s a _ _
  · exact keepsPorts_answer s a _ _

theorem keepsPorts_pathEndHold (s : State) (a : Asker) (args : List Byte) : KeepsPorts s (pathEndHold a args s) := by
  unfold pathEndHold
  split
  · exact keepsPorts_answer s a _ _
  split
  · exact keepsPorts_answer s a _ _
  split
  · exact keepsPorts_answer s a _ _
  split
  · exact keepsPorts_answer s a _ _
  · exact (keepsPorts_endHold s _ _).answer a _ _

theorem keepsPorts_pathHold (s : State) (a : Asker) (args : List Byte) : KeepsPorts s (pathHold a args s) := by
  unfold pathHold
  split
  · exact keepsPorts_answer s a _ _
  split
  · exact keepsPorts_answer s a _ _
  split
  · exact keepsPorts_answer s a _ _
  split
  · exact keepsPorts_answer s a _ _
  · exact (((keepsPorts_admitOrder s _).step (setPath_frame _ _ _)).answer a _ _).trans (keepsPorts_testPath _ _ _)

theorem keepsPorts_gateReset (s : State) (a : Asker) (args : List Byte) : KeepsPorts s (gateReset a args s) := by
  unfold gateReset
  split
  · exact keepsPorts_answer s a _ _
  split
  · exact keepsPorts_answer s a _ _
  dsimp only
  split
  · exact keepsPorts_answer s a _ _
  · exact (keepsPorts_moveGate s _ _).answer a _ _

theorem keepsPorts_gateInhibit (s : State) (a : Asker) (args : List Byte) : KeepsPorts s (gateInhibit a args s) := by
  unfold gateInhibit
  split
  · exact keepsPorts_answer s a _ _
  split
  · exact keepsPorts_answer s a _ _
  dsimp only
  split
  · split
    · exact (keepsPorts_moveGate s _ _).answer a _ _
    · exact keepsPorts_answer s a _ _
  · split
    · exact keepsPorts_answer s a _ _
    split
    · exact keepsPorts_answer s a _ _
    · exact (keepsPorts_moveGate s _ _).answer a _ _
  · exact keepsPorts_answer s a _ _

theorem keepsPorts_signPageRead (s : State) (a : Asker) (args : List Byte) :
    KeepsPorts s (signPageRead a args s) := by
  unfold signPageRead
  dsimp only
  split
  · split
    · split
      · exact keepsPorts_answer s a _ _
      split
      · exact .of_frame (portAsks_frame s _ _)
      · exact keepsPorts_answer s a _ _
    · exact keepsPorts_answer s a _ _
  · exact keepsPorts_answer s a _ _

theorem keepsPorts_trimSet (s : State) (a : Asker) (args : List Byte) : KeepsPorts s (trimSet a args s) := by
  unfold trimSet
  split
  · exact (keepsPorts_with_mea s _).answer a _ _
  · exact keepsPorts_answer s a _ _
  · exact keepsPorts_answer s a _ _

theorem keepsPorts_restartRequest (s : State) : KeepsPorts s s.restartRequest := by
  unfold restartRequest
  split
  · exact keepsPorts_with_img s _
  · exact keepsPorts_start s _

theorem keepsPorts_serveOwner (s : State) (r : Request) (a : Asker) (args : List Byte) :
    KeepsPorts s (serveOwner r a args s) := by
  have read : ∀ r ∈ _, KeepsPorts s (serveOwner r a args s) := fun r hr => by
    obtain ⟨rc, d, hread⟩ := serveOwner_read_answers s r a args hr
    exact hread ▸ keepsPorts_answer s a rc d
  cases r with
  | orderPost => exact keepsPorts_orderPost s a args
  | orderLift => exact keepsPorts_orderLift s a args
  | trimSet => exact keepsPorts_trimSet s a args
  | pathHold => exact keepsPorts_pathHold s a args
  | pathEndHold => exact keepsPorts_pathEndHold s a args
  | pathClear => exact keepsPorts_pathClear s a args
  | gateInhibit => exact keepsPorts_gateInhibit s a args
  | gateReset => exact keepsPorts_gateReset s a args
  | signPageRead => exact keepsPorts_signPageRead s a args
  | timeSet => exact ((keepsPorts_jumpTo s _).step (clearTimeUnset_frame _)).answer a _ _
  | imageRead | imageWrite => exact keepsPorts_imgTake s _
  | restart => exact keepsPorts_restartRequest s
  | orderRead | orderList | aspectRead | stationRead | channelRead | pathRead | gateRead | signRead | timeRead
  | portStatus => exact read _ (by decide)

/-! ### Service (R161) -/

theorem keepsPorts_serve (s : State) (p : Port) (body : List Byte) : KeepsPorts s (s.serve p body) := by
  unfold serve
  dsimp only
  split
  · exact keepsPorts_answer s _ _ _
  split
  · exact keepsPorts_answer s _ _ _
  split
  · exact keepsPorts_answer s _ _ _
  · exact keepsPorts_serveOwner s _ _ _

/-- A port that has taken bytes or placed its reply is in order again once it has taken the next frame. -/
theorem keepsPorts_serveNext {s : State} {p : Port} {q : PortUnit} (h : portOk (s.port p) → q.Sound) :
    KeepsPorts s ((s.setPort p q).serveNext p) := by
  unfold serveNext
  rw [setPort_port]
  split
  · next body rest hready hpassed =>
    rw [setPort_setPort]
    exact (KeepsPorts.setPort fun hq => PortUnit.taken_ok (h hq) hready hpassed).trans (keepsPorts_serve _ p body)
  · next hnot =>
    refine .setPort fun hq => portOk_iff.mpr ⟨fun hr => ?_, h hq⟩
    cases hpassed : q.passed with
    | nil => rfl
    | cons body rest => exact absurd hpassed (hnot body rest hr)

theorem keepsPorts_receiveRequest (s : State) (r : Request) (p : Port) (tag : Byte) (args : List Byte) :
    KeepsPorts s (s.receiveRequest r p tag args) := by
  unfold receiveRequest
  split
  · exact keepsPorts_serveNext fun h => PortUnit.rxFrame_sound (portOk_iff.mp h).2 _
  · exact .refl s

theorem keepsPorts_receiveByte (s : State) (p : Port) (b : Byte) : KeepsPorts s (s.receiveByte p b) :=
  keepsPorts_serveNext fun h => PortUnit.rxByte_sound (portOk_iff.mp h).2 b

theorem keepsPorts_frameDiscard (s : State) (p : Port) (c : DiscardCause) : KeepsPorts s (s.frameDiscard p c) := by
  have hdiscard : KeepsPorts s (s.setPort p ((s.port p).discard c)) := .setPort fun h => PortUnit.discard_ok h c
  unfold frameDiscard
  split
  · exact .refl s
  cases c with
  | gap b => exact hdiscard.trans (keepsPorts_receiveByte _ p b)
  | overrun => exact hdiscard.trans (.setPort id)
  | check | length | character => exact hdiscard

theorem keepsPorts_replyPlace (s : State) (p : Port) : KeepsPorts s (s.replyPlace p) := by
  unfold replyPlace
  split
  · unfold replyPlaced
    split
    · exact ⟨(start_frame _ _).pending, fun _ => start_ok _ _⟩
    · exact keepsPorts_serveNext fun h => PortUnit.placeReply_sound (portOk_iff.mp h).2
  · exact .refl s

theorem keepsPorts_rxFifoOverrun (s : State) (p : Port) : KeepsPorts s (s.rxFifoOverrun p) := by
  unfold rxFifoOverrun
  split
  · exact .refl s
  · exact .setPort id

theorem keepsPorts_portBreak (s : State) (p : Port) : KeepsPorts s (s.portBreak p) := by
  unfold portBreak
  split
  · exact .refl s
  · have hreset : KeepsPorts s (s.resetPort p) :=
      ((KeepsPorts.of_frame (dropReplies_frame s p)).trans (.setPort fun _ => (s.port p).reset_ok)).record _
    refine hreset.trans ?_
    unfold restartFor
    split
    · exact keepsPorts_start _ _
    · exact .refl _

/-! ### The step -/

/-- A command that acts on a powered device alone. -/
theorem keepsPorts_whenPowered {s : State} {f : State → State} (h : KeepsPorts s (f s)) :
    KeepsPorts s (s.whenPowered f) := by
  unfold whenPowered
  split
  · exact h
  · exact .refl s

/-- Such a command that touches neither the ports nor the queue. -/
theorem keepsPorts_powered {l : List Field} {s : State} {f : State → State} (h : Frame l s (f s))
    (hp : l.contains .prt = false := by rfl) (hq : l.contains .pending = false := by rfl) :
    KeepsPorts s (s.whenPowered f) := keepsPorts_whenPowered (.of_frame h hp hq)

/-- Every command answers a next state, leaves the queue and keeps the ports in order. -/
theorem exec_keepsPorts (s : State) (c : Instr) : ∃ t, exec c s = .next t ∧ KeepsPorts s t := by
  cases c with
  | orderPost p tag args | orderLift p tag args | orderRead p tag args | orderList p tag args | aspectRead p tag args
  | stationRead p tag args | channelRead p tag args | trimSet p tag args | pathRead p tag args | pathHold p tag args
  | pathEndHold p tag args | pathClear p tag args | gateRead p tag args | gateInhibit p tag args
  | gateReset p tag args | signRead p tag args | signPageRead p tag args | timeSet p tag args | timeRead p tag args
  | imageRead p tag args | imageWrite p tag args | restart p tag args | portStatus p tag args =>
    exact ⟨_, rfl, keepsPorts_receiveRequest s _ p tag args⟩
  | frameDiscard p c => exact ⟨_, rfl, keepsPorts_whenPowered (keepsPorts_frameDiscard s p c)⟩
  | strayByte p b => exact ⟨_, rfl, keepsPorts_whenPowered (keepsPorts_receiveByte s p b)⟩
  | xoff p | xon p => exact ⟨_, rfl, keepsPorts_whenPowered (keepsPorts_receiveByte s p _)⟩
  | portBreak p => exact ⟨_, rfl, keepsPorts_whenPowered (keepsPorts_portBreak s p)⟩
  | replyPlace p => exact ⟨_, rfl, keepsPorts_whenPowered (keepsPorts_replyPlace s p)⟩
  | noticeSend p => exact ⟨_, rfl, keepsPorts_whenPowered (f := noticeSend p) (.setPort PortUnit.sendNotice_ok)⟩
  | portFrameSent p => exact ⟨_, rfl, keepsPorts_whenPowered (f := portFrameSent p) (.setPort id)⟩
  | rxFifoOverrun p => exact ⟨_, rfl, keepsPorts_whenPowered (keepsPorts_rxFifoOverrun s p)⟩
  | breakEnd p => exact ⟨_, rfl, keepsPorts_whenPowered (f := breakEnd p) (.setPort id)⟩
  | clockTick => exact ⟨_, rfl, keepsPorts_clockTick s⟩
  | passBegin => exact ⟨_, rfl, keepsPorts_powered (passBegin_frame s)⟩
  | passCompletion => exact ⟨_, rfl, keepsPorts_whenPowered (keepsPorts_passCompletion s)⟩
  | scanTimerExpiry => exact ⟨_, rfl, keepsPorts_powered (scanTimerExpiry_frame s)⟩
  | comparatorTrip n => exact ⟨_, rfl, keepsPorts_whenPowered (keepsPorts_conversionEnd s _ _)⟩
  | countOverflow => exact ⟨_, rfl, keepsPorts_whenPowered (keepsPorts_conversionEnd s _ _)⟩
  | improvementTimerExpiry k => exact ⟨_, rfl, keepsPorts_whenPowered (keepsPorts_improvementExpiry s k)⟩
  | anemometerEdge i n h => exact ⟨_, rfl, keepsPorts_powered (anemometerEdge_frame s i n.val h)⟩
  | anemometerCalm i => exact ⟨_, rfl, keepsPorts_powered (anemometerCalm_frame s i)⟩
  | windSample => exact ⟨_, rfl, keepsPorts_whenPowered (keepsPorts_windSample s)⟩
  | acceptedZone l z => exact ⟨_, rfl, keepsPorts_whenPowered (keepsPorts_acceptedZone s l z)⟩
  | confirmTimerExpiry k => exact ⟨_, rfl, keepsPorts_whenPowered (keepsPorts_confirmExpiry s k)⟩
  | loopSample v => exact ⟨_, rfl, keepsPorts_whenPowered (keepsPorts_loopSample s v)⟩
  | openLimitAccepted g v | closedLimitAccepted g v | obstructionAccepted g v =>
    exact ⟨_, rfl, keepsPorts_pinChange s g _ _ _ _⟩
  | signWaitExpiry g => exact ⟨_, rfl, keepsPorts_whenPowered (keepsPorts_signWaitExpiry s g)⟩
  | countdownEnd g | travelTimerExpiry g | retryDelayExpiry g | deadTimeEnd g | dutyPeriodEnd g =>
    exact ⟨_, rfl, keepsPorts_whenPowered (keepsPorts_onGate s g _)⟩
  | lanternFrameBoundary => exact ⟨_, rfl, keepsPorts_powered (lanternBoundary_frame s)⟩
  | composerTake => exact ⟨_, rfl, keepsPorts_powered (composerTake_frame s)⟩
  | compositionEnd => exact ⟨_, rfl, keepsPorts_powered (compositionEnd_frame s)⟩
  | pageMemoryAccessEnd => exact ⟨_, rfl, keepsPorts_whenPowered (keepsPorts_pageMemoryAccessEnd s)⟩
  | pollTimerExpiry i => exact ⟨_, rfl, keepsPorts_powered (pollTimerExpiry_frame s i)⟩
  | pageTransfer l => exact ⟨_, rfl, keepsPorts_whenPowered (keepsPorts_pageTransfer s l)⟩
  | lampTransfer l => exact ⟨_, rfl, keepsPorts_whenPowered (keepsPorts_lampTransfer s l)⟩
  | brightnessJob l => exact ⟨_, rfl, keepsPorts_powered (brightnessJob_frame s l)⟩
  | poll l => exact ⟨_, rfl, keepsPorts_powered (poll_frame s l)⟩
  | pageBlock l => exact ⟨_, rfl, keepsPorts_powered (pageBlock_frame s l)⟩
  | fieldFrameSent l => exact ⟨_, rfl, keepsPorts_powered (fieldFrameSent_frame s l)⟩
  | confirm l q => exact ⟨_, rfl, keepsPorts_whenPowered (keepsPorts_confirm s l q)⟩
  | status l q => exact ⟨_, rfl, keepsPorts_whenPowered (keepsPorts_status s l q)⟩
  | replyLimitExpiry l => exact ⟨_, rfl, keepsPorts_whenPowered (keepsPorts_replyLimitExpiry s l)⟩
  | invalidReply l c => exact ⟨_, rfl, keepsPorts_powered (invalidReply_frame s l c)⟩
  | strayCharacter l c => exact ⟨_, rfl, keepsPorts_powered (strayCharacter_frame s l c)⟩
  | rowWriteComplete => exact ⟨_, rfl, keepsPorts_whenPowered (keepsPorts_rowWriteComplete s)⟩
  | powerUp kept => exact ⟨_, rfl, keepsPorts_powerUp s kept⟩
  | resetPin => exact ⟨_, rfl, keepsPorts_resetPin s⟩
  | mainPowerLoss => exact ⟨_, rfl, .of_frame (mainPowerLoss_frame s)⟩

end State

/-- Settles O7: events, answers, bytes and placed replies keep each port in order, every other operation leaves the
ports, and a start sets them anew. -/
theorem portsKept : Obligations.PortsKept := by
  intro s t hs ht
  unfold step at ht
  split at ht
  · next c rest _ =>
    obtain ⟨u, hu, hk⟩ := State.exec_keepsPorts { s with pending := rest } c
    rw [hu] at ht
    cases ht
    exact hk.ports hs
  · cases ht
    have hidle : s.KeepsPorts s.idle := State.keepsPorts_powered (State.second_frame s)
    exact hidle.ports hs

/-- Settles O2: no command stops, and none of the operations that make up a command touches the queue. -/
theorem everyCommandAnswersAndKeepsQueue : Obligations.EveryCommandAnswersAndKeepsQueue := by
  intro c s
  obtain ⟨t, ht, hk⟩ := State.exec_keepsPorts s c
  exact ⟨t, ht, hk.queue⟩

/-- Settles O1: the command at the front is taken off the queue and run, by the definition of the step. -/
theorem stepRunsFrontCommand : Obligations.StepRunsFrontCommand := fun _ _ => rfl

end Sys2Proof.Machine
end

section
/-! ## A frame arrives byte by byte (R157, R158) -/

set_option Elab.async false

namespace Sys2Proof.Machine

theorem byteOf_toNat {n : Nat} (h : n < 256) : (byteOf n).toNat = n := Nat.mod_eq_of_lt h

namespace PortUnit
variable {q : PortUnit}

/-- The port with the bytes `g` gathered after a lead. -/
def gathering (g : List Byte) (q : PortUnit) : PortUnit := { q with rx := .inFrame g }

theorem rxFill_gathering (q : PortUnit) (g : List Byte) : (q.gathering g).rxFill = q.waitingFill + (g.length + 1) := rfl

/-- The overrun mark that a port does not have is not cleared. -/
theorem unmarked (ho : q.overrunNext = false) : { q with overrunNext := false } = q := by rw [← ho]

/-- A byte in HUNT, while the RX FIFO has room (R158, R159). -/
theorem rxByte_hunt (hs : q.spacing = false) (ho : q.overrunNext = false) (hx : q.rx = .hunt) (hroom : q.rxFill < 256)
    (b : Byte) : q.rxByte b = q.huntByte b false := by
  unfold rxByte
  rw [if_neg (ne_true_of_eq_false hs), if_neg (Nat.not_le_of_lt hroom)]
  dsimp only
  rw [unmarked ho]
  simp only [hx, ho]

theorem huntByte_lead (q : PortUnit) : q.huntByte masterLead false = q.gathering [] := rfl

/-- A byte in IN_FRAME, while the RX FIFO has room (R158). -/
theorem rxByte_inFrame {g : List Byte} (hs : q.spacing = false) (ho : q.overrunNext = false) (hx : q.rx = .inFrame g)
    (hroom : q.rxFill < 256) (b : Byte) : q.rxByte b = q.frameBytes (g ++ [b]) := by
  unfold rxByte
  rw [if_neg (ne_true_of_eq_false hs), if_neg (Nat.not_le_of_lt hroom)]
  dsimp only
  rw [unmarked ho]
  simp only [hx, ho, Bool.false_eq_true, if_false]

theorem rxByte_gathering (hs : q.spacing = false) (ho : q.overrunNext = false) {g : List Byte}
    (hroom : q.waitingFill + (g.length + 1) < 256) (b : Byte) :
    (q.gathering g).rxByte b = (q.gathering g).frameBytes (g ++ [b]) :=
  rxByte_inFrame (q := q.gathering g) hs ho rfl (q.rxFill_gathering g ▸ hroom) b

section Frame
variable {len : Byte} (hlow : 2 ≤ len.toNat) (hhigh : len.toNat ≤ 240)
include hlow hhigh

/-- Bytes of the frame are still missing (R158). -/
theorem frameBytes_missing {rest : List Byte} (h : rest.length < len.toNat + 2) :
    q.frameBytes (len :: rest) = q.gathering (len :: rest) := by
  unfold frameBytes
  dsimp only
  rw [if_neg (by omega), if_pos h]
  rfl

/-- The frame is whole, and its check decides (R158). -/
theorem frameBytes_whole {body check : List Byte} (hbody : body.length = len.toNat) (hcheck : check.length = 2) :
    q.frameBytes (len :: (body ++ check)) =
      if put16 (crc16 (len :: body)).toNat = check then { q with rx := .hunt, passed := q.passed ++ [body] }
      else q.discard .check := by
  unfold frameBytes
  dsimp only
  rw [if_neg (by omega), if_neg (by rw [List.length_append]; omega), List.take_left' hbody, List.drop_left' hbody]

/-- The bytes of a frame up to one before its last are gathered. -/
theorem rxBytes_missing (hs : q.spacing = false) (ho : q.overrunNext = false)
    (hroom : q.waitingFill + len.toNat + 4 ≤ 256) (rest : List Byte) (h : rest.length < len.toNat + 2) :
    (q.gathering []).rxBytes (len :: rest) = q.gathering (len :: rest) := by
  induction rest using List.reverseRecOn with
  | nil =>
    have hroom' : q.waitingFill + (([] : List Byte).length + 1) < 256 := by rw [List.length_nil]; omega
    exact (rxByte_gathering hs ho hroom' len).trans (frameBytes_missing hlow hhigh h)
  | append_singleton rest b ih =>
    have hshort : rest.length + 1 < len.toNat + 2 := by simpa using h
    have hroom' : q.waitingFill + ((len :: rest).length + 1) < 256 := by rw [List.length_cons]; omega
    have hlast : (q.gathering []).rxBytes (len :: (rest ++ [b])) =
        ((q.gathering []).rxBytes (len :: rest)).rxByte b := by
      rw [← List.cons_append]
      exact List.foldl_concat ..
    rw [hlast, ih (by omega), rxByte_gathering hs ho hroom' b]
    exact frameBytes_missing hlow hhigh h

end Frame

/-- A lead, LEN, a body and two more bytes arrive at a port with room for them: the two bytes decide (R158). -/
theorem rxBytes_frame {body : List Byte} (hc : q.clearFor body = true) (hi lo : Byte) :
    q.rxBytes (masterLead :: (lenBody body ++ [hi, lo])) =
      if put16 (crc16 (lenBody body)).toNat = [hi, lo] then { q with passed := q.passed ++ [body] }
      else q.discard .check := by
  obtain ⟨hx, ho, hs, hroom, hlow, hhigh⟩ := clearFor_iff.mp hc
  have hwait : q.waitingFill + body.length + 4 ≤ 256 := rxFill_hunt hx ▸ hroom
  have hlen : (byteOf body.length).toNat = body.length := byteOf_toNat (by omega)
  have hlead : q.rxByte masterLead = q.gathering [] :=
    (rxByte_hunt hs ho hx (by omega) masterLead).trans q.huntByte_lead
  have hgathered : (q.gathering []).rxBytes (byteOf body.length :: (body ++ [hi])) =
      q.gathering (byteOf body.length :: (body ++ [hi])) :=
    rxBytes_missing (by omega) (by omega) hs ho (by omega) _ (by rw [List.length_append, List.length_singleton]; omega)
  have hroom' : q.waitingFill + ((byteOf body.length :: (body ++ [hi])).length + 1) < 256 := by
    rw [List.length_cons, List.length_append, List.length_singleton]
    omega
  calc q.rxBytes (masterLead :: (lenBody body ++ [hi, lo]))
      = (q.rxByte masterLead).rxBytes ((byteOf body.length :: (body ++ [hi])) ++ [lo]) := by
        simp [rxBytes, lenBody]
    _ = ((q.gathering []).rxBytes (byteOf body.length :: (body ++ [hi]))).rxByte lo := by
        rw [hlead]
        exact List.foldl_concat ..
    _ = (q.gathering (byteOf body.length :: (body ++ [hi]))).frameBytes (byteOf body.length :: (body ++ [hi, lo])) := by
        rw [hgathered, rxByte_gathering hs ho hroom' lo]
        simp
    _ = _ := by
        rw [frameBytes_whole (by omega) (by omega) hlen.symm rfl]
        congr 1
        rw [← hx]
        rfl

end PortUnit

/-- Settles O11: the check of the frame is the one that its two last bytes are tested against. -/
theorem decoderPassesEveryFrame : Obligations.DecoderPassesEveryFrame := by
  intro q body hc
  have hcheck : put16 (crc16 (lenBody body)).toNat =
      [byteOf ((crc16 (lenBody body)).toNat / 256), byteOf (crc16 (lenBody body)).toNat] := rfl
  rw [masterFrame, hcheck, PortUnit.rxBytes_frame hc, if_pos hcheck]

/-- Settles O12: two other bytes fail the test, and the port hunts as before. -/
theorem decoderDiscardsBadCheck : Obligations.DecoderDiscardsBadCheck := by
  intro q body hi lo hc hne
  have hx := (PortUnit.clearFor_iff.mp hc).1
  rw [PortUnit.rxBytes_frame hc, if_neg (Ne.symm hne)]
  change { q with rx := .hunt, counters := _ } = _
  rw [← hx]
  rfl

end Sys2Proof.Machine
end

section
/-! ## Answers, events and discarded frames (R158, R161, R163) -/

set_option Elab.async false

namespace Sys2Proof.Machine

theorem PortUnit.push_room {q : PortUnit} (h : q.notices.length < 32) (n : Notice) :
    q.push n = { q with notices := q.notices ++ [n] } := if_pos h

theorem PortUnit.push_full {q : PortUnit} (h : q.notices.length = 32) (n : Notice) :
    q.push n = { q with notices := q.notices.tail ++ [n], lost := satAdd 255 q.lost 1 } := if_neg (by omega)

/-- Settles O14: an event is a push on each port, which has room or discards its oldest notice. -/
theorem answersAndEvents : Obligations.AnswersAndEvents := by
  refine ⟨fun a rc data s => rfl, fun e s => ⟨rfl, fun p => ⟨fun h => ?_, fun h => ?_⟩⟩⟩
  · rw [State.record_port, PortUnit.push_room h]
  · rw [State.record_port, PortUnit.push_full h]
    rfl

namespace State
variable {s : State} {p : Port}

/-- A port at which no frame waits takes none. -/
theorem serveNext_none (h : (s.port p).passed = []) : s.serveNext p = s := by
  unfold serveNext
  split
  · next hcons => exact nomatch h.symm.trans hcons
  · rfl

/-- A port that is busy takes none. -/
theorem serveNext_busy (h : (s.port p).service ≠ .ready) : s.serveNext p = s := by
  unfold serveNext
  split
  · next hready _ => exact absurd hready h
  · rfl

theorem serveNext_takes {body : List Byte} {rest : List (List Byte)} (hr : (s.port p).service = .ready)
    (h : (s.port p).passed = body :: rest) :
    s.serveNext p = (s.setPort p { s.port p with passed := rest, service := .serving }).serve p body := by
  unfold serveNext
  rw [hr, h]

/-- A byte that completes no frame, at a port that is busy or without a frame, is judged and nothing is served. -/
theorem receiveByte_judged {b : Byte} {q : PortUnit} (hq : (s.port p).rxByte b = q)
    (h : q.service ≠ .ready ∨ q.passed = []) : s.receiveByte p b = s.setPort p q := by
  rw [receiveByte, hq]
  rcases h with hbusy | hnone
  · exact serveNext_busy (by rwa [setPort_port])
  · exact serveNext_none (by rwa [setPort_port])

theorem setPort_receiveByte {b : Byte} {q r : PortUnit} (hr : q.rxByte b = r)
    (h : r.service ≠ .ready ∨ r.passed = []) : (s.setPort p q).receiveByte p b = s.setPort p r := by
  rw [receiveByte_judged (q := r) (by rw [setPort_port]; exact hr) h, setPort_setPort]

theorem frameDiscard_marking (h : (s.port p).spacing = false) (c : DiscardCause) :
    s.frameDiscard p c = match c with
      | .gap b => (s.setPort p ((s.port p).discard c)).receiveByte p b
      | .overrun => s.setPort p { (s.port p).discard c with overrunNext := false }
      | .check | .length | .character => s.setPort p ((s.port p).discard c) := by
  unfold frameDiscard
  rw [if_neg (ne_true_of_eq_false h)]
  cases c with
  | overrun =>
    dsimp only
    rw [setPort_port, setPort_setPort]
  | gap | check | length | character => rfl

end State

/-- Settles O16: each cause has its counter, and the byte that ended a gap is judged by a port that hunts. -/
theorem discardCountsItsCause : Obligations.DiscardCountsItsCause := by
  intro p s hp hs hn
  have run : ∀ c, exec (.frameDiscard p c) s = .next (s.frameDiscard p c) := fun c =>
    exec_powered hp (i := .frameDiscard p c) rfl
  refine ⟨fun c hc => ?_, ?_, fun ho => ?_, fun c => ?_⟩
  · rw [run, State.frameDiscard_marking hs]
    rcases hc with rfl | rfl | rfl <;> rfl
  · rw [run, State.frameDiscard_marking hs]
  · rw [run, State.frameDiscard_marking hs]
    have hfill : ((s.port p).discard (.gap masterLead)).rxFill < 256 := by
      rw [PortUnit.rxFill_hunt rfl]
      change ((s.port p).passed.map _).sum < 256
      rw [hn]
      decide
    have hjudged : ((s.port p).discard (.gap masterLead)).rxByte masterLead =
        ((s.port p).discard (.gap masterLead)).gathering [] :=
      (PortUnit.rxByte_hunt (q := (s.port p).discard (.gap masterLead)) hs ho rfl hfill _).trans
        (PortUnit.huntByte_lead _)
    exact congrArg _ (State.setPort_receiveByte hjudged (.inr hn))
  · cases c with
    | gap | check | length | character | overrun => rfl

end Sys2Proof.Machine
end

section
/-! ## Bytes between frames and inside them (R158, R159) -/

set_option Elab.async false

namespace Sys2Proof.Machine

theorem PortUnit.huntByte_xoff (q : PortUnit) : q.huntByte xoffByte false = { q with xoff := true } := rfl

theorem PortUnit.huntByte_xon (q : PortUnit) : q.huntByte xonByte false = { q with xoff := false } := rfl

theorem PortUnit.huntByte_stray (q : PortUnit) {b : Byte} (h1 : b ≠ masterLead) (h2 : b ≠ xoffByte) (h3 : b ≠ xonByte) :
    q.huntByte b false = { q with counters := { q.counters with stray := cnt q.counters.stray 1 } } := by
  rw [huntByte, if_neg h1, if_neg h2, if_neg h3]

/-- Settles O15: each byte is judged by the port alone, and none of these completes a frame. -/
theorem bytesBetweenFrames : Obligations.BytesBetweenFrames := by
  refine ⟨fun p s hp hx ho hs hroom hbusy => ?_, fun p s len rest hp hs ho hn hx hlow hhigh hmiss => ?_⟩
  · have judged : ∀ b, (s.port p).rxByte b = (s.port p).huntByte b false := PortUnit.rxByte_hunt hs ho hx hroom
    refine ⟨?_, ?_, fun b h1 h2 h3 => ?_, ?_⟩
    · rw [exec_powered hp (i := .xoff p) rfl,
        State.receiveByte_judged ((judged _).trans (PortUnit.huntByte_xoff _)) hbusy]
    · rw [exec_powered hp (i := .xon p) rfl,
        State.receiveByte_judged ((judged _).trans (PortUnit.huntByte_xon _)) hbusy]
    · rw [exec_powered hp (i := .strayByte p b) rfl,
        State.receiveByte_judged ((judged b).trans (PortUnit.huntByte_stray _ h1 h2 h3)) hbusy]
      rfl
    · rw [exec_powered hp (i := .strayByte p masterLead) rfl,
        State.receiveByte_judged ((judged _).trans (PortUnit.huntByte_lead _)) hbusy]
      rfl
  · have hroom : (s.port p).rxFill < 256 := by
      rw [PortUnit.rxFill_inFrame hx, PortUnit.waitingFill, hn, List.length_cons, List.map_nil, List.sum_nil]
      omega
    have gathered : ∀ b, s.receiveByte p b = s.setPort p ((s.port p).gathering (len :: (rest ++ [b]))) := fun b => by
      have hshort : (rest ++ [b]).length < len.toNat + 2 := by simpa using hmiss
      exact State.receiveByte_judged ((PortUnit.rxByte_inFrame hs ho hx hroom b).trans
        (PortUnit.frameBytes_missing hlow hhigh hshort)) (.inr hn)
    exact ⟨(exec_powered hp (i := .xoff p) rfl).trans (congrArg _ (gathered _)),
      (exec_powered hp (i := .xon p) rfl).trans (congrArg _ (gathered _))⟩

end Sys2Proof.Machine
end

section
/-! ## The tests of a request, and a busy port (R161) -/

set_option Elab.async false

namespace Sys2Proof.Machine

namespace State

/-- The body of a request is served by the tests of its own code (R161). -/
theorem serving_serve_body (s : State) (r : Request) (p : Port) (tag : Byte) (args : List Byte) :
    (s.serving p).serve p (r.body tag args) =
      if s.img.permits p r.code = false then s.answer ⟨p, r.code, tag⟩ .notPermitted []
      else if args.length ≠ r.argBytes then s.answer ⟨p, r.code, tag⟩ .badRequest []
      else serveOwner r ⟨p, r.code, tag⟩ args (s.serving p) := by
  have hlen : (r.body tag args).length ≠ 2 + r.argBytes ↔ args.length ≠ r.argBytes := by
    rw [Request.body_length]
    omega
  rw [serve, byteOf_code_get, Request.ofCode_code]
  simp only [hlen, Bool.not_eq_true']
  rw [← answer_serving p r.code tag .notPermitted, ← answer_serving p r.code tag .badRequest]
  rfl

end State

section
variable {s : State} {r : Request} {p : Port} {tag : Byte} {args : List Byte}

/-- A request that arrives at a listening port is tested at once. -/
theorem exec_listening (h : s.listening p) (hl : args.length ≤ 238) :
    exec (r.command p tag args) s = .next ((s.serving p).serve p (r.body tag args)) := by
  have hlen := r.body_length tag args
  rw [exec_command, State.receiveRequest, if_pos h.1, State.receiveFrame_listening h (by omega)]

theorem exec_notPermitted (h : s.listening p) (hl : args.length ≤ 238) (hp : s.img.permits p r.code = false) :
    exec (r.command p tag args) s = .next (s.answer ⟨p, r.code, tag⟩ .notPermitted []) := by
  rw [exec_listening h hl, State.serving_serve_body, if_pos hp]

theorem exec_badLength (h : s.listening p) (hl : args.length ≤ 238) (hp : s.img.permits p r.code = true)
    (hn : args.length ≠ r.argBytes) :
    exec (r.command p tag args) s = .next (s.answer ⟨p, r.code, tag⟩ .badRequest []) := by
  rw [exec_listening h hl, State.serving_serve_body, if_neg (by rw [hp]; nofun), if_pos hn]

/-- A frame that a port with room for it is too busy to take waits (R157, R161). -/
theorem exec_waits (hp : s.powered = true) (hb : (s.port p).service ≠ .ready)
    (hc : (s.port p).clearFor (r.body tag args) = true) :
    exec (r.command p tag args) s =
      .next (s.setPort p { s.port p with passed := (s.port p).passed ++ [r.body tag args] }) := by
  rw [exec_command, State.receiveRequest, if_pos hp, State.receiveFrame, PortUnit.rxFrame, if_pos hc,
    State.serveNext_busy (by rwa [State.setPort_port])]

end

/-- Settles O13: the tests in the order of `State.serving_serve_body`, a code that is no request before them, and a busy
port. -/
theorem requestTestsInOrder : Obligations.RequestTestsInOrder := by
  refine ⟨fun r p tag args s hl hle => ⟨exec_notPermitted hl hle, exec_badLength hl hle⟩,
    fun p code tag args s h => ?_, fun r p tag args s hp hbusy hx ho hs hle hroom => ?_⟩
  · have hcode : Request.ofCode (get8 (code :: tag :: args) 0) = none := h
    rw [State.serve, hcode]
    rfl
  · have hlen := r.body_length tag args
    refine exec_waits hp ?_ (PortUnit.clearFor_iff.mpr ⟨hx, ho, hs, by omega, by omega, by omega⟩)
    rcases hbusy with h | h <;> rw [h] <;> nofun

/-- PORT_STATUS does not see the service phase of the port that asks (R165). -/
theorem portStatus_serving (p : Port) (code : Nat) (tag : Byte) (s : State) :
    portStatus ⟨p, code, tag⟩ (s.serving p) = portStatus ⟨p, code, tag⟩ s := by
  have hport : (s.serving p).port p = { s.port p with service := .serving } := State.setPort_port ..
  unfold portStatus
  dsimp only
  rw [State.answer_serving, hport]
  rfl

/-- Settles O19: the port that asks hunts and its RX FIFO holds nothing, and the other items are those of the state
before. -/
theorem portStatusReplies : Obligations.PortStatusReplies := by
  intro p tag s ht
  obtain ⟨-, -, hn, hx, -⟩ := ht.1
  have hphase : (s.port p).rx.num = 0 := by rw [hx]; rfl
  have hfill : (s.port p).rxFill = 0 := by
    rw [PortUnit.rxFill_hunt hx, PortUnit.waitingFill, hn]
    rfl
  have hrun : exec (.portStatus p tag []) s = .next (portStatus ⟨p, 0x17, tag⟩ s) :=
    (exec_taken ht tag).trans (congrArg _ (portStatus_serving p 0x17 tag s))
  rw [hrun, portStatus]
  dsimp only
  rw [hphase, hfill]

end Sys2Proof.Machine
end

section
/-! ## Replies are placed, notices sent and characters lost (R157, R161, R163, R174) -/

set_option Elab.async false

namespace Sys2Proof.Machine

namespace PortUnit
variable {q : PortUnit}

theorem placeReply_room {body : List Byte} (hs : q.service = .replyWait) (hr : q.reply = some body)
    (h : q.txFill + (masterFrame body).length ≤ 256) :
    q.placeReply = { q with tx := q.tx ++ [masterFrame body], reply := none, service := .ready } := by
  rw [placeReply, hs, hr]
  exact if_pos h

theorem placeReply_noRoom {body : List Byte} (hs : q.service = .replyWait) (hr : q.reply = some body)
    (h : 256 < q.txFill + (masterFrame body).length) : q.placeReply = q := by
  rw [placeReply, hs, hr]
  exact if_neg (Nat.not_le_of_lt h)

theorem sendNotice_sends {n : Notice} {t : List Notice} (htx : q.tx = []) (hx : q.xoff = false)
    (hn : q.notices = n :: t) :
    q.sendNotice = { q with tx := [masterFrame (n.body q.lost)], notices := t, lost := 0 } := by
  rw [sendNotice, htx, hx, hn]

theorem sendNotice_waits (h : q.tx ≠ [] ∨ q.xoff = true ∨ q.notices = []) : q.sendNotice = q := by
  unfold sendNotice
  split
  · next htx hx hn => simp [htx, hx, hn] at h
  · rfl

theorem frameSent_cons {f : List Byte} {t : List (List Byte)} (h : q.tx = f :: t) :
    q.frameSent = { q with tx := t } := by
  rw [frameSent, h]
  rfl

end PortUnit

namespace State
variable {s : State} {p : Port}

theorem replyPlace_waits (h : (s.port p).placeReply = s.port p) (hs : (s.port p).service = .replyWait) :
    s.replyPlace p = s := by
  rw [replyPlace, h, hs]
  exact if_neg fun hw => nomatch hw.2

theorem replyPlace_none (h : (s.port p).service ≠ .replyWait) : s.replyPlace p = s := if_neg fun hw => h hw.1

theorem replyPlace_places {body : List Byte} (hs : (s.port p).service = .replyWait)
    (hr : (s.port p).reply = some body) (h : (s.port p).txFill + (masterFrame body).length ≤ 256) :
    s.replyPlace p = (s.setPort p { s.port p with
      tx := (s.port p).tx ++ [masterFrame body], reply := none, service := .ready }).replyPlaced p := by
  rw [replyPlace, PortUnit.placeReply_room hs hr h]
  exact if_pos ⟨hs, rfl⟩

/-- A RESTART that waits for the reply begins, and else the port takes its next frame (R161, R174). -/
theorem replyPlaced_eq (s : State) (p : Port) (q : PortUnit) :
    (s.setPort p q).replyPlaced p =
      if s.img.replyTo = some p then (s.setPort p q).start .request else (s.setPort p q).serveNext p := rfl

end State

/-- Settles O18: a reply is placed or waits, and with a placed reply the port takes its next frame or a RESTART begins;
the notice, the sent frame and the lost character change their port alone. -/
theorem framesLeaveThePort : Obligations.FramesLeaveThePort := by
  refine ⟨fun p body s hp hs hr => ⟨fun hfull => ?_, fun hroom => ?_⟩, fun p s hp hs => ?_,
    fun p s hp => ⟨fun n t htx hx hn => ?_, fun h => ?_, fun f t htx => ?_, fun hs => ?_⟩⟩
  · rw [exec_powered hp (i := .replyPlace p) rfl, State.replyPlace_waits (PortUnit.placeReply_noRoom hs hr hfull) hs]
  · have hplaced := (exec_powered hp (i := .replyPlace p) rfl).trans
      (congrArg _ (State.replyPlace_places hs hr hroom))
    refine ⟨fun hto hn => ?_, fun b rest hto hn => ?_, fun hto => ?_⟩
    · rw [hplaced, State.replyPlaced_eq, if_neg hto, State.serveNext_none (by rwa [State.setPort_port])]
    · rw [hplaced, State.replyPlaced_eq, if_neg hto,
        State.serveNext_takes (by rw [State.setPort_port]) (by rw [State.setPort_port]; exact hn),
        State.setPort_port, State.setPort_setPort]
    · rw [hplaced, State.replyPlaced_eq, if_pos hto]
  · rw [exec_powered hp (i := .replyPlace p) rfl, State.replyPlace_none hs]
  · rw [exec_powered hp (i := .noticeSend p) rfl, State.noticeSend, PortUnit.sendNotice_sends htx hx hn]
    rfl
  · rw [exec_powered hp (i := .noticeSend p) rfl, State.noticeSend, PortUnit.sendNotice_waits h, State.setPort_self]
  · rw [exec_powered hp (i := .portFrameSent p) rfl, State.portFrameSent, PortUnit.frameSent_cons htx]
  · rw [exec_powered hp (i := .rxFifoOverrun p) rfl, State.rxFifoOverrun, if_neg (ne_true_of_eq_false hs)]
    rfl

end Sys2Proof.Machine
end

section
/-! ## Rows are read and written (R172, R174) -/

set_option Elab.async false

namespace Sys2Proof.Machine

namespace State
variable {s : State} {q : ImgReq}

/-! ### Replies of IMG -/

theorem imgAnswer_port {p : Port} (h : q.port = some p) (rc : ReplyCode) (d : List Byte) :
    s.imgAnswer q rc d = s.answer ⟨p, if q.data.isSome then 0x15 else 0x14, q.tag⟩ rc d := by
  rw [imgAnswer, h]
  rfl

/-- A break has discarded the reply (R160). -/
theorem imgAnswer_none (h : q.port = none) (rc : ReplyCode) (d : List Byte) : s.imgAnswer q rc d = s := by
  rw [imgAnswer, h]

theorem imgAnswer_img (rc : ReplyCode) (d : List Byte) : (s.imgAnswer q rc d).img = s.img :=
  (imgAnswer_frame s q rc d).img

/-! ### The waiting requests -/

theorem without_waiting (h : s.img.waiting = []) : { s with img := { s.img with waiting := [] } } = s := by
  rw [← h]

theorem takeWaiting_nil (h : s.img.waiting = []) : takeWaiting [] s = s := without_waiting h

/-- A write is put in flight, and the requests behind it wait. -/
theorem takeWaiting_write {t : List ImgReq} (hr : q.row ≤ 1023) (hd : q.data.isSome = true) :
    takeWaiting (q :: t) s = { s with img := { s.img with writing := some q, waiting := t } } := by
  obtain ⟨d, hd⟩ := Option.isSome_iff_exists.1 hd
  rw [takeWaiting, if_neg (Nat.not_lt.2 hr), hd]

section Answered
variable {p : Port} (hp : q.port = some p)
include hp

/-- A read that no request waits behind is answered. -/
theorem takeWaiting_read (hr : q.row ≤ 1023) (hd : q.data = none) :
    takeWaiting [q] s = ({ s with img := { s.img with waiting := [] } } : State).answer ⟨p, 0x14, q.tag⟩ .ok
      ((s.img.rows.get q.row).data ++ putFlag (s.img.rows.get q.row).passes ++ putFlag (s.img.differs q.row)) := by
  rw [takeWaiting, if_neg (Nat.not_lt.2 hr), hd]
  dsimp only
  rw [imgAnswer_port hp, hd]
  rfl

/-- A row above 1023 is refused (R172). -/
theorem takeWaiting_badRange (hr : 1023 < q.row) :
    takeWaiting [q] s = ({ s with img := { s.img with waiting := [] } } : State).answer
      ⟨p, if q.data.isSome then 0x15 else 0x14, q.tag⟩ .badRange [] := by
  rw [takeWaiting, if_pos hr, imgAnswer_port hp]
  rfl

end Answered

/-! ### Taking a request -/

theorem busy_eq_true {m : ImgUnit} (h : m.writing.isSome = true ∨ m.replyTo.isSome = true) : m.busy = true :=
  Bool.or_eq_true_iff.2 h

theorem busy_eq_false {m : ImgUnit} (hw : m.writing = none) (hr : m.replyTo = none) : m.busy = false := by
  rw [ImgUnit.busy, hw, hr]
  rfl

theorem imgTake_busy (h : s.img.busy = true) :
    s.imgTake q = { s with img := { s.img with waiting := s.img.waiting ++ [q] } } := if_pos h

theorem imgTake_idle (h : s.img.busy = false) : s.imgTake q = takeWaiting [q] s := if_neg (ne_true_of_eq_false h)

/-! ### The completion of a row write -/

/-- The stored image after a row write, with the row written since the last start (R172). -/
theorem storeRow_eq (s : State) (r : Nat) (d : List Byte) : s.storeRow r d = { s with img := { s.img with
    rows := s.img.rows.set r ⟨d, crc16 d⟩, writing := none
    written := if r ∈ s.img.written then s.img.written else s.img.written ++ [r] } } := by
  simp only [storeRow, Row.of, List.contains_iff_mem]

theorem rowWriteComplete_none (h : s.img.writing = none) : s.rowWriteComplete = s := by
  rw [rowWriteComplete, h]

section Complete
variable {u v : State} {d : List Byte} (hw : s.img.writing = some q) (hd : q.data = some d)
  (hu : s.storeRow q.row d = u) (hv : u.imgAnswer q .ok (u.img.rows.get q.row).checkFlag = v)
include hw hd hu hv

/-- The row is stored and the reply is formed before anything else is taken. -/
theorem rowWriteComplete_eq :
    s.rowWriteComplete = if s.img.restarting then v.restartAfterWrite q else takeWaiting s.img.waiting v := by
  have himg : v.img = u.img := by rw [← hv, imgAnswer_img]
  have hrest : v.img.restarting = s.img.restarting := by rw [himg, ← hu]; rfl
  have hwait : v.img.waiting = s.img.waiting := by rw [himg, ← hu]; rfl
  rw [rowWriteComplete, hw]
  dsimp only
  rw [hd, Option.getD_some, hu, hv, hrest, hwait]

theorem rowWriteComplete_takes (h : s.img.restarting = false) :
    s.rowWriteComplete = takeWaiting s.img.waiting v := by
  rw [rowWriteComplete_eq hw hd hu hv, if_neg (ne_true_of_eq_false h)]

theorem rowWriteComplete_restarts (h : s.img.restarting = true) :
    s.rowWriteComplete = v.restartAfterWrite q := by
  rw [rowWriteComplete_eq hw hd hu hv, if_pos h]

end Complete

theorem restartAfterWrite_owed {p : Port} (h : q.port = some p) :
    s.restartAfterWrite q = { s with img := { s.img with replyTo := some p } } := by
  rw [restartAfterWrite, h]

theorem restartAfterWrite_free (h : q.port = none) : s.restartAfterWrite q = s.start .request := by
  rw [restartAfterWrite, h]

end State

/-! ### The commands -/

section Commands
variable {s : State} {p : Port} {tag : Byte} {args : List Byte}

theorem exec_imageRead (h : s.takes p .imageRead args) : exec (.imageRead p tag args) s =
    .next ((s.serving p).imgTake ⟨some p, tag, get16 args 0, none⟩) := exec_taken h tag

theorem exec_imageWrite (h : s.takes p .imageWrite args) : exec (.imageWrite p tag args) s =
    .next ((s.serving p).imgTake ⟨some p, tag, get16 args 0, some (args.drop 2)⟩) := exec_taken h tag

section Idle
variable (hw : s.img.writing = none) (hr : s.img.replyTo = none) (hq : s.img.waiting = [])
include hw hr hq

theorem imageRead_replies (h : s.takes p .imageRead args) (hn : get16 args 0 ≤ 1023) :
    exec (.imageRead p tag args) s = .next (s.answer ⟨p, 0x14, tag⟩ .ok
      ((s.img.rows.get (get16 args 0)).data ++ putFlag (s.img.rows.get (get16 args 0)).passes ++
        putFlag (s.img.differs (get16 args 0)))) := by
  have hidle : (s.serving p).img.busy = false := State.busy_eq_false hw hr
  have hnone : (s.serving p).img.waiting = [] := hq
  rw [exec_imageRead h, State.imgTake_idle hidle, State.takeWaiting_read rfl hn rfl, State.without_waiting hnone,
    State.answer_serving]
  rfl

theorem imageRead_badRange (h : s.takes p .imageRead args) (hn : 1023 < get16 args 0) :
    exec (.imageRead p tag args) s = .next (s.answer ⟨p, 0x14, tag⟩ .badRange []) := by
  have hidle : (s.serving p).img.busy = false := State.busy_eq_false hw hr
  have hnone : (s.serving p).img.waiting = [] := hq
  rw [exec_imageRead h, State.imgTake_idle hidle, State.takeWaiting_badRange rfl hn, State.without_waiting hnone,
    State.answer_serving]
  rfl

theorem imageWrite_begins (h : s.takes p .imageWrite args) (hn : get16 args 0 ≤ 1023) :
    exec (.imageWrite p tag args) s = .next ({ (s.serving p) with
      img := { s.img with writing := some ⟨some p, tag, get16 args 0, some (args.drop 2)⟩ } } : State) := by
  have hidle : (s.serving p).img.busy = false := State.busy_eq_false hw hr
  rw [exec_imageWrite h, State.imgTake_idle hidle, State.takeWaiting_write hn rfl, ← hq]
  rfl

theorem imageWrite_badRange (h : s.takes p .imageWrite args) (hn : 1023 < get16 args 0) :
    exec (.imageWrite p tag args) s = .next (s.answer ⟨p, 0x15, tag⟩ .badRange []) := by
  have hidle : (s.serving p).img.busy = false := State.busy_eq_false hw hr
  have hnone : (s.serving p).img.waiting = [] := hq
  rw [exec_imageWrite h, State.imgTake_idle hidle, State.takeWaiting_badRange rfl hn, State.without_waiting hnone,
    State.answer_serving]
  rfl

end Idle

section Busy
variable (hb : s.img.writing.isSome = true ∨ s.img.replyTo.isSome = true)
include hb

theorem imageRead_waits (h : s.takes p .imageRead args) : exec (.imageRead p tag args) s = .next ({ (s.serving p) with
    img := { s.img with waiting := s.img.waiting ++ [⟨some p, tag, get16 args 0, none⟩] } } : State) := by
  have hbusy : (s.serving p).img.busy = true := State.busy_eq_true hb
  rw [exec_imageRead h, State.imgTake_busy hbusy]
  rfl

theorem imageWrite_waits (h : s.takes p .imageWrite args) :
    exec (.imageWrite p tag args) s = .next ({ (s.serving p) with img := { s.img with
      waiting := s.img.waiting ++ [⟨some p, tag, get16 args 0, some (args.drop 2)⟩] } } : State) := by
  have hbusy : (s.serving p).img.busy = true := State.busy_eq_true hb
  rw [exec_imageWrite h, State.imgTake_busy hbusy]
  rfl

end Busy

end Commands

/-- The reply of a row write: the check flag of the row as it now stands (R172). -/
theorem rowWritten_reply {q : ImgReq} (hd : q.data.isSome = true) (u : State) :
    u.imgAnswer q .ok (u.img.rows.get q.row).checkFlag = (match q.port with
      | some p => u.answer ⟨p, 0x15, q.tag⟩ .ok (putFlag (u.img.rows.get q.row).passes)
      | none => u) := by
  cases hp : q.port with
  | none => exact State.imgAnswer_none hp _ _
  | some p =>
    rw [State.imgAnswer_port hp, if_pos hd]
    rfl

/-- Settles O59: IMG takes a request at once or puts it behind the others; a completed write is stored and answered
(`State.rowWriteComplete_eq`), and then the waiting requests or a waiting RESTART follow. -/
theorem rowsAreReadAndWritten : Obligations.RowsAreReadAndWritten := by
  refine ⟨fun p tag args s n hn => ?_, fun s q d u v hp hw hd hu hv => ?_, fun s hp hw => ?_⟩
  · subst hn
    exact ⟨fun h hw hr hq => ⟨imageRead_replies hw hr hq h, imageRead_badRange hw hr hq h⟩,
      fun h hb => imageRead_waits hb h,
      fun h hw hr hq => ⟨imageWrite_begins hw hr hq h, imageWrite_badRange hw hr hq h⟩,
      fun h hb => imageWrite_waits hb h⟩
  · have hu' : s.storeRow q.row d = u := (s.storeRow_eq q.row d).trans hu.symm
    have hv' : u.imgAnswer q .ok (u.img.rows.get q.row).checkFlag = v :=
      (rowWritten_reply (by rw [hd]; rfl) u).trans hv.symm
    have himg : v.img = u.img := by rw [← hv', State.imgAnswer_img]
    have hwait : v.img.waiting = s.img.waiting := by rw [himg, hu]
    rw [exec_powered hp (i := .rowWriteComplete) rfl]
    refine ⟨fun hr => ?_, fun hr => ?_⟩
    · rw [State.rowWriteComplete_takes hw hd hu' hv' hr]
      refine ⟨fun h => ?_, fun w rest h hrow hdata => ?_,
        fun w p x h hport hx => ⟨fun hrow hdata => ?_, fun hrow => ?_⟩⟩
      · rw [h, State.takeWaiting_nil (hwait.trans h)]
      · rw [h, State.takeWaiting_write hrow hdata]
      · rw [h, State.takeWaiting_read hport hrow hdata, hx, himg]
      · rw [h, State.takeWaiting_badRange hport hrow, hx]
    · rw [State.rowWriteComplete_restarts hw hd hu' hv' hr]
      refine ⟨fun p h => by rw [State.restartAfterWrite_owed h], fun h => ?_⟩
      have hvu : v = u := hv'.symm.trans (State.imgAnswer_none h _ _)
      rw [State.restartAfterWrite_free h, hvu]
  · rw [exec_powered hp (i := .rowWriteComplete) rfl, State.rowWriteComplete_none hw]

end Sys2Proof.Machine
end

section
/-! ## A cold start of an erased image is the reset state (R40, R55, R174) -/

set_option Elab.async false

namespace Sys2Proof.Machine

/-- A bank whose units are all the same. -/
theorem ofFn_const {α : Type} {n : Nat} {f : Fin n → α} {x : α} (h : ∀ i, f i = x) :
    Vector.ofFn f = Vector.replicate n x := vector_ext fun i => by simp [h]

/-! ### What an erased image loads -/

/-- Every row that a start checks fails: the header, and the trim, policy, notice and pictogram rows. -/
theorem failing_erased : Rows.failing [] = failedErased := by
  simp [Rows.failing, Rows.passes, Rows.find, failedErased]

theorem reset_header : State.reset.img.header = none := rfl

/-- The trim rows failed (R63). -/
theorem reset_trim (c : Fin 16) : State.reset.img.trim c.val = (.default, true) := by
  revert c
  decide

/-- The image and the clock after a cold start of an erased image. -/
theorem imageAtStart_erased {m : ImgUnit} (h : m.rows = []) :
    State.imageAtStart .powerCold m = State.reset.img := by
  rw [State.imageAtStart, h, failing_erased]
  rfl

theorem reset_mapUnit : State.reset.img.mapUnit = .erased := ImgUnit.mapUnit_noHeader reset_header

/-- Every channel is enabled, with the default trim (R16, R63). -/
theorem channelTable_erased : channelTable State.reset.img = tableErased := by
  refine ofFn_const fun c => ?_
  rw [reset_trim, ImgUnit.startEnable, reset_header]

theorem scanList_erased : scanList tableErased = List.finRange 16 := by
  simp [scanList, tableErased]

/-- No gate has a record. -/
theorem gate?_erased {s : State} (h : s.img = State.reset.img) (g : Nat) : s.gate? g = none := by
  rw [State.gate?, h, ImgUnit.gate?, ImgUnit.counts, reset_header]
  rfl

namespace State

/-! ### The start actions without orders, paths, signs and gates -/

variable {s : State}

/-- ORD finds an empty table and marks RSV dirty (R39, R40). -/
theorem startOrders_noOrders (h : s.ord.table = []) : s.startOrders = s.markDirty := by
  have hp : s.purgeOrders = s := by rw [purgeOrders, h, List.foldl_nil, ite_self]
  have he : s.expireOrders = s := by rw [expireOrders, h, List.foldl_nil]
  have hr : s.restateOrders = s := by rw [restateOrders, h, List.foldl_nil]
  rw [startOrders, hp, he, hr]

/-- Without a TRIP order no path is rebuilt (R111). -/
theorem startPaths_noOrders (h : s.ord.table = []) : s.startPaths = { s with avp := Vector.replicate 12 .atStart } := by
  have hpath : ∀ k, pathAtStart s k = .atStart := fun k => by
    rw [pathAtStart, OrdUnit.tripEntry, h]
    cases s.path? k.val <;> rfl
  rw [startPaths, ofFn_const hpath]

/-- Without gate records GTC records nothing. -/
theorem startGates_noGates (h : ∀ g, s.gate? g = none) :
    s.startGates = { s with gtc := Vector.replicate 8 .unused } := by
  have hgate : ∀ g, gateAtStart s g = .unused := fun g => by rw [gateAtStart, h]
  have hnone : ∀ g : Fin 8, ¬ (s.gate? g.val).isSome = true := fun g => by
    rw [h]
    exact Bool.false_ne_true
  rw [startGates, ofFn_const hgate]
  exact List.foldl_fixed' (fun g => if_neg (hnone g)) _

/-- No sign is in use without a valid map. -/
theorem signsInUse_invalid (hv : s.map.valid = false) : s.signsInUse = [] :=
  List.filter_eq_nil_iff.2 fun i _ => by
    rw [sign?_invalid hv]
    exact Bool.false_ne_true

theorem startSigns_invalid (hv : s.map.valid = false) :
    s.startSigns = { s with scp := ⟨[], none, .atStart, []⟩, signs := Vector.replicate 24 .atStart } := by
  rw [startSigns, signsInUse_invalid hv]

theorem startUnits_erased (himg : s.img = State.reset.img) (hv : s.map.valid = false) : s.startUnits = { s with
    mea := State.reset.mea
    rsv := ⟨Vector.replicate 32 .unknown, s.rsv.generation, false, none⟩
    cnd := Vector.replicate 6 .atStart
    scp := State.reset.scp
    signs := Vector.replicate 24 .atStart
    flc := Vector.replicate 2 .atStart } := by
  have hmea : s.startMeasure = { s with mea := State.reset.mea } := by
    rw [startMeasure, himg, channelTable_erased, scanList_erased]
    rfl
  rw [startUnits, hmea, startSigns_invalid]
  · rfl
  · exact hv

/-- The start actions under an erased image and an empty order table. -/
theorem startBlocks_erased (himg : s.img = State.reset.img) (hv : s.map.valid = false) (ht : s.ord.table = []) :
    s.startBlocks = { s with
      mea := State.reset.mea
      rsv := ⟨Vector.replicate 32 .unknown, s.rsv.generation, true, none⟩
      cnd := Vector.replicate 6 .atStart
      avp := Vector.replicate 12 .atStart
      gtc := Vector.replicate 8 .unused
      scp := State.reset.scp
      signs := Vector.replicate 24 .atStart
      flc := Vector.replicate 2 .atStart } := by
  rw [startBlocks_eq, startUnits_erased himg hv, startOrders_noOrders, startPaths_noOrders, startGates_noGates]
  · rfl
  · exact gate?_erased himg
  · exact ht
  · exact ht

/-! ### The start -/

/-- RESTARTED after a cold start of an erased image: 15 trim rows, 4 policy rows, 255 notice rows and 117 pictogram rows
failed (R170, R174). -/
theorem restartedEvent_erased (himg : s.img = State.reset.img) (hmap : s.map = .erased) (hgen : s.rsv.generation = 0) :
    s.restartedEvent .powerCold = .restarted .powerCold .erased 15 4 255 117 0 true := by
  have trims : countFailed State.reset.img.failed 67 81 = 15 := by decide +kernel
  have policies : countFailed State.reset.img.failed 82 85 = 4 := by decide +kernel
  have notices : countFailed State.reset.img.failed 86 340 = 255 := by decide +kernel
  have pictograms : countFailed State.reset.img.failed 341 457 = 117 := by decide +kernel
  rw [restartedEvent, himg, hmap, hgen, trims, policies, notices, pictograms]
  rfl

/-- A cold start with an erased image, before the start actions: RESTARTED is the only notice on every port. -/
theorem started_erased (hr : s.img.rows = []) (hw : s.img.writing = none) : s.started .powerCold = { s with
    powered := true
    img := State.reset.img
    map := .erased
    ord := ⟨[], 0, 0⟩
    rsv := { s.rsv with generation := 0 }
    prt := Vector.replicate 3 .afterReset } := by
  rw [started_eq _ hw, imageAtStart_erased hr, reset_mapUnit, startPorts, restartedEvent_erased, record]
  all_goals rfl

/-- A cold start with an erased image sets every part but the pins, the cut counter and the queue (R174). -/
theorem start_erased (hr : s.img.rows = []) (hw : s.img.writing = none) :
    s.start .powerCold = { State.reset with pins := s.pins, cuts := s.cuts, pending := s.pending } := by
  rw [start_eq, started_erased hr hw]
  exact startBlocks_erased rfl rfl rfl

/-- The reset state is the cold start of itself. -/
theorem reset_start : State.reset.start .powerCold = State.reset := start_erased rfl rfl

/-! ### The reset state meets the invariants -/

theorem reset_portsOk : State.reset.portsOk := fun p => by
  have h : State.reset.port p = .afterReset := by cases p <;> rfl
  rw [h]
  exact ⟨fun _ => rfl, by decide, by decide, by decide, by decide⟩

/-- The table is empty. -/
theorem reset_ordersOk : State.reset.ordersOk := by
  have h : State.reset.ord = ⟨[], 0, 0⟩ := rfl
  unfold ordersOk ascending OrdUnit.held OrdUnit.portPool
  rw [h]
  exact ⟨.nil, .nil, fun _ ho => absurd ho List.not_mem_nil, Nat.zero_le _, Nat.zero_le _, Nat.zero_le _,
    Nat.zero_le _, Nat.zero_le _⟩

theorem reset_queuesOk : State.reset.queuesOk := ⟨.nil, fun l => by simp [State.reset, Line.atStart]⟩

/-- A start under MAP_INVALID leaves the device quiet, and the reset state is one. -/
theorem reset_quietWithoutMap : State.reset.quietWithoutMap := by
  rw [quietWithoutMap_iff, ← reset_start, start_eq]
  intro hv
  exact startBlocks_quiet _ ((congrArg MapUnit.valid (startBlocks_frame _).map).symm.trans hv)

/-- The map is not valid. -/
theorem reset_drivesOk : State.reset.drivesOk := fun _ hv => absurd hv Bool.false_ne_true

theorem reset_pathsOk : State.reset.pathsOk := fun k => by
  have h : State.reset.avp[k] = .atStart := by simp [State.reset]
  rw [h]
  exact ⟨rfl, rfl, rfl⟩

end State

/-- Settles O5: POWER_UP without the retained memory is the cold start, which on an erased image is
`State.start_erased`. -/
theorem coldStartIsResetAndLawful : Obligations.ColdStartIsResetAndLawful :=
  ⟨fun s hr hw => (execPowerUp_lost s).trans (congrArg _ (State.start_erased hr hw)), reset_canonical,
    State.reset_portsOk, State.reset_ordersOk, State.reset_queuesOk, State.reset_quietWithoutMap, State.reset_drivesOk,
    State.reset_pathsOk⟩

end Sys2Proof.Machine
end
